-- ==== Sys2Proof/Word.lean ====
section
/-!
DEFINITION. The word type of the register space (R11: registers are 32 bits) and the byte type of the memories.
-/

namespace Sys2Proof

/-- A register word. -/
abbrev Word := BitVec 32

/-- A byte of a memory. -/
abbrev Byte := BitVec 8

end Sys2Proof
end

