-- ==== Sys2Proof/Config.lean ====
section
/-!
DEFINITION. What the spec leaves open, as opaque constants: nothing in Lean can evaluate one, so a claim that is
proved holds whatever the hardware does there. Each is named in a row of notes/assumptions/.
-/

namespace Sys2Proof.Config

/-- A free value: the counter `State.freeCtr` is its argument, so each use gets a value of its own
(notes/assumptions/4.md). -/
opaque free : Nat → Nat

/-- What a byte of DRAM that nothing has written since the last loss of contents reads as (R479). The first
argument counts the losses (notes/assumptions/5.md). -/
opaque unwrittenDram : Nat → Nat → Byte

/-- The 2 MiB page from which the plan of sequence number `seq` searches for room for the buffer `kind`, `index` (R54
gives the sizes and leaves the addresses to the plan; notes/assumptions/12.md). -/
opaque planBase : (seq kind index : Nat) → Nat

/-- The verdict of an ML-DSA-87 verification over key, digest and signature bytes (R407 names FIPS 204, whose
arithmetic the spec does not repeat; notes/assumptions/40.md). -/
opaque mlDsaVerify : (key digest signature : List Byte) → Bool

/-- The ML-DSA-87 signature Heartwood makes over a message with the key of the part (R418). -/
opaque mlDsaSign : (key message : List Byte) → List Byte

/-- A fuse bit as the part left manufacture and service before the model's start (Table BOOT-4; notes/assumptions/41.md). -/
opaque fuseBit : Nat → Bool

/-- A byte of the board's flash before the model's start, by flash offset (R405; notes/assumptions/41.md). -/
opaque flashByte : Nat → Byte

/-- Size of the board's flash: 32 MiB × 2^(this mod 4) (R405; notes/assumptions/41.md). -/
opaque flashLog : Nat

/-- UNIT_STATE.MAIN of a unit, from the states its status registers show: the spec does not say which instance's state is
the principal one (notes/assumptions/42.md). -/
opaque unitMain : (unit : Nat) → (states : List Nat) → Nat

/-- Version byte of a unit's ROM microcode (UNIT_ID.UCODE, notes/assumptions/42.md). -/
opaque romUcode : Nat → Nat

/-- SLR_SOF_LAT in ns at a line rate code and lane count: the spec gives no number (R89; notes/assumptions/42.md). -/
opaque sofLat : (rate lanes : Nat) → Nat

/-- Level that the board drives on a GPIO ball that the part does not drive, by ball and CLK_CTL cycle (R467;
notes/assumptions/42.md). -/
opaque gpioIn : (ball cycle : Nat) → Bool

/-- Silicon stepping of the part less 1 (DEV_STEPPING; notes/assumptions/42.md). -/
opaque stepping : Nat

/-- Byte `i` of an entry of the error log, of its SQ ID, CID, status, SLBA, NBLK and media time: Table HIF-8 gives the fields
and not their places (notes/assumptions/45.md). -/
opaque errLogByte : (sq cid status slba nblk timeNs i : Nat) → Byte

/-- Fields of a CLIP_LAYOUT section, by number: 0 to 5 the base, blocks, metadata start and blocks, user start and blocks; 6 + 4r to
9 + 4r INDEX_START, INDEX_ENTRIES, DATA_START, DATA_BLOCKS of reel r; 38 HIF_WBUF_BYTES (notes/assumptions/46.md). -/
opaque clipField : (bytes : List Byte) → (n : Nat) → Nat

/-- Whether the plan that the ledger computes differs from the digest in a LEDGER_PLAN section: the spec gives no byte form of a
plan (R409). The second argument is the plan's sequence number (notes/assumptions/46.md). -/
opaque planDiffers : (bytes : List Byte) → (seq : Nat) → Bool

end Sys2Proof.Config
end

