-- ==== Sys2Proof/Machine/Types.lean ====
section
/-!
DEFINITION. The names the machine is built from: variants, units, requesters, frame boundaries, frames and their
tags, and the sparse maps that hold registers, tables and memory.
-/

namespace Sys2Proof.Machine

/-- The three variants of Table SCOPE-2. -/
inductive Variant
  | el9640 | el9630 | el9620
  deriving DecidableEq, Repr

/-- The twelve units of Table JRN-1. -/
inductive UnitId
  | slr | rfe | cse | pcd | rpk | ore | apu | rtu | mss | hif | scc | htp
  deriving DecidableEq, Repr

/-- Unit IDs of Table JRN-1. -/
def UnitId.id : UnitId → Nat
  | .slr => 1 | .rfe => 2 | .cse => 3 | .pcd => 4 | .rpk => 5 | .ore => 6
  | .apu => 7 | .rtu => 8 | .mss => 9 | .hif => 10 | .scc => 11 | .htp => 12

/-- The unit of a unit ID. -/
def UnitId.ofId : Nat → Option UnitId
  | 1 => some .slr | 2 => some .rfe | 3 => some .cse | 4 => some .pcd | 5 => some .rpk | 6 => some .ore
  | 7 => some .apu | 8 => some .rtu | 9 => some .mss | 10 => some .hif | 11 => some .scc | 12 => some .htp
  | _ => none

/-- The units in the order of their IDs. -/
def UnitId.all : List UnitId := [.slr, .rfe, .cse, .pcd, .rpk, .ore, .apu, .rtu, .mss, .hif, .scc, .htp]

/-- Who sends a register access (Table CPL-2). -/
inductive Requester
  | host
  | mgmt
  | sapwood (core : Fin 4)
  | heartwood
  | unit (u : UnitId) (inst : Fin 256)
  deriving DecidableEq, Repr

/-- Requester codes of Table CPL-2. -/
def Requester.code : Requester → Nat
  | .host => 0x0A00
  | .mgmt => 0x0A01
  | .sapwood c => 0x0B00 + c.val
  | .heartwood => 0x0B10
  | .unit u i => u.id * 0x100 + i.val

/-- A unit instance whose frame boundary applies the values committed to it (Table JRN-3). `none` is an owner without
a boundary of its own. -/
inductive Bnd
  | none
  | link (l : Nat)
  | rfe
  | scene
  | pcd (s : Nat)
  | rpk (e : Nat)
  | tg (t : Nat)
  | ri (r : Nat)
  | apu (p : Nat)
  | wrap (c : Nat)
  deriving DecidableEq, Repr

/-- What a frame carries from unit to unit: source time stamp (media time, ns), the frame counter of each path that
accepted it (R20), its incomplete flag and its poisoned tiles (R27). -/
structure FrameTag where
  /-- the source of the frame -/
  src : Nat
  /-- sequence of the frame at its source (SLR_SOF_SEQ) -/
  seq : Nat
  stamp : Nat
  /-- (path, frame counter) for each path that accepted it -/
  accepted : List (Nat × Nat)
  /-- (path, frame counter) for each path of the source, accepted or not -/
  begun : List (Nat × Nat)
  incomplete : Bool
  poison : List Nat
  deriving DecidableEq, Repr

/-- No frame. -/
def FrameTag.empty : FrameTag :=
  { src := 0, seq := 0, stamp := 0, accepted := [], begun := [], incomplete := false, poison := [] }

/-- What the pool finds when it follows a queue's pointers (R361, R364): no error, a mismatch of the list pointers, a
link word parity error, or a mismatch of the bank pointers; and of the free list, words that fail parity, with the free
cells that they hide until the rebuild ends (R366). -/
inductive PtrFault
  | ok | listMismatch | linkParity | bankMismatch
  | freeParity (hidden : Nat)
  deriving DecidableEq, Repr

/-! ### Sparse maps: key and value pairs, keys strictly rising -/

/-- A sparse map from numbers. -/
abbrev SMap (α : Type) := List (Nat × α)

/-- The entry of a key. -/
def SMap.lookup {α : Type} (m : SMap α) (k : Nat) : Option α :=
  match m with
  | [] => none
  | (a, b) :: t => if a = k then some b else SMap.lookup t k

/-- Put an entry where its key belongs. -/
def SMap.insert {α : Type} (m : SMap α) (k : Nat) (v : α) : SMap α :=
  match m with
  | [] => [(k, v)]
  | (a, b) :: t => if k < a then (k, v) :: (a, b) :: t else if a = k then (k, v) :: t else (a, b) :: SMap.insert t k v

/-- Take every entry of a key away. -/
def SMap.erase {α : Type} (m : SMap α) (k : Nat) : SMap α :=
  match m with
  | [] => []
  | (a, b) :: t => if a = k then SMap.erase t k else (a, b) :: SMap.erase t k

/-- Keep the entries whose key passes a test. -/
def SMap.keep {α : Type} (m : SMap α) (p : Nat → Bool) : SMap α := m.filter (fun e => p e.1)

/-- Keys strictly rising: the canonical form of every sparse map. -/
def SMap.wf {α : Type} : SMap α → Bool
  | [] => true
  | [_] => true
  | (a, _) :: (b, v) :: t => decide (a < b) && SMap.wf ((b, v) :: t)

/-- A map whose unlisted keys read `d`: its value at a key. -/
def SMap.getD {α : Type} (m : SMap α) (d : α) (k : Nat) : α := (SMap.lookup m k).getD d

/-- A map whose unlisted keys read `d`: storing a value, so that no entry equals what an unlisted key reads as. -/
def SMap.setD {α : Type} [DecidableEq α] (m : SMap α) (d : α) (k : Nat) (v : α) : SMap α :=
  if v = d then SMap.erase m k else SMap.insert m k v

/-- Replace one element of a vector. -/
def upd {α : Type} {n : Nat} (v : Vector α n) (i : Fin n) (f : α → α) : Vector α n := v.set i.val (f v[i]) i.isLt

/-- Replace the element at a number, where there is one. -/
def updN {α : Type} {n : Nat} (v : Vector α n) (i : Nat) (f : α → α) : Vector α n :=
  if h : i < n then v.set i (f (v[i])) h else v

/-- The element at a number, or `d` beyond the end. -/
def getN {α : Type} {n : Nat} (v : Vector α n) (i : Nat) (d : α) : α := if h : i < n then v[i] else d

end Sys2Proof.Machine
end

