-- ==== Sys2Proof/Machine/Bits.lean ====
section
/-!
DEFINITION. Numbers and bytes: fields of a word, two's complement, little-endian byte strings, rounding divisions and
saturating counters.
-/

namespace Sys2Proof.Machine

/-- Bits hi:lo of a number. -/
def bits (v hi lo : Nat) : Nat := v / 2 ^ lo % 2 ^ (hi + 1 - lo)

/-- Bit n of a number. -/
def bitAt (v n : Nat) : Bool := v / 2 ^ n % 2 == 1

/-- A number with bits hi:lo replaced. -/
def setBits (v hi lo x : Nat) : Nat :=
  v - bits v hi lo * 2 ^ lo + x % 2 ^ (hi + 1 - lo) * 2 ^ lo

/-- 1 or 0. -/
def b2n (b : Bool) : Nat := if b then 1 else 0

/-- Smallest integer not below a ÷ b. -/
def ceilDiv (a b : Nat) : Nat := (a + b - 1) / b

/-- a ÷ b to nearest, halves up. -/
def roundDiv (a b : Nat) : Nat := (2 * a + b) / (2 * b)

/-- An n-bit two's complement number. -/
def toSigned (n v : Nat) : Int := if v % 2 ^ n < 2 ^ (n - 1) then (v % 2 ^ n : Nat) else ((v % 2 ^ n : Nat) : Int) - 2 ^ n

/-- The n-bit two's complement form of an integer, wrapping. -/
def ofSigned (n : Nat) (v : Int) : Nat := (v % (2 ^ n : Int)).toNat

/-- Clamp an integer. -/
def clampI (lo hi v : Int) : Int := if v < lo then lo else if hi < v then hi else v

/-- Clamp a number. -/
def clampN (lo hi v : Nat) : Nat := if v < lo then lo else if hi < v then hi else v

/-- Division of integers to nearest, halves away from zero. -/
def roundDivI (a : Int) (b : Nat) : Int :=
  if a < 0 then -((roundDiv a.natAbs b : Nat) : Int) else (roundDiv a.natAbs b : Nat)

/-- n little-endian bytes of a number. -/
def leBytes (n v : Nat) : List Byte :=
  match n with
  | 0 => []
  | k + 1 => BitVec.ofNat 8 (v % 256) :: leBytes k (v / 256)

/-- The number of a little-endian byte string. -/
def leVal (b : List Byte) : Nat :=
  match b with
  | [] => 0
  | x :: t => x.toNat + 256 * leVal t

/-- Big-endian value of a byte string. -/
def beVal (b : List Byte) : Nat := b.foldl (fun a x => a * 256 + x.toNat) 0

/-- n big-endian bytes of a number. -/
def beBytes (n v : Nat) : List Byte := (leBytes n v).reverse

/-- n zero bytes. -/
def zeros (n : Nat) : List Byte := List.replicate n 0

/-- Bytes [o, o + n) of a string, zero beyond its end. -/
def bytesAt (b : List Byte) (o n : Nat) : List Byte :=
  ((b.drop o).take n) ++ zeros (n - ((b.drop o).take n).length)

/-- The string with the bytes from o on replaced (the string keeps its length). -/
def putBytes (b : List Byte) (o : Nat) (x : List Byte) : List Byte :=
  (b.take o ++ x ++ b.drop (o + x.length)).take b.length

/-- The n lowest bits of a number, most significant first. -/
def msbBits (n v : Nat) : List Bool :=
  match n with
  | 0 => []
  | k + 1 => bitAt v k :: msbBits k v

/-- The value of a bit string, most significant first. -/
def ofMsbBits (b : List Bool) : Nat := b.foldl (fun a x => 2 * a + b2n x) 0

/-- The n lowest bits of a number, least significant first. -/
def lsbBits (n v : Nat) : List Bool :=
  match n with
  | 0 => []
  | k + 1 => (v % 2 == 1) :: lsbBits k (v / 2)

/-- Saturating 32-bit addition (the counters of the spec saturate). -/
def sat32 (v : Nat) : Nat := if v < 0xFFFFFFFF then v else 0xFFFFFFFF

/-- Cut a list into groups of n (the last may be short); `fuel` bounds the number of groups. -/
def chunksF {α : Type} (fuel n : Nat) (l : List α) : List (List α) :=
  match fuel with
  | 0 => []
  | k + 1 => if l.isEmpty then [] else l.take n :: chunksF k n (l.drop n)

/-- Cut a list into groups of n (the last may be short). -/
def chunks {α : Type} (n : Nat) (l : List α) : List (List α) := chunksF l.length n l

/-- Sum of a list. -/
def sumN (l : List Nat) : Nat := l.foldl (· + ·) 0

/-- Largest element of a list, 0 of the empty list. -/
def maxN (l : List Nat) : Nat := l.foldl max 0

/-- Elements of a list without repeats, first occurrences kept. -/
def dedup {α : Type} [DecidableEq α] (l : List α) : List α :=
  l.foldl (fun acc x => if acc.contains x then acc else acc ++ [x]) []

/-- Insert into a list sorted by a key, after equal keys. -/
def insertBy {α : Type} (key : α → Nat) (x : α) : List α → List α
  | [] => [x]
  | y :: t => if key x < key y then x :: y :: t else y :: insertBy key x t

/-- Stable sort by a key, rising. -/
def sortBy {α : Type} (key : α → Nat) (l : List α) : List α := l.foldl (fun acc x => insertBy key x acc) []

end Sys2Proof.Machine
end

