-- ==== Sys2Proof/Machine/Crc.lean ====
section
/-!
DEFINITION. The check codes of the spec: CRC-8 (R67), CRC-16 and CRC-32 (R72), the 64-bit DRAM detection code (R344)
and SHA3-512 (the image digests of R407 to R410).
-/

namespace Sys2Proof.Machine

/-- One step of an MSB-first CRC of width n with polynomial `poly`. -/
def crcStep (n poly : Nat) (crc : Nat) (x : Bool) : Nat :=
  let fb := bitAt crc (n - 1) != x
  let c := crc * 2 % 2 ^ n
  if fb then c ^^^ poly else c

/-- An MSB-first CRC over a bit string. -/
def crcBits (n poly init : Nat) (b : List Bool) : Nat := b.foldl (crcStep n poly) init

/-- CRC8 of a marker, over its bits 63:8 (R67). -/
def crc8 (marker : Nat) : Nat := crcBits 8 0x07 0xFF (msbBits 56 (marker / 256))

/-- HCRC of a packet header, over word 0 and word 1 bits 31:16 (R72). -/
def hcrc (w0 w1hi : Nat) : Nat := crcBits 16 0x1021 0xFFFF (msbBits 32 w0 ++ msbBits 16 w1hi)

/-- One bit of the reflected IEEE 802.3 CRC-32. -/
def crc32Bit (c : Nat) : Nat := if c % 2 = 1 then (c / 2) ^^^ 0xEDB88320 else c / 2

/-- One byte of the IEEE 802.3 CRC-32. -/
def crc32Byte (c : Nat) (b : Byte) : Nat :=
  crc32Bit (crc32Bit (crc32Bit (crc32Bit (crc32Bit (crc32Bit (crc32Bit (crc32Bit (c ^^^ b.toNat))))))))

/-- The IEEE 802.3 CRC-32: initial value and final XOR 0xFFFF_FFFF, reflected (R72). -/
def crc32 (b : List Byte) : Nat := (b.foldl crc32Byte 0xFFFFFFFF) ^^^ 0xFFFFFFFF

/-- The detection code of a 64-byte burst at a system address (R344): data bits, each byte from bit 0, then address
bits [39:6] zero-extended to 64, from bit 0. -/
def crc64 (a : Nat) (data : List Byte) : Nat :=
  crcBits 64 0x42F0E1EBA9EA3693 0xFFFFFFFFFFFFFFFF
    ((data.map (fun x => lsbBits 8 x.toNat)).flatten ++ lsbBits 64 (a / 64 % 0x400000000))

/-- The poison code of a burst: its code inverted (R345). -/
def poisonCode (code : Nat) : Nat := code ^^^ 0xFFFFFFFFFFFFFFFF

/-! ### SHA3-512 (FIPS 202) -/

/-- Rotate a 64-bit lane left. -/
def rotl64 (v n : Nat) : Nat := (v * 2 ^ (n % 64) + v / 2 ^ (64 - n % 64)) % 2 ^ 64

/-- Lane (x, y) of a state. -/
def lane (a : List Nat) (x y : Nat) : Nat := a.getD (x % 5 + 5 * (y % 5)) 0

/-- Rotation offsets of the rho step, lane x + 5y. -/
def keccakRho : List Nat :=
  [0, 1, 62, 28, 27, 36, 44, 6, 55, 20, 3, 10, 43, 25, 39, 41, 45, 15, 21, 8, 18, 2, 61, 56, 14]

/-- Round constants of the iota step. -/
def keccakRc : List Nat :=
  [0x0000000000000001, 0x0000000000008082, 0x800000000000808A, 0x8000000080008000, 0x000000000000808B,
   0x0000000080000001, 0x8000000080008081, 0x8000000000008009, 0x000000000000008A, 0x0000000000000088,
   0x0000000080008009, 0x000000008000000A, 0x000000008000808B, 0x800000000000008B, 0x8000000000008089,
   0x8000000000008003, 0x8000000000008002, 0x8000000000000080, 0x000000000000800A, 0x800000008000000A,
   0x8000000080008081, 0x8000000000008080, 0x0000000080000001, 0x8000000080008008]

/-- One round of Keccak-f[1600]. -/
def keccakRound (a : List Nat) (rc : Nat) : List Nat :=
  let c := (List.range 5).map (fun x => lane a x 0 ^^^ lane a x 1 ^^^ lane a x 2 ^^^ lane a x 3 ^^^ lane a x 4)
  let d := (List.range 5).map (fun x => c.getD ((x + 4) % 5) 0 ^^^ rotl64 (c.getD ((x + 1) % 5) 0) 1)
  let t := (List.range 25).map (fun i => a.getD i 0 ^^^ d.getD (i % 5) 0)
  let r := (List.range 25).map (fun i => rotl64 (t.getD i 0) (keccakRho.getD i 0))
  -- pi: B[y, 2x + 3y] = r[x, y]; entry (u, v) comes from x = u + 3v, y = u
  let b := (List.range 25).map (fun i => lane r (i % 5 + 3 * (i / 5)) (i % 5))
  let x := (List.range 25).map (fun i =>
    lane b (i % 5) (i / 5) ^^^ ((lane b (i % 5 + 1) (i / 5) ^^^ (2 ^ 64 - 1)) &&& lane b (i % 5 + 2) (i / 5)))
  match x with
  | [] => []
  | h :: rest => (h ^^^ rc) :: rest

/-- The permutation Keccak-f[1600]. -/
def keccakF (a : List Nat) : List Nat := keccakRc.foldl keccakRound a

/-- Absorb one 72-byte block. -/
def keccakAbsorb (a : List Nat) (blk : List Byte) : List Nat :=
  keccakF ((List.range 25).map (fun i => a.getD i 0 ^^^ (if i < 9 then leVal (bytesAt blk (8 * i) 8) else 0)))

/-- SHA3-512 of a byte string: 64 bytes. -/
def sha3 (m : List Byte) : List Byte :=
  let padLen := 72 - m.length % 72
  let pad : List Byte := if padLen = 1 then [0x86] else [0x06] ++ zeros (padLen - 2) ++ [0x80]
  let st := (chunks 72 (m ++ pad)).foldl keccakAbsorb (List.replicate 25 0)
  ((List.range 8).map (fun i => leBytes 8 (st.getD i 0))).flatten

end Sys2Proof.Machine
end

