-- ==== Sys2Proof/Machine/StCore.lean ====
section
/-!
DEFINITION. State of the parts that every unit shares: the checks in progress, the Change Set, the plan in force, the
paths, the removal and graft of units, the event writer and what leaves the part.
Rules of 01_frame_journey.md, 02_enabling_and_the_deadline_ledger.md and 18_unit_reset_and_faults.md.
-/

namespace Sys2Proof.Machine

/-- A request that the consistency check serialises (R34, R35, R443). -/
inductive CheckReq
  | enable (u : UnitId)
  | disable (u : UnitId)
  | commit
  | reset (u : UnitId)
  /-- a power state command (R424, R431), with the CID of its SET_POWER -/
  | power (target : Nat) (cid : Option Nat)
  /-- a write to DEV_GPIO_FN(n) (R467), and to SCC_CP_WR_CFG(k) and SCC_CP_RD_CFG(k) (R369, R370) -/
  | gpio (n : Nat) (v : Word)
  | wrPort (k : Nat) (v : Word)
  | rdPort (k : Nat) (v : Word)
  deriving DecidableEq, Repr

/-- A value of an accepted Change Set that has not taken effect yet (R42). -/
structure Accepted where
  ofs : Nat
  val : Word
  /-- bits of the register that this value covers: all of them, or the bits of RTU_FOLLOW that one instance takes -/
  mask : Word
  /-- CLK_CTL cycle of the acceptance (R22) -/
  since : Nat
  deriving DecidableEq, Repr

/-- A PENDING Change Set: ALIGN, PATH and FRAME as they stood at its commit (R42). -/
structure PendingCs where
  align : Bool
  path : Nat
  frame : Nat
  vals : List Accepted
  deriving DecidableEq, Repr

/-- A claim of a resource of Table LDG-1: kind, index, the mode it is claimed in (Ethernet), the claimant's unit,
instance and word offset. -/
structure Claim where
  kind : Nat
  index : Nat
  mode : Nat
  unit : Nat
  inst : Nat
  ofs : Nat
  deriving DecidableEq, Repr

/-- What a plan buffer holds: KIND of Table MSS-5, with the roles the model tells apart. -/
inductive BufKind
  | corrRaw | origRaw | history | render | pcdRef | motion | packed | table | eventLog | lineage | sapwood
  deriving DecidableEq, Repr

/-- One buffer that the plan lays out (R54, R346). -/
structure PlanBuf where
  kind : BufKind
  /-- producer unit and instance -/
  unit : Nat
  inst : Nat
  /-- which of the buffers of this kind and instance -/
  slot : Nat
  base : Nat
  bytes : Nat
  stride : Nat
  width : Nat
  height : Nat
  bpp : Nat
  planar : Nat
  recomputable : Bool
  deriving DecidableEq, Repr

/-- One booked path of the plan in force (R45, R52 to R57). -/
structure Booking where
  path : Nat
  /-- source of the path: 0, 1 links; 2 to 5 Return Ingest; 6, 7 decode sessions 4, 5 -/
  src : Nat
  /-- SINK_KIND and SINK_INDEX -/
  kind : Nat
  idx : Nat
  /-- instances the chain passes, as frame boundaries -/
  chain : List Bnd
  /-- units the chain passes -/
  units : List Nat
  /-- a unit of the chain was disabled or the path undeclared: it accepts no frame, and its accepted frames complete (R24, R35) -/
  leaving : Bool
  deriving DecidableEq, Repr

/-- The plan in force. -/
structure Plan where
  bookings : List Booking
  bufs : List PlanBuf
  /-- buffers of the plan itself; those after them stay until the paths that leave have no frame -/
  own : Nat
  deriving DecidableEq, Repr

/-- No plan. -/
def Plan.empty : Plan := { bookings := [], bufs := [], own := 0 }

/-- What a path keeps beside its registers. -/
structure PathSt where
  lastAcc : Nat
  lastDel : Nat
  /-- accepted frames not yet delivered or abandoned -/
  inFlight : List Nat
  /-- channels that have not wrapped onto the table that holds the path's reservations (R36) -/
  waitWrap : List Nat
  /-- shed by a graft (R445) -/
  graftShed : Bool
  /-- the path has passed a source boundary since the graft shed it -/
  graftPassed : Bool
  deriving DecidableEq, Repr

/-- A path at reset. -/
def PathSt.reset : PathSt :=
  { lastAcc := 0, lastDel := 0, inFlight := [], waitWrap := [], graftShed := false, graftPassed := false }

/-- Why a unit's sideband asserts (R439). -/
inductive Cause
  | reset | graft | power | thermal
  deriving DecidableEq, Repr

/-- A unit's removal in progress. -/
structure Removal where
  cause : Cause
  /-- cycle in which the sideband asserted -/
  since : Nat
  /-- the drain window has ended (step 4 of Table FLT-1) -/
  drained : Bool
  deriving DecidableEq, Repr

/-- Stage of a graft (R445): paths shed and waiting for the graft point, or removed and loading. -/
inductive GraftStage
  | idle | shedding | removed
  deriving DecidableEq, Repr

/-- What the fabric keeps about a unit. -/
structure UnitSt where
  removal : Option Removal
  /-- causes other than the first that hold the sideband -/
  reqReset : Bool
  graft : GraftStage
  /-- its ENABLE is cleared, and it finishes accepted frames (R24, R35, R92) -/
  leaving : Bool
  /-- version byte of microcode loaded at boot or by a graft (UNIT_ID.UCODE); none: the ROM's -/
  ucode : Option Nat
  deriving DecidableEq, Repr

/-- A unit at reset. -/
def UnitSt.reset : UnitSt := { removal := none, reqReset := false, graft := .idle, leaving := false, ucode := none }

/-- A message to the event writer (Table FLT-4). -/
structure EvtMsg where
  timeNs : Nat
  unit : Nat
  inst : Nat
  code : Nat
  cls : Nat
  flags : Nat
  frame : Nat
  arg0 : Nat
  arg1 : Nat
  deriving DecidableEq, Repr

/-- The event writer: up to 256 messages, and whether one was dropped since the last record (R449). -/
structure EvtWriter where
  queue : List EvtMsg
  lost : Bool
  deriving DecidableEq, Repr

/-- Snapshot in progress or waiting (R448): where it goes and the bytes captured. -/
inductive SnapDest
  | dram (addr : Nat)
  | host (qp : Nat) (cid : Nat) (addr : Nat) (pages : List Nat)
  deriving DecidableEq, Repr

/-- The snapshot engine: the snapshot being written out, and the requests waiting for it. -/
structure SnapSt where
  writing : Option (SnapDest × List Byte)
  waiting : List SnapDest
  deriving DecidableEq, Repr

/-- What leaves the part, newest first (the model's own record of its outputs, notes/assumptions/8.md). -/
inductive Out
  | delivered (path frame : Nat)
  | abandoned (path lo hi : Nat)
  | msix (vector addr data : Nat)
  | mgmtInt (level : Bool)
  | coreInt (core unit : Nat)
  | hostWrite (addr : Nat) (data : List Byte)
  | hostRead (addr len : Nat)
  | trigger (n : Nat) (level : Bool) (mediaNs : Nat)
  | sensorBus (bus : Nat) (entry : List Nat)
  | sdiFrame (group : Nat) (words : List Nat)
  | video (sink index : Nat) (line : Nat) (pixels : List Nat)
  | panel (port : Nat) (what : Nat)
  | aux (port : Nat) (cmd : List Nat)
  | packet (eth : Nat) (bytes : List Byte)
  | audio (port : Nat) (slots : List Nat)
  | ltc (bits : List Bool)
  | gpio (ball : Nat) (level : Bool)
  | unsupportedRequest (addr : Nat)
  | completerAbort (addr : Nat)
  | readData (addr : Nat) (data : List Byte)
  | poisonedData (addr : Nat) (data : List Byte)
  | mgmtReply (status : Nat) (data : Nat)
  | memCommand (channel : Nat) (kind : Nat) (arg : Nat)
  | memReply (port : Nat) (addr : Nat) (status : Nat) (data : List Byte)
  | keeper (pin : Nat) (level : Bool)
  | thermTrip
  deriving DecidableEq, Repr

end Sys2Proof.Machine
end

