-- ==== Sys2Proof/Machine/StMem.lean ====
section
/-!
DEFINITION. State of the Cell Pool and the locks (14_cell_pool_and_locks.md), of the memory subsystem and of the clip
store's reels (13_memory_subsystem.md).
-/

namespace Sys2Proof.Machine

/-! ### Cell Pool -/

/-- A cell: 64 bytes, its poison tag (one bit per 64-bit word, R367) and its number in the pool. -/
structure PCell where
  data : List Byte
  poison : Nat
  num : Nat
  deriving DecidableEq, Repr

/-- An item: cells committed together (R356). -/
abbrev Item := List PCell

/-- MODE of SCC_CPQ_STATUS. -/
inductive QMode
  | pool | sweeping | fallback | reinstating
  deriving DecidableEq, Repr

/-- Codes of MODE. -/
def QMode.code : QMode → Nat
  | .pool => 0 | .sweeping => 1 | .fallback => 2 | .reinstating => 3

/-- A queue of the Cell Pool. -/
structure QueueSt where
  mode : QMode
  /-- the pool list: items in commit order; the first may have been read in part -/
  list : List Item
  /-- cells of the first unread item already read from wherever the consumer reads -/
  partRead : Bool
  /-- draining and filling banks of R364 -/
  drain : List Item
  fill : List Item
  /-- RESET requested the sweep in progress (R363) rather than an error (R362) -/
  bySw : Bool
  /-- media time (ns) of the last read, or commit into the empty queue (R360) -/
  idleFrom : Nat
  idleFired : Bool
  deriving DecidableEq, Repr

/-- An empty queue in pool mode. -/
def QueueSt.empty : QueueSt :=
  { mode := .pool, list := [], partRead := false, drain := [], fill := [], bySw := false, idleFrom := 0,
    idleFired := false }

/-- The Cell Pool. -/
structure PoolSt where
  /-- queues that differ from an empty queue in pool mode -/
  queues : SMap QueueSt
  /-- posts that wait for a free-list rebuild (R366) -/
  waiting : List (Nat × List PCell)
  /-- cells hidden by free-list words under rebuild -/
  hidden : Nat
  /-- hardware consumers notified of a queue (R360), newest first -/
  notified : List Nat
  deriving DecidableEq, Repr

/-- State of a hardware lock (R371 to R373). -/
inductive LockState
  | free | held | broken
  deriving DecidableEq, Repr

/-- Codes of SCC_LOCK_PEEK. -/
def LockState.code : LockState → Nat
  | .free => 0 | .held => 1 | .broken => 2

/-- A hardware lock with its owner, or its old owner while BROKEN. -/
structure LockSt where
  st : LockState
  owner : Nat
  deriving DecidableEq, Repr

/-! ### DRAM channels -/

/-- A request at a channel: port of Table MSS-4, direction, burst address, byte enables and data of a write, class,
and when it came (cycle). -/
structure MemReq where
  port : Nat
  write : Bool
  addr : Nat
  enables : List Bool
  data : List Byte
  control : Bool
  coppice : Bool
  since : Nat
  deriving DecidableEq, Repr

/-- What a read finds: its code matches what the burst should hold, the first read does not and the retry does, or both
do not (R345). -/
inductive DramRead
  | good | soft | hard
  deriving DecidableEq, Repr

/-- A read answered by the Lineage Table with a hold (R347). -/
structure HeldRead where
  port : Nat
  addr : Nat
  unit : Nat
  inst : Nat
  tile : Nat
  buf : Nat
  deriving DecidableEq, Repr

/-- One DRAM channel. -/
structure ChSt where
  /-- the two slot table copies: entries that are not FREE -/
  tables : Vector (SMap Nat) 2
  /-- turn of the 512-slot cycle -/
  turn : Nat
  /-- Coppice grants in the current cycle (rule 3 of R340) -/
  copUsed : Nat
  /-- grants under rules 4 and 5 since the last longest-waiting grant -/
  lwCount : Nat
  /-- ports from highest to lowest rank (rule 5) -/
  rank : List Nat
  /-- last control-class port granted (rule 2) -/
  lastControl : Nat
  waiting : List MemReq
  rdq : List MemReq
  wrq : List MemReq
  /-- the controller is writing (R335) -/
  writing : Bool
  /-- open row of each rank, bank group and bank -/
  openRows : SMap Nat
  lfsr : Nat
  /-- cycle until which a refresh or calibration stalls the channel -/
  stallUntil : Nat
  /-- neighbour refreshes not yet done -/
  nref : Nat
  retriedTraining : Bool
  deriving DecidableEq, Repr

/-- A channel at reset; its LFSR is seeded at boot (R339). -/
def ChSt.reset : ChSt :=
  { tables := Vector.replicate 2 [], turn := 0, copUsed := 0, lwCount := 0, rank := List.range 0x30, lastControl := 0,
    waiting := [], rdq := [], wrq := [], writing := false, openRows := [], lfsr := 0, stallUntil := 0, nref := 0,
    retriedTraining := false }

/-- Dynamic part of a Lineage Table entry's page: FRAME and RETAIN that the producer writes (R346). -/
structure LinDyn where
  frame : Nat
  retain : Nat
  /-- tiles recomputed in this buffer for this frame -/
  recomputed : Nat
  deriving DecidableEq, Repr

/-- A Coppice request in a producer's queue (R348). -/
structure CopReq where
  unit : Nat
  inst : Nat
  buf : Nat
  tile : Nat
  addr : Nat
  port : Nat
  deriving DecidableEq, Repr

/-- The memory subsystem. -/
structure MssSt where
  ch : Vector ChSt 16
  /-- MSS_ARB_CFG in effect (commit point wrap, R11, R342) -/
  arbEff : Word
  /-- slots per channel and requester of a plan that waits for the copies to exchange (R341) -/
  slotsWait : Option (List (Nat × Nat))
  /-- ports masked under R343 -/
  masked : List Nat
  /-- media time (ns) since which DDR_HOT has been low -/
  hotLowSince : Nat
  /-- dynamic lineage fields by buffer base address -/
  lin : SMap LinDyn
  coppice : List CopReq
  held : List HeldRead
  /-- bursts that hold the poison code, by burst number -/
  poisoned : SMap Unit
  /-- losses of DRAM contents so far -/
  epoch : Nat
  /-- capacity in bytes, from MSS_CFG (0 until boot) -/
  capacity : Nat
  deriving DecidableEq, Repr

/-! ### Clip store -/

/-- A take of a reel as its table entry holds it. -/
structure TakeInfo where
  take : Nat
  /-- 1 OPEN, 2 CLOSED -/
  st : Nat
  pinned : Bool
  openSeq : Nat
  closeSeq : Nat
  deriving DecidableEq, Repr

/-- An index ring slot in use: its take, its data blocks, and whether it is written yet. -/
structure IdxInfo where
  take : Nat
  path : Nat
  block : Nat
  blocks : Nat
  seq : Nat
  written : Bool
  deriving DecidableEq, Repr

/-- Space reserved for an accepted frame (R351). -/
structure Reservation where
  path : Nat
  frame : Nat
  /-- source time stamp of the frame -/
  stamp : Nat
  take : Nat
  slot : Nat
  block : Nat
  blocks : Nat
  deriving DecidableEq, Repr

/-- A close in progress (R486). -/
structure Closing where
  take : Nat
  timeNs : Nat
  slot : Nat
  /-- the cycle of the close, where the take was open before it: a boundary in that cycle still counts the take -/
  countsAt : Option Nat
  deriving DecidableEq, Repr

/-- A reel of the clip store. -/
structure ReelSt where
  indexStart : Nat
  indexEntries : Nat
  dataStart : Nat
  dataBlocks : Nat
  /-- take table, by entry number -/
  takes : SMap TakeInfo
  /-- index ring slots in use -/
  idx : SMap IdxInfo
  headIdx : Nat
  headData : Nat
  nextSeq : Nat
  nextTake : Nat
  /-- open take, its TAKE_CLOSE slot and the cycle in which it opened -/
  openTake : Nat
  closeSlot : Nat
  openedAt : Nat
  /-- closes in progress, while the last frames are still to be delivered -/
  closing : List Closing
  /-- a take is requested and not yet granted -/
  requested : Bool
  reservations : List Reservation
  /-- FRAME and AUDIO entries so far, by 256 × take + path, of the open take and of takes whose close is in progress -/
  frameInTake : SMap Nat
  deriving DecidableEq, Repr

/-- A reel at reset: absent until the boot opens a store. -/
def ReelSt.reset : ReelSt :=
  { indexStart := 0, indexEntries := 0, dataStart := 0, dataBlocks := 0, takes := [], idx := [], headIdx := 0,
    headData := 0, nextSeq := 0, nextTake := 1, openTake := 0, closeSlot := 0, openedAt := 0, closing := [],
    requested := false, reservations := [], frameInTake := [] }

/-- The clip store. -/
structure ClipSt where
  base : Nat
  blocks : Nat
  metaStart : Nat
  metaBlocks : Nat
  userStart : Nat
  userBlocks : Nat
  generation : Nat
  reels : Vector ReelSt 8
  /-- last written copy of the store header -/
  headerCopy : Nat
  deriving DecidableEq, Repr

/-- No clip store. -/
def ClipSt.reset : ClipSt :=
  { base := 0, blocks := 0, metaStart := 0, metaBlocks := 0, userStart := 0, userBlocks := 0, generation := 0,
    reels := Vector.replicate 8 ReelSt.reset, headerCopy := 0 }

end Sys2Proof.Machine
end

