-- ==== Sys2Proof/Machine/StSlr.lean ====
section
/-!
DEFINITION. State of the Sensor Link Receiver (03_sensor_links.md).
-/

namespace Sys2Proof.Machine

/-- A PRBS checker and generator of a lane (R83, R84): the last bits received (or generated), newest first, the
error-free run while it seeks, and errors and bits of the 65,536-bit window. -/
structure PrbsSt where
  hist : List Bool
  run : Nat
  winErr : Nat
  winBits : Nat
  deriving DecidableEq, Repr

/-- A receive lane. -/
structure LaneSt where
  /-- consecutive valid and invalid markers (R68) -/
  good : Nat
  bad : Nat
  /-- SEQ expected of the next marker -/
  nextSeq : Option Nat
  /-- LANE and LINK_ID of the markers so far -/
  laneId : Option Nat
  linkId : Nat
  /-- value and length of the run of line bits (R65) -/
  runBit : Bool
  run : Nat
  /-- arrival of the last marker in UI (R69) -/
  arrival : Nat
  /-- SEQ and words of the last whole interval, descrambled (R62, R63) -/
  words : Option (Nat × List Nat)
  /-- equaliser code chosen by tracking, to apply at a marker end (R82) -/
  moveTo : Option Nat
  lastTrack : Nat
  cdrAt : Nat
  prbs : PrbsSt
  deriving DecidableEq, Repr

/-- A lane at reset. -/
def LaneSt.reset : LaneSt :=
  { good := 0, bad := 0, nextSeq := none, laneId := none, linkId := 0, runBit := false, run := 0, arrival := 0,
    words := none, moveTo := none, lastTrack := 0, cdrAt := 0,
    prbs := { hist := [], run := 0, winErr := 0, winBits := 0 } }

/-- The format in force for a frame (latched at its FS, R21). -/
structure LinkFmt where
  width : Nat
  lines : Nat
  ob : Nat
  trd : Nat
  pack : Nat
  dg : Bool
  fillPeriod : Nat
  stream : Nat
  deriving DecidableEq, Repr

/-- A frame open on a link. -/
structure SlrFrame where
  tag : FrameTag
  fmt : LinkFmt
  pattern : Bool
  /-- good image lines: row number and samples -/
  good : SMap (List Nat)
  /-- image lines taken or filled so far, in row order: the next line whose deadline is open -/
  next : Nat
  /-- optical-black lines -/
  obLines : SMap (List Nat)
  /-- last LINE received, OB lines and image lines counted as one rising sequence -/
  lastLine : Option Nat
  /-- rows filled under R77 -/
  filled : List Nat
  runOut : Bool
  deriving DecidableEq, Repr

/-- A sensor link. -/
structure LinkSt where
  frame : Option SlrFrame
  /-- deskewed link words not yet taken as packets (R70) -/
  rx : List Nat
  /-- a header error: words are tested until an IDLE or a good header (R79) -/
  resync : Bool
  /-- an FS was lost: lines are discarded until the next good FS (R80) -/
  discard : Bool
  /-- LS packets of other streams (R73) -/
  otherStream : Nat
  /-- media time (ns) of the STOP, of the last STAT temperature -/
  stopAt : Option Nat
  statAt : Nat
  runoutClosed : Nat
  sensorFlags : Nat
  deriving DecidableEq, Repr

/-- A link at reset. -/
def LinkSt.reset : LinkSt :=
  { frame := none, rx := [], resync := false, discard := false, otherStream := 0, stopAt := none, statAt := 0,
    runoutClosed := 0, sensorFlags := 0 }

/-- A sensor control bus: words of an entry being pushed, entries waiting, the entry running and when it started. -/
structure SctlSt where
  words : List Nat
  queue : List (List Nat)
  running : Option (List Nat)
  startedAt : Nat
  /-- results in order: status and bytes read; SLR_SCTL_RESULT shows the newest -/
  results : List (Nat × List Nat)
  deriving DecidableEq, Repr

/-- The Sensor Link Receiver. -/
structure SlrSt where
  lanes : Vector LaneSt 32
  links : Vector LinkSt 2
  sctl : Vector SctlSt 3
  /-- trigger outputs: level, and media time of the last leading edge -/
  trigHigh : Vector Bool 4
  trigAt : Vector Nat 4
  deriving DecidableEq, Repr

/-- The SLR at reset. -/
def SlrSt.reset : SlrSt :=
  { lanes := Vector.replicate 32 LaneSt.reset, links := Vector.replicate 2 LinkSt.reset,
    sctl := Vector.replicate 3 { words := [], queue := [], running := none, startedAt := 0, results := [] },
    trigHigh := Vector.replicate 4 false, trigAt := Vector.replicate 4 0 }

end Sys2Proof.Machine
end

