-- ==== Sys2Proof/Machine/StRfe.lean ====
section
/-!
DEFINITION. State of the Raw Front End and its calibration engine (04_raw_front_end.md, 05_self_calibration.md).
-/

namespace Sys2Proof.Machine

/-- The counters of one frame (RFE_CNT_*, Table RFE-6). -/
structure RfeCnt where
  applied : Nat
  skipped : Nat
  dyn : Nat
  clip : Nat
  parity : Nat
  readErr : Nat
  conceal : Nat
  deriving DecidableEq, Repr

/-- A frame in the RFE. -/
structure RfeFrame where
  tag : FrameTag
  fmt : LinkFmt
  /-- stage-1 codes of the rows received or filled so far, by image row -/
  rows : SMap (List Nat)
  /-- OB lines, unpacked -/
  ob : SMap (List Nat)
  /-- next row to write -/
  next : Nat
  /-- the frame has closed at the SLR -/
  closed : Bool
  /-- sites the Defect Map Table lists: row, then column, then class (image coordinates) -/
  listed : SMap (SMap Nat)
  /-- raster keys between which lost entries are replaced by dynamic detection (R124) -/
  lost : List (Nat × Nat)
  /-- flat-field nodes lost (R125): plane, i, j -/
  ffLost : List (Nat × Nat × Nat)
  /-- table entries under parity error: table (0 black, 1 column, 2 gain), entry, row, or every row from there on -/
  neutral : List (Nat × Nat × Nat × Bool)
  cnt : RfeCnt
  /-- bursts of the Defect Map Table that failed on retry (R124) -/
  dmtLost : List Nat
  deriving DecidableEq, Repr

/-- A frame in the raw plan buffers, for its consumers: its tag (with the poisoned tiles, R122), the geometry that
readers need, and the rows written so far. -/
structure RawOut where
  tag : FrameTag
  slot : Nat
  w : Nat
  h : Nat
  /-- lattice distance (R97) -/
  d : Nat
  /-- samples per site of Corrected and of Original Raw, and coded width of Original Raw -/
  spsCorr : Nat
  spsOrig : Nat
  bits : Nat
  pedestal : Nat
  /-- RFE_CFG and RFE_ORIGIN of the frame -/
  cfg : Nat
  origin : Nat
  corr : Option Nat
  orig : Option Nat
  written : Nat
  deriving DecidableEq, Repr

/-- The RFE's correction tables, two copies each; ACTIVE, PENDING and BUSY stand in RFE_TBL_STATUS. -/
structure RfeSt where
  frame : Option RfeFrame
  /-- frames in the raw plan buffers, newest first -/
  outs : List RawOut
  /-- buffer slot of the last frame begun -/
  slot : Nat
  black : Vector (SMap Nat) 2
  col : Vector (SMap Nat) 2
  gain : Vector (SMap Nat) 2
  /-- table entries whose reload after a parity error failed: table, copy, entry (R123) -/
  bad : List (Nat × Nat × Nat)
  deriving DecidableEq, Repr

/-- The RFE at reset. -/
def RfeSt.reset : RfeSt :=
  { frame := none, outs := [], slot := 0, black := Vector.replicate 2 [], col := Vector.replicate 2 [],
    gain := Vector.replicate 2 [], bad := [] }

/-- Sums of a REFERENCE step (Table CAL-3): value and count by channel, by channel and colour, by column and row
parity, and by grid node. -/
structure CalSums where
  ch : SMap (Rat × Nat)
  chCol : SMap (Rat × Nat)
  colEven : SMap (Rat × Nat)
  colOdd : SMap (Rat × Nat)
  node : SMap (Rat × Nat)
  /-- defect candidates of the last frame, as DMT entries -/
  cand : List Nat
  deriving DecidableEq, Repr

/-- No sums. -/
def CalSums.empty : CalSums := { ch := [], chCol := [], colEven := [], colOdd := [], node := [], cand := [] }

/-- The calibration engine. -/
structure CalSt where
  eBlack : SMap Rat
  eEven : SMap Rat
  eOdd : SMap Rat
  eGain : SMap Rat
  /-- a run has completed since the unit was enabled or TRACK was entered -/
  ranOnce : Bool
  /-- software wrote RUN since the previous boundary -/
  reqRun : Bool
  /-- a run starts at the first boundary after a Change Set that discarded estimates (R137) -/
  forceRun : Bool
  /-- source of CAL_LAST_TEMP: 0 sensor, 1 diode -/
  lastSrc : Nat
  /-- temperature sampled at the boundary of the latest frame -/
  boundaryTemp : Option Nat
  /-- temperature and source sampled at the boundary of a run's or a step's last frame (R135) -/
  runTemp : Option (Nat × Nat)
  /-- tables released when the run completes (R128): black, column, gain bits -/
  release : Nat
  /-- tables the engine owns for a step (R127): black, column, gain bits -/
  stepOwn : Nat
  /-- swaps requested by the engine and not complete: black, column, gain bits -/
  engSwaps : Nat
  /-- media time at which the last of them took effect -/
  swapAt : Nat
  /-- a swap of an ACCEPT rather than of a run -/
  accepting : Bool
  /-- a step waits for the next boundary: 1 dark, 2 flat -/
  stepReq : Nat
  sums : CalSums
  staged : Bool
  deriving DecidableEq, Repr

/-- The engine at reset. -/
def CalSt.reset : CalSt :=
  { eBlack := [], eEven := [], eOdd := [], eGain := [], ranOnce := false, reqRun := false, forceRun := false,
    lastSrc := 0, boundaryTemp := none, runTemp := none, release := 0, stepOwn := 0, engSwaps := 0, swapAt := 0, accepting := false,
    stepReq := 0, sums := CalSums.empty, staged := false }

end Sys2Proof.Machine
end

