-- ==== Sys2Proof/Machine/StHif.lean ====
section
/-!
DEFINITION. State of the host interface (15_host_interface.md): queue pairs, write buffer, error log, held asynchronous
events, features.
-/

namespace Sys2Proof.Machine

/-- A command fetched from a submission queue (Table HIF-3). -/
structure HostCmd where
  op : Nat
  flags : Nat
  cid : Nat
  dptr1 : Nat
  dptr2 : Nat
  slba : Nat
  nblk : Nat
  arg0 : Nat
  arg1 : Nat
  /-- SQ head after the fetch -/
  sqHead : Nat
  /-- fetch order over all pairs -/
  order : Nat
  deriving DecidableEq, Repr

/-- A completion that waits for room in its CQ: `after` names a completion that must be posted first (R396). -/
structure Completion where
  cid : Nat
  sqHead : Nat
  status : Nat
  result : Nat
  after : Option (Nat × Nat)
  deriving DecidableEq, Repr

/-- A queue pair. -/
structure QpSt where
  outstanding : List HostCmd
  ready : List Completion
  /-- DEFERRED_ERROR on the next completion (R392) -/
  deferred : Bool
  /-- completions since the last vector, and the media time (ns) of the first of them (feature 0x01) -/
  coalesced : Nat
  coalescedAt : Nat
  deriving DecidableEq, Repr

/-- A queue pair at reset. -/
def QpSt.reset : QpSt := { outstanding := [], ready := [], deferred := false, coalesced := 0, coalescedAt := 0 }

/-- A completed WRITE whose data waits for its copy to the store (R391). -/
structure WbufEntry where
  q : Nat
  cid : Nat
  slba : Nat
  nblk : Nat
  data : List Byte
  order : Nat
  deriving DecidableEq, Repr

/-- A clip store descriptor on its way to a reel controller (R389). -/
structure ReelDesc where
  q : Nat
  cid : Nat
  op : Nat
  reel : Nat
  take : Nat
  deriving DecidableEq, Repr

/-- An entry of log page 0x01. -/
structure ErrEntry where
  sq : Nat
  cid : Nat
  status : Nat
  slba : Nat
  nblk : Nat
  timeNs : Nat
  deriving DecidableEq, Repr

/-- The host interface. -/
structure HifSt where
  qps : Vector QpSt 64
  /-- I/O pair served last (R384) -/
  lastIo : Nat
  /-- fetches and WRITE completions so far, in one order -/
  order : Nat
  wbuf : List WbufEntry
  /-- orders of WRITEs whose copy failed -/
  failed : List Nat
  descs : List ReelDesc
  /-- error log, newest first, at most 256 -/
  errLog : List ErrEntry
  /-- asynchronous events held while the admin CQ is full: RESULT words -/
  aev : List Nat
  feature1 : Nat
  feature2 : Nat
  /-- MSI-X function mask -/
  fnMask : Bool
  /-- the orderly stop of R403 has ended -/
  stopped : Bool
  /-- commands fetched from this order on are held (R402) -/
  heldFrom : Option Nat
  deriving DecidableEq, Repr

/-- The host interface at reset. -/
def HifSt.reset : HifSt :=
  { qps := Vector.replicate 64 QpSt.reset, lastIo := 0, order := 0, wbuf := [], failed := [], descs := [],
    errLog := [], aev := [], feature1 := 0, feature2 := 0, fnMask := false, stopped := false, heldFrom := none }

end Sys2Proof.Machine
end

