-- ==== Sys2Proof/Machine/StCse.lean ====
section
/-!
DEFINITION. State of the colour engine: the scene section (06_colour_pipeline.md) and the render paths
(07_render_paths.md).
-/

namespace Sys2Proof.Machine

/-- A pixel: three LF24 patterns. -/
abbrev Pixel := Nat × Nat × Nat

/-- A motion field descriptor (Table CSE-6). -/
structure MfDesc where
  frame : Nat
  dist : Nat
  addr : Nat
  valid : Bool
  bx : Nat
  by' : Nat
  wo : Nat
  ho : Nat
  cx : Nat
  cy : Nat
  cw : Nat
  ch : Nat
  session : Nat
  deriving DecidableEq, Repr

/-- The frame that the scene section emits. -/
structure SceneFrame where
  tag : FrameTag
  w : Nat
  h : Nat
  ws : Nat
  /-- TNR mode that runs: 0 OFF, 1 MA, 2 MC -/
  mode : Nat
  field : Option MfDesc
  age : Nat
  histValid : Bool
  histIn : Option Nat
  histOut : Option Nat
  /-- history pixels marked lost: row, first and last column (R167, R168) -/
  histLost : List (Nat × Nat × Nat)
  /-- bursts of the motion field that read as VALID 0 (R168) -/
  mfLost : List Nat
  /-- next row to emit, and the rows emitted -/
  next : Nat
  rows : SMap (List Pixel)
  /-- render paths that take the frame -/
  takers : List Nat
  deriving DecidableEq, Repr

/-- One on-chip LUT copy: its master region and its entries of 64 bits (R178). -/
structure LutCopy where
  addr : Nat
  data : List Nat
  deriving DecidableEq, Repr

/-- A frame that a render path is writing, with what it has measured (R189, R192). -/
structure RpFrame where
  tag : FrameTag
  slot : Nat
  base : Option Nat
  next : Nat
  /-- codes that R186 clamped so far -/
  clamped : Nat
  deriving DecidableEq, Repr

/-- A frame in a render path's ring (R189), as its consumers read it. -/
structure RenderOut where
  tag : FrameTag
  slot : Nat
  base : Option Nat
  w : Nat
  h : Nat
  fmt : Nat
  depth : Nat
  matrix : Nat
  range : Nat
  safe : Nat
  /-- crop and its origin in scene pixels -/
  crop : Nat × Nat × Nat × Nat
  gamut : Nat
  transfer : Nat
  ws : Nat
  done : Bool
  /-- CLK_CTL cycle in which it completed -/
  doneAt : Nat
  /-- table and LUT copies that applied to it (R183) -/
  tblCopy : Nat
  lutCopy : Nat
  deriving DecidableEq, Repr

/-- A render path. -/
structure RpSt where
  /-- coefficient and shaper tables, two copies, by window offset ÷ 4 as RP_TBL_MASTER orders them -/
  tbl : Vector (SMap Nat) 2
  lut : Vector LutCopy 2
  frame : Option RpFrame
  outs : List RenderOut
  /-- LOAD held for retention (R183), and table writes held for it -/
  heldLoad : Bool
  heldCopy : Bool
  heldWrites : List (Nat × Nat)
  deriving DecidableEq, Repr

/-- A render path at reset. -/
def RpSt.reset : RpSt :=
  { tbl := Vector.replicate 2 [], lut := Vector.replicate 2 { addr := 0, data := [] }, frame := none, outs := [],
    heldLoad := false, heldCopy := false, heldWrites := [] }

/-- Which line buffer a parity error strikes (R167). -/
inductive CseBuf
  /-- a raw line buffer; the refill of the row fails for these tiles -/
  | raw (failed : List Nat)
  /-- a history line buffer: row, first and last column -/
  | history (row x0 x1 : Nat)
  | demosaic
  deriving DecidableEq, Repr

/-- What the scene section keeps of the last frame it processed (R157). -/
structure LastScene where
  seq : Nat
  w : Nat
  h : Nat
  ws : Nat
  mode : Nat
  hist : Option Nat
  deriving DecidableEq, Repr

/-- The colour engine. -/
structure CseSt where
  scene : Option SceneFrame
  last : Option LastScene
  histSlot : Nat
  histReset : Bool
  /-- motion field descriptors kept (R162) -/
  mfs : List MfDesc
  rps : Vector RpSt 8
  /-- counts that the counters take with the frame's last beat (CSE_FRAME_SEQ, RP_FRAME_SEQ) -/
  late : SMap Nat
  deriving DecidableEq, Repr

/-- The colour engine at reset. -/
def CseSt.reset : CseSt :=
  { scene := none, last := none, histSlot := 0, histReset := false, mfs := [], rps := Vector.replicate 8 RpSt.reset, late := [] }

end Sys2Proof.Machine
end

