-- ==== Sys2Proof/Machine/StPcd.lean ====
section
/-!
DEFINITION. State of the picture coder's sessions (08_picture_coder.md), and what a picture's coding or decoding brings.
-/

namespace Sys2Proof.Machine

/-- What the coding of a picture produced, which the rules leave to the encoder's own decisions. -/
structure PicResult where
  /-- slice-data bits and bits with all headers of each CTU row -/
  rows : List (Nat × Nat)
  /-- CTU before which a guard of R209 held -/
  guard : Option Nat
  /-- the access unit -/
  au : List Byte
  /-- measured vector, SAD at 10 bits and VALID of each 16 × 16 block (R213) -/
  vectors : List (Int × Int × Nat × Bool)
  /-- the reconstructed picture in the reference format (R203) -/
  recon : List Byte
  deriving DecidableEq, Repr

/-- A reconstructed picture that later pictures may reference. -/
structure RefPic where
  layer : Nat
  poc : Nat
  slot : Nat
  deriving DecidableEq, Repr

/-- What rate control keeps of the last picture of a class (R205 to R207). -/
structure ClassRec where
  bits : Nat
  qp : Nat
  /-- slice-data bits of each row -/
  rows : List Nat
  deriving DecidableEq, Repr

/-- What the access unit of a picture signals (R198 to R200, R206 to R208, R211, R212). -/
structure PicHead where
  frame : Nat
  stamp : Nat
  irap : Bool
  /-- 0 I, 1 P, 2 B -/
  typ : Nat
  poc : Nat
  layer : Nat
  refs : List Nat
  qpBase : Nat
  rowQp : List Nat
  exhaustRow : Option Nat
  guard : Option Nat
  poisoned : Nat
  transfer : Nat
  fullRange : Bool
  colourPrimaries : Nat
  transferChar : Nat
  matrixCoeffs : Nat
  uuid : List Nat
  /-- hours, minutes, seconds, frames of the time code SEI -/
  timecode : Nat × Nat × Nat × Nat
  deriving DecidableEq, Repr

/-- A picture being coded. -/
structure EncPic where
  out : RenderOut
  path : Option Nat
  num : Nat
  head : PicHead
  cls : Nat
  /-- the budget of R205 and R_f -/
  budget : Int
  allowance : Nat
  /-- coded-picture distance to the nearest reference -/
  dist : Nat
  deriving DecidableEq, Repr

/-- An encode session. -/
structure EncSt where
  active : Bool
  pic : Option EncPic
  last : Option Nat
  nextPoc : Nat
  sinceIrap : Nat
  pos : Nat
  dpb : List RefPic
  classes : SMap ClassRec
  debt : Nat
  /-- cycle of a FORCE_IRAP write not yet taken up (R220) -/
  force : Option Nat
  /-- the fields whose change makes an IRAP (R219) -/
  sig : List Nat
  mfSlot : Nat
  head : Option PicHead
  deriving DecidableEq, Repr

/-- A session before its first picture. -/
def EncSt.reset : EncSt :=
  { active := false, pic := none, last := none, nextPoc := 0, sinceIrap := 0, pos := 0, dpb := [], classes := [], debt := 0,
    force := none, sig := [], mfSlot := 0, head := none }

/-- What a decode grid instant finds (R214). -/
inductive DecDue
  /-- a picture is due for output -/
  | picture
  /-- none is due -/
  | nothing
  /-- the source has ended -/
  | ended
  deriving DecidableEq, Repr

/-- A decoded picture (H.265), as it leaves the DPB. -/
structure DecPic where
  poc : Int
  /-- 0 I, 1 P, 2 B -/
  typ : Nat
  irap : Bool
  /-- POC of the first missing reference (R216) -/
  missing : Option Int
  dataError : Bool
  hashMismatch : Bool
  /-- beyond the profile, level or DEC_MAX size (Table PCD-8) -/
  unsupported : Bool
  w : Nat
  h : Nat
  /-- 4:2:2 rather than 4:2:0 -/
  c422 : Bool
  depth : Nat
  y : List Nat
  cb : List Nat
  cr : List Nat
  deriving DecidableEq, Repr

/-- An output of a decode session, as its generator reads it. -/
structure DecOut where
  tag : FrameTag
  base : Nat
  w : Nat
  h : Nat
  /-- 2 W16_422, 3 W16_420 -/
  fmt : Nat
  depth : Nat
  slot : Nat
  doneAt : Nat
  deriving DecidableEq, Repr

/-- A decode session. -/
structure DecSt where
  active : Bool
  frame : Option FrameTag
  counter : Nat
  slot : Nat
  concealed : Option Int
  /-- pictures are discarded up to the next supported IRAP -/
  discarding : Bool
  ended : Bool
  /-- a decode buffer lost parity in the picture in progress (R218) -/
  parity : Bool
  /-- the last descriptor posted -/
  last : Option (List Byte)
  outs : List DecOut
  deriving DecidableEq, Repr

/-- A decode session before its first picture. -/
def DecSt.reset : DecSt :=
  { active := false, frame := none, counter := 0, slot := 0, concealed := none, discarding := false, ended := false,
    parity := false, last := none, outs := [] }

/-- What a parity error of the picture coder strikes (R218). -/
inductive PcdBuf
  | band | entropy | decode
  deriving DecidableEq, Repr

/-- The picture coder. -/
structure PcdSt where
  enc : Vector EncSt 4
  dec : Vector DecSt 2
  /-- counts that the counters take at picture end (PCD_FRAME_SEQ) -/
  late : SMap Nat
  deriving DecidableEq, Repr

/-- The picture coder at reset. -/
def PcdSt.reset : PcdSt := { enc := Vector.replicate 4 EncSt.reset, dec := Vector.replicate 2 DecSt.reset, late := [] }

end Sys2Proof.Machine
end

