-- ==== Sys2Proof/Machine/StRpk.lean ====
section
/-!
DEFINITION. State of the raw packer's engines (09_raw_packed_format.md).
-/

namespace Sys2Proof.Machine

/-- A path job in flight (R223, R243): the raw frame, and the settings that applied at its job start. -/
structure PathJob where
  seq : Nat
  path : Nat
  num : Nat
  effort : Nat
  aboveEn : Bool
  src : Nat
  gang : Nat
  reel : Nat
  deriving DecidableEq, Repr

/-- An engine. -/
structure EngSt where
  job : Option PathJob
  /-- source sequence of the last frame whose job started -/
  last : Option Nat
  /-- descriptor of the software job in flight (R245) -/
  sw : Option (List Byte)
  deriving DecidableEq, Repr

/-- An engine at reset. -/
def EngSt.reset : EngSt := { job := none, last := none, sw := none }

/-- The raw packer. -/
structure RpkSt where
  eng : Vector EngSt 4
  /-- counts that the counters take at job end (RPK_FRAME_SEQ) -/
  late : SMap Nat
  deriving DecidableEq, Repr

/-- The raw packer at reset. -/
def RpkSt.reset : RpkSt := { eng := Vector.replicate 4 EngSt.reset, late := [] }

end Sys2Proof.Machine
end

