-- ==== Sys2Proof/Machine/StApu.lean ====
section
/-!
DEFINITION. State of the audio ports (11_audio_ports.md) and of the Reference and Time Unit (12_reference_and_time.md).
-/

namespace Sys2Proof.Machine

/-- A receive block that a port is filling (R294). -/
structure RxBlock where
  frame : Nat
  aframe : Nat
  time : Nat
  /-- samples of each audio frame, in channel order -/
  frames : List (List Nat)
  flags : Nat
  /-- labels of its channels -/
  labels : List Nat
  deriving DecidableEq, Repr

/-- A transmit block that a port plays: its first audio frame, and its samples (none: muted under R303). -/
structure TxBlock where
  aframe : Nat
  count : Nat
  frames : Option (List (List Nat))
  deriving DecidableEq, Repr

/-- An audio port. -/
structure PortSt where
  /-- slot map copies: entries that are not 0 -/
  maps : Vector (SMap Nat) 2
  /-- start instant asked for by GO, in media ns -/
  start : Option Nat
  /-- frames of lead-in left for a slave started by ARM -/
  lead : Nat
  stopReq : Bool
  rx : Option RxBlock
  /-- flags that the next block carries -/
  nextFlags : Nat
  /-- FRAME of the last block, for the block after NO_BOUNDARY -/
  lastFrame : Nat
  tx : Option TxBlock
  /-- media time of the last frame boundary -/
  lastNs : Nat
  /-- LOST by a class change rather than by missing edges -/
  lostByClass : Bool
  /-- a window of the same class has measured since the loss -/
  resume : Bool
  measured : Bool
  deriving DecidableEq, Repr

/-- A port at reset. -/
def PortSt.reset : PortSt :=
  { maps := Vector.replicate 2 [], start := none, lead := 0, stopReq := false, rx := none, nextFlags := 0, lastFrame := 0, tx := none,
    lastNs := 0, lostByClass := false, resume := false, measured := false }

/-- A video source's last frame boundary, as the audio ports see it: numbers by path, and its media time. -/
structure SrcBoundary where
  begun : List (Nat × Nat)
  time : Nat
  /-- frame period in force there, in ns -/
  period : Nat
  deriving DecidableEq, Repr

/-- The audio ports. -/
structure ApuSt where
  ports : Vector PortSt 8
  /-- last boundary of each ASSOC source: 1 SLA, 2 SLB, 8 + t generators -/
  srcs : SMap SrcBoundary
  /-- ports of the GO in progress that have not reached frame 0 -/
  going : List Nat
  /-- (path, frame) written as MISSING (R307) -/
  missing : List (Nat × Nat)
  deriving DecidableEq, Repr

/-- The audio ports at reset. -/
def ApuSt.reset : ApuSt := { ports := Vector.replicate 8 PortSt.reset, srcs := [], going := [], missing := [] }

/-! ### Reference and time -/

/-- A frame grid (R315): anchor in media ns, and rate. -/
structure Grid where
  anchor : Int
  num : Nat
  den : Nat
  deriving DecidableEq, Repr

/-- The grid of a user that differs from its register rate on the system anchor, and the one that replaces it from a
media time on (R319). -/
structure UserGrid where
  now : Grid
  next : Option (Nat × Grid)
  deriving DecidableEq, Repr

/-- A master that a slot has heard of (R321): what the default BMCA of IEEE 1588-2019 compares, in its order, and the
port. -/
structure PtpMaster where
  rank : List Nat
  identity : Nat
  port : Nat
  deriving DecidableEq, Repr

/-- A PTP slot. -/
structure PtpSlot where
  masters : List PtpMaster
  selected : Option PtpMaster
  /-- consecutive updates -/
  updates : Nat
  deriving DecidableEq, Repr

/-- A time stamp of a MAC (R323). -/
structure Stamp where
  ns : Nat
  tx : Bool
  tag : Nat
  deriving DecidableEq, Repr

/-- The Reference and Time Unit. -/
structure RtuSt where
  /-- the system anchor has been set since the enable (R316) -/
  anchored : Bool
  /-- last accepted edge, or the declaring edge of an adoption (media ns); none before the first edge -/
  edge : Option Nat
  /-- edges outside their window since the last accepted one, newest first -/
  outside : List Nat
  good : Nat
  bad : Nat
  /-- spells in LOCKED: (ns, frequency), newest first (R314) -/
  spells : List (Nat × Int)
  /-- cycle from which the frequency in force has been in force in LOCKED -/
  spellFrom : Nat
  holdover : Option Int
  /-- cycle of the last frequency change -/
  slewAt : Nat
  /-- the single step has been taken; time was jammed (R324) -/
  stepped : Bool
  jammed : Bool
  /-- users whose grid differs from the system's: 0, 1 links; 4, 5 decode sessions; 8 + t FIELD generators -/
  grids : SMap UserGrid
  slots : Vector PtpSlot 2
  fifos : Vector (List Stamp) 2
  /-- local offset minus UTC offset of the synchronization metadata TLV, in s -/
  smOfs : Int
  deriving DecidableEq, Repr

/-- The unit at reset. -/
def RtuSt.reset : RtuSt :=
  { anchored := false, edge := none, outside := [], good := 0, bad := 0, spells := [], spellFrom := 0, holdover := none,
    slewAt := 0, stepped := false, jammed := false, grids := [],
    slots := Vector.replicate 2 { masters := [], selected := none, updates := 0 }, fifos := Vector.replicate 2 [], smOfs := 0 }

end Sys2Proof.Machine
end

