-- ==== Sys2Proof/Machine/StOre.lean ====
section
/-!
DEFINITION. State of the outputs: timing generators, palettes, Return Ingest, panel ports and ST 2110 senders
(10_outputs_and_raster.md).
-/

namespace Sys2Proof.Machine

/-- A frame that a generator shows. -/
structure Shown where
  tag : FrameTag
  base : Nat
  slot : Nat
  w : Nat
  h : Nat
  /-- 0 PACKED32, 2 W16_422, 3 W16_420 -/
  fmt : Nat
  /-- 0 RGB, 1 BT.709, 2 BT.2020 -/
  matrix : Nat
  depth : Nat
  deriving DecidableEq, Repr

/-- A run of pixels that a sink repeats because its data is late (R262): sink, line, first pixel, pixels. -/
structure UnderRun where
  sink : Nat
  line : Nat
  x : Nat
  n : Nat
  deriving DecidableEq, Repr

/-- A timing generator. -/
structure TgSt where
  shown : Option Shown
  /-- it is the frame's first showing -/
  first : Bool
  /-- repeats of the frame so far -/
  repeats : Nat
  /-- every path was shed or held, and no frame accepted since has been shown (R260) -/
  holding : Bool
  /-- its source grid changed under R319, and no new frame has been shown -/
  changeover : Bool
  /-- shows palette colour 0 (R277) -/
  black : Bool
  /-- media time at which the frame's active video started -/
  activeNs : Option Nat
  under : List UnderRun
  /-- palette copies, by window offset ÷ 4; copy in use; swap asked for -/
  pal : Vector (SMap Nat) 2
  palActive : Nat
  palPending : Bool
  deriving DecidableEq, Repr

/-- A generator at reset. -/
def TgSt.reset : TgSt :=
  { shown := none, first := false, repeats := 0, holding := false, changeover := false, black := false, activeNs := none, under := [],
    pal := Vector.replicate 2 [], palActive := 0, palPending := false }

/-- Received samples of a frame in 4:2:2: Y rows, and Cb and Cr rows. -/
structure RiPixels where
  y : List (List Nat)
  cb : List (List Nat)
  cr : List (List Nat)
  deriving DecidableEq, Repr

/-- A frame that an ingest is receiving, or has written. -/
structure RiFrameSt where
  tag : FrameTag
  slot : Nat
  base : Nat
  w : Nat
  h : Nat
  /-- CLK_CTL cycle in which it was complete -/
  doneAt : Nat
  deriving DecidableEq, Repr

/-- A Return Ingest. -/
structure RiSt where
  seq : Nat
  slot : Nat
  frame : Option RiFrameSt
  outs : List RiFrameSt
  /-- paths whose last accepted frame has not started active video (R276) -/
  waiting : List Nat
  deriving DecidableEq, Repr

/-- An ingest at reset. -/
def RiSt.reset : RiSt := { seq := 0, slot := 0, frame := none, outs := [], waiting := [] }

/-- A panel port, beside its registers. -/
structure PnlSt where
  /-- PSR_EXIT waits for PSR (R281) -/
  exitQueued : Bool
  /-- RETRAIN runs its hold (R281) -/
  retrain : Bool
  deriving DecidableEq, Repr

/-- A sender. -/
structure TxSt where
  /-- RTP sequence number of the next packet -/
  seq : Nat
  /-- frame in progress: its generator's frame, and the next pixel to send -/
  frame : Option Shown
  pixel : Nat
  /-- audio frames taken from the queue and not yet sent -/
  audio : List (List Nat)
  /-- media time of the first of them -/
  audioNs : Nat
  deriving DecidableEq, Repr

/-- A sender at reset. -/
def TxSt.reset : TxSt := { seq := 0, frame := none, pixel := 0, audio := [], audioNs := 0 }

/-- The outputs. -/
structure OreSt where
  tgs : Vector TgSt 8
  ris : Vector RiSt 4
  pnls : Vector PnlSt 2
  txs : Vector TxSt 8
  /-- links of the Ethernet ports -/
  eth : Vector Bool 2
  deriving DecidableEq, Repr

/-- The outputs at reset. -/
def OreSt.reset : OreSt :=
  { tgs := Vector.replicate 8 TgSt.reset, ris := Vector.replicate 4 RiSt.reset,
    pnls := Vector.replicate 2 { exitQueued := false, retrain := false }, txs := Vector.replicate 8 TxSt.reset,
    eth := Vector.replicate 2 false }

end Sys2Proof.Machine
end

