-- ==== Sys2Proof/Machine/StSys.lean ====
section
/-!
DEFINITION. State of the health, thermal and power unit (17_thermal_power_and_gauges.md) and of boot, fuses, flash and the
Keeper island (16_boot_and_security.md, 19_pins_and_electrical.md).
-/

namespace Sys2Proof.Machine

/-- The live values of a gauge (R433). -/
structure GaugeSt where
  min : Int
  max : Int
  sum : Int
  count : Nat
  bins : SMap Nat
  deriving DecidableEq, Repr

/-- A cleared gauge. -/
def GaugeSt.empty : GaugeSt := { min := 0, max := 0, sum := 0, count := 0, bins := [] }

/-- A zone's cross-check (R421): samples in a row in which it differed, and BROKEN. -/
structure ZoneSt where
  dev : Nat
  broken : Bool
  /-- the reading of R421 in 1 ÷ 16 °C -/
  temp : Int
  deriving DecidableEq, Repr

/-- The health, thermal and power unit. -/
structure HtpSt where
  zones : Vector ZoneSt 9
  /-- consecutive samples at or above CRITICAL -/
  critical : Nat
  /-- hottest readings of the last samples, newest first, at most 11 -/
  hist : List Int
  /-- cycle of the last Pollard level change -/
  levelAt : Nat
  /-- a first sample has been taken; the coldest zone was below LOW_WARN, the hottest above HIGH_WARN -/
  sampled : Bool
  cold : Bool
  hot : Bool
  ageWarned : Bool
  /-- what HTP_LIFE_USED still lacks to its next second, in 1 ÷ 80,000 s -/
  lifeFrac : Nat
  gauges : Vector GaugeSt 32
  /-- last values of error counts that a gauge samples (SRC_KIND 0x5) -/
  lastErr : Vector Nat 32
  /-- CID of the SET_POWER whose transition runs -/
  hostCmd : Option Nat
  /-- cycle by which the window of R429 ends -/
  windowEnd : Nat
  /-- the supply warnings and faults that stand, by rail -/
  rails : Vector (Bool × Bool) 11
  deriving DecidableEq, Repr

/-- The unit at reset. -/
def HtpSt.reset : HtpSt :=
  { zones := Vector.replicate 9 { dev := 0, broken := false, temp := 0 }, critical := 0, hist := [], levelAt := 0, sampled := false,
    cold := false, hot := false, ageWarned := false, lifeFrac := 0, gauges := Vector.replicate 32 GaugeSt.empty,
    lastErr := Vector.replicate 32 0, hostCmd := none, windowEnd := 0, rails := Vector.replicate 11 (false, false) }

/-- Where the part stands between reset and service. -/
inductive BootStage
  /-- SYS_RST_N is low -/
  | held
  /-- the chosen image's DRAM sections are in and the channels train -/
  | training
  /-- the register bus is released -/
  | running
  /-- both slots failed: the Management SPI port alone reaches the registers -/
  | recovery
  /-- the core clocks stand still: shutdown, PS3 or PS4 -/
  | stopped
  deriving DecidableEq, Repr

/-- A command of the flash controller in progress. -/
inductive FlashOp
  | erase (addr : Nat)
  | program (addr : Nat) (data : List Byte)
  deriving DecidableEq, Repr

/-- A fuse command in progress: the bits to blow. -/
structure FuseOp where
  bits : List Nat
  deriving DecidableEq, Repr

/-- Boot, fuses, flash and the pins of the Keeper island. -/
structure BootSt where
  stage : BootStage
  /-- the register bus is released (R381) -/
  busOpen : Bool
  /-- cycle of the reset release -/
  released : Nat
  /-- slot chosen: 0 A, 1 B; the other one is still to be validated should this one fail -/
  slot : Nat
  other : Bool
  keySlot : Nat
  rollback : Nat
  fwVersion : Nat
  /-- bytes of the PCIE_IDS section -/
  pcieIds : List Byte
  /-- the retention record was valid at this boot -/
  retained : Bool
  flashOp : Option FlashOp
  fuseOp : Option FuseOp
  /-- CAUSE of the retention under way -/
  retaining : Option Nat
  kprHold : Bool
  kprSafe : Bool
  /-- the core rails are up -/
  rails : Bool
  /-- a KPR_HOLD rise during boot waits for the store (R462) -/
  holdPending : Bool
  deriving DecidableEq, Repr

/-- Before the release of SYS_RST_N. -/
def BootSt.reset : BootSt :=
  { stage := .held, busOpen := false, released := 0, slot := 0, other := false, keySlot := 0, rollback := 0, fwVersion := 0, pcieIds := [],
    retained := false, flashOp := none, fuseOp := none, retaining := none, kprHold := false, kprSafe := false, rails := true,
    holdPending := false }

end Sys2Proof.Machine
end

