-- ==== Sys2Proof/Syntax.lean ====
section
/-!
DEFINITION. The commands: one constructor per row of spec/opcode_table.json. The first operand of each is the CLK_CTL cycle at which it
comes; further operands are what the sender writes, or what the outside world and internals that the spec leaves open produce
(notes/assumptions/2.md).
-/

namespace Sys2Proof

open Machine

/-- A command of the block. -/
inductive Instr
  /-- A write to a register or field that has no row of its own stores the value, is checked and refused where a chapter
  says so, or is ignored (R11); `src` writes `v` at BAR0 byte offset `ofs`. -/
  | registerWrite (t : Nat) (src : Requester) (ofs : Nat) (v : Word)
  /-- Writing 1 to UNIT_CTL.ENABLE of a disabled unit starts a consistency check of the configuration as it would stand
  (R32); `u` is the unit. -/
  | unitEnable (t : Nat) (u : UnitId)
  /-- Clearing UNIT_CTL.ENABLE runs no check, releases claims and replans without the unit's paths (R35); `u` is the
  unit. -/
  | unitDisable (t : Nat) (u : UnitId)
  /-- Writing 1 to CS_COMMIT starts the check of a Change Set, or is refused with CS_BUSY (R40). -/
  | csCommit (t : Nat)
  /-- A consistency check completes within 2 ms: unit rules, resource claims, then the ledger, accepting or refusing
  (R33). -/
  | consistencyCheck (t : Nat)
  /-- At the wrap of the 512-slot cycle a pending slot table copy exchanges and wrap-committed values take effect
  (R341). -/
  | slotTableWrap (t : Nat)
  /-- A unit becomes idle when more than two frame periods pass since its last frame ended (R23); `b` is the owner whose
  last frame ended two frame periods ago. -/
  | unitIdle (t : Nat) (b : Bnd)
  /-- A lane receives a 64-bit marker, checks it, counts or reseeds, and gains or loses marker lock (R68); `line` holds
  the line bits since the last marker, up to and with this one, and `ui` the unit interval of its last bit. -/
  | marker (t : Nat) (lane : Fin 32) (line : List Bool) (ui : Nat)
  /-- A lane's CDR locks and, with ADAPT set, starts its equaliser sweep (R82). -/
  | cdrLock (t : Nat) (lane : Fin 32)
  /-- A lane's CDR loses lock, so the lane loses marker lock (R68). -/
  | cdrLockLost (t : Nat) (lane : Fin 32)
  /-- 740 µs after CDR lock the equaliser selects the code with the largest eye height (R82); `heights` are the eye
  heights measured at codes 0 to 36, `width` the eye width. -/
  | adaptDone (t : Nat) (lane : Fin 32) (heights : List Nat) (width : Nat)
  /-- At most once per millisecond the lane tries neighbouring codes and moves by one at a marker end (R82); the eye
  heights measured at the setting, below it and above it, and the eye width. -/
  | ctleTrack (t : Nat) (lane : Fin 32) (height below above width : Nat)
  /-- An FS packet passes HCRC: SOF latches, frame counters advance, frames are accepted or not, and frame-committed
  values take effect (R89); `pkt` holds the packet's words; empty, the packet comes from the link's own word stream. -/
  | fs (t : Nat) (link : Fin 2) (pkt : List Nat)
  /-- An FE packet is received; it does not close the frame (R76); `pkt` holds the packet's words; empty, the packet
  comes from the link's own word stream. -/
  | fe (t : Nat) (link : Fin 2) (pkt : List Nat)
  /-- An LS packet of one line is received, checked by CRC-32 and format, and passed on or filled (R73); `pkt` holds the
  packet's words; empty, the packet comes from the link's own word stream. -/
  | ls (t : Nat) (link : Fin 2) (pkt : List Nat)
  /-- An EMB packet is forwarded unaltered to META_QUEUE, or dropped on CRC failure (R73); `pkt` holds the packet's
  words; empty, the packet comes from the link's own word stream. -/
  | emb (t : Nat) (link : Fin 2) (pkt : List Nat)
  /-- A STAT packet updates the link's reported sensor temperature and flags (R131); `pkt` holds the packet's words;
  empty, the packet comes from the link's own word stream. -/
  | stat (t : Nat) (link : Fin 2) (pkt : List Nat)
  /-- One second after the last STAT temperature, SLR_STAT_TEMP.VALID clears (R132). -/
  | statTempExpire (t : Nat) (link : Fin 2)
  /-- A packet header fails HCRC or type and the SLR resynchronises on the next IDLE or good header (R79); `pkt` holds
  the words from the bad header on; empty, they come from the link's own word stream. -/
  | headerError (t : Nat) (link : Fin 2) (pkt : List Nat)
  /-- An image line's deadline expires: the line is taken as received or filled, and the last closes the frame (R76). -/
  | lineDeadline (t : Nat) (link : Fin 2)
  /-- A lane's PRBS checker locks after 64 error-free bits (R83); `line` holds the line bits seen. -/
  | prbsCheckLock (t : Nat) (lane : Fin 32) (line : List Bool)
  /-- A checker drops lock and reseeds after 1,024 errors within 65,536 bits (R83); `line` holds the line bits seen. -/
  | prbsCheckUnlock (t : Nat) (lane : Fin 32) (line : List Bool)
  /-- GO in SLR_LANE_TEST injects a single error or a burst into the loopback generator (R84). -/
  | prbsGo (t : Nat) (lane : Fin 32)
  /-- In rate mode the generator inverts one bit every INJ_PERIOD bits (R84). -/
  | prbsInjectPeriod (t : Nat) (lane : Fin 32)
  /-- CLR in SLR_LANE_TEST clears PRBS_ERR, PRBS_BITS and INJ_CNT (R84). -/
  | prbsClr (t : Nat) (lane : Fin 32)
  /-- A seven-word sensor control entry is queued on an I2C or SPI bus (R86); `entry` holds the words pushed to bus
  `bus`. -/
  | sctlPush (t : Nat) (bus : Fin 3) (entry : List Word)
  /-- A sensor control entry starts at bus idle, or for TIMED entries once media time reaches its launch time (R86). -/
  | sctlLaunch (t : Nat) (bus : Fin 3)
  /-- A sensor control entry completes, NACKs or times out and posts its result (R86); `status` is the bus's outcome and
  `bytes` the bytes read. -/
  | sctlEntryDone (t : Nat) (bus : Fin 3) (status : Nat) (bytes : List Nat)
  /-- I2C clock stretching beyond 10 ms aborts the entry (R86). -/
  | sctlTimeout (t : Nat) (bus : Fin 3)
  /-- At G_k + OFFSET the trigger output issues its leading edge (R87). -/
  | trigLeadingEdge (t : Nat) (n : Fin 4)
  /-- WIDTH ns after the leading edge the trigger output issues its trailing edge (R87). -/
  | trigTrailingEdge (t : Nat) (n : Fin 4)
  /-- RUN in SLR_LINK_CTL sets ARMED and moves a locked or stopped link to RUNNING, or is refused (R60); `word` is the
  word written to SLR_LINK_CTL. -/
  | linkRun (t : Nat) (link : Fin 2) (word : Nat)
  /-- STOP in SLR_LINK_CTL stops triggers and allows at most two run-out frames (R91); `word` is the word written to
  SLR_LINK_CTL. -/
  | linkStop (t : Nat) (link : Fin 2) (word : Nat)
  /-- RELOCK in SLR_LINK_CTL forces the link to ACQUIRING except while running or stopping (R477); `word` is the word
  written to SLR_LINK_CTL. -/
  | linkRelock (t : Nat) (link : Fin 2) (word : Nat)
  /-- CLR in SLR_LINK_CTL clears the link's and its lanes' counters (R477); `word` is the word written to SLR_LINK_CTL.
  -/
  | linkClr (t : Nat) (link : Fin 2) (word : Nat)
  /-- 2T + T_rd after STOP with no frame open, the link becomes STOPPED and ARMED clears (R92). -/
  | runoutTimeout (t : Nat) (link : Fin 2)
  /-- At each grid instant the Pattern Source issues FS and begins a synthetic frame (R90). -/
  | patternFs (t : Nat) (link : Fin 2)
  /-- At G_k + T_rd the Pattern Source closes its frame (R90). -/
  | patternFrameClose (t : Nat) (link : Fin 2)
  /-- Once image row y + 2d has been received or filled, the RFE completes and writes output row y (R120). -/
  | rfeRowComplete (t : Nat)
  /-- A write through an RFE table window goes to the inactive copy, or is refused while pending or owned (R115); `v` is
  written at byte offset `ofs` of the RFE window. -/
  | rfeTableWrite (t : Nat) (ofs : Nat) (v : Word)
  /-- SWAP_BLACK in RFE_TBL_CTL sets PENDING on the black table (R114). -/
  | swapBlack (t : Nat)
  /-- SWAP_COL in RFE_TBL_CTL sets PENDING on the column table (R114). -/
  | swapCol (t : Nat)
  /-- SWAP_GAIN in RFE_TBL_CTL sets PENDING on the gain table (R114). -/
  | swapGain (t : Nat)
  /-- Within 50 µs the new active copy is copied to the inactive copy and master, clearing PENDING and BUSY (R114). -/
  | tableCopyDone (t : Nat)
  /-- A parity error in an active RFE table entry applies the neutral value, poisons tiles and reloads from the master
  (R123); table 0 black, 1 column, 2 gain, 3 a line buffer; the entry, the row, and whether the reload succeeds. -/
  | rfeTableParity (t : Nat) (table entry row : Nat) (reloaded : Bool)
  /-- A write that changes RFE_CAL_CFG.MODE or clears a TRK bit abandons runs and releases tables, or is refused (R128).
  -/
  | calModeWrite (t : Nat) (v : Word)
  /-- Within 200 µs after a run's last frame, estimates are written to inactive tables and swaps requested (R135). -/
  | calRunWrite (t : Nat)
  /-- RUN in RFE_CAL_CTL requests a calibration run at the next boundary, or is refused outside TRACK (R131). -/
  | calRun (t : Nat)
  /-- STEP_DARK starts a dark reference step at the next RFE frame boundary (R138). -/
  | stepDark (t : Nat)
  /-- STEP_FLAT starts a flat reference step at the next RFE frame boundary (R138). -/
  | stepFlat (t : Nat)
  /-- After N_FRAMES and at most 50 ms of computing, a step stages its results and enters REF_REVIEW (R138). -/
  | calStepComputeDone (t : Nat)
  /-- ACCEPT in REF_REVIEW requests swaps of the staged tables and releases ownership (R140). -/
  | calAccept (t : Nat)
  /-- DISCARD in REF_REVIEW leaves the active tables and releases ownership (R140). -/
  | calDiscard (t : Nat)
  /-- CLR in RFE_CAL_CTL clears CAL_ABANDONED, RFE_CAL_DEFECTS and RFE_CAL_FF_CLAMP (R139). -/
  | calClr (t : Nat)
  /-- Once the previous frame is emitted and raw rows 0 to 3 are written, the scene section issues its first read and
  passes the frame boundary (R145). -/
  | sceneSof (t : Nat)
  /-- Once the raw rows it needs are written, the scene section reads a row and emits its Scene Bus beats to the render
  paths (R29). -/
  | sceneRow (t : Nat)
  /-- A motion field descriptor arrives on MF_QUEUE and is kept for selection, or dropped if poisoned (R162). -/
  | mfDescriptorReceive (t : Nat)
  /-- HIST_RESET invalidates the history for the next frame (R157). -/
  | histReset (t : Nat)
  /-- CLR in CSE_TNR_CTL clears the scene section's counters (R167). -/
  | cseClr (t : Nat)
  /-- A parity error in a scene-section line buffer re-reads, recomputes or marks history lost (R167); `k` says where
  the error lies. -/
  | cseParity (t : Nat) (k : CseBuf)
  /-- LOAD in RP_LUT_CTL fetches a LUT into the inactive copy, or is refused or held while retained (R180); `p` is the
  render path. -/
  | lutLoad (t : Nat) (p : Nat)
  /-- A LUT fetch completes and the copy becomes pending for the next scene SOF (R180); `p` is the render path. -/
  | lutFetchDone (t : Nat) (p : Nat)
  /-- SWAP in RP_TBL_CTL requests a swap of the coefficient and shaper tables (R182); `p` is the render path. -/
  | rpTableSwap (t : Nat) (p : Nat)
  /-- When retention of an inactive copy ends, a held LOAD or table write proceeds (R183); `p` is the render path. -/
  | rpHeldLoadStart (t : Nat) (p : Nat)
  /-- A parity error in a render path buffer or table reloads the word and recomputes the affected tiles (R190); `p` is
  the render path. -/
  | rpParity (t : Nat) (p : Nat)
  /-- Once the source buffer is complete and the previous picture ended, an encode session starts a picture (R195); `i`
  is the encode session. -/
  | pictureStart (t : Nat) (i : Fin 4)
  /-- A session finishes coding a picture, updates rate control and exports its motion field (R194); `i` is the encode
  session, `r` what the coder made of the picture. -/
  | pictureEnd (t : Nat) (i : Fin 4) (r : PicResult)
  /-- FORCE_IRAP makes the next picture of the session an IRAP (R220); `i` is the encode session. -/
  | forceIrap (t : Nat) (i : Fin 4)
  /-- CLR in PCD_SES_CTL clears the session's counters (R220); `i` is the encode session. -/
  | pcdSesClr (t : Nat) (i : Fin 4)
  /-- At each decode grid instant a decode session starts a picture and posts an output or a repeat (R214); `i` is the
  decode session less 4, `due` the state of the picture due. -/
  | decGridInstant (t : Nat) (i : Fin 2) (due : DecDue)
  /-- A decoded picture is written to the output ring and its descriptor posted to DEC_QUEUE (R215); `i` is the decode
  session less 4, `p` the picture decoded. -/
  | decOutputPost (t : Nat) (i : Fin 2) (p : DecPic)
  /-- A parity error in a band, window, entropy or decode buffer re-fetches or re-codes (R218); the session and the
  buffer of the error. -/
  | pcdParity (t : Nat) (ses : Fin 6) (k : PcdBuf)
  /-- Once the raw buffer is complete and the previous job ended, a PATH engine starts packing the frame (R223). -/
  | jobStart (t : Nat) (e : Fin 4)
  /-- A path job finishes tiles, writes the frame header and the clip index entry, delivering the frame (R243). -/
  | jobEnd (t : Nat) (e : Fin 4)
  /-- A write to RPK_RING_TAIL submits software jobs, taken up after the running job (R245). -/
  | rpkRingTailWrite (t : Nat) (e : Fin 4) (v : Word)
  /-- A write to RPK_CPL_HEAD frees completion entries (R245). -/
  | rpkCplHeadWrite (t : Nat) (e : Fin 4) (v : Word)
  /-- When HEAD differs from TAIL and a completion entry is free, the engine starts the next software job (R245). -/
  | swJobStart (t : Nat) (e : Fin 4)
  /-- A software job ends; the engine writes its completion, advances CPL_TAIL and HEAD, and may raise JOB_DONE (R245);
  `lost` names the tiles whose reads failed. -/
  | swJobComplete (t : Nat) (e : Fin 4) (lost : List Nat)
  /-- CLR in RPK_ENG_CTL clears the engine's counters (R253). -/
  | rpkEngClr (t : Nat) (e : Fin 4)
  /-- A parity error in an engine buffer restarts the tile from DRAM (R252). -/
  | rpkParity (t : Nat) (e : Fin 4)
  /-- At a generator's start of vertical blanking it selects the frame to show and blanking-committed values take effect
  (R260). -/
  | tgVblank (t : Nat) (g : Fin 8)
  /-- At G_j + VOFS a generator starts the first active line of its frame (R257). -/
  | tgActiveStart (t : Nat) (g : Fin 8)
  /-- The frame's last active pixel leaves the sink, delivering the frame on its paths (R260). -/
  | tgActiveEnd (t : Nat) (g : Fin 8)
  /-- A fetch engine lacks data for a due pixel, so the sink repeats its last pixel (R262); `sink` is 0 to 15 the
  program lanes, 16 and 17 the panel ports, 32 to 39 the senders; `n` pixels from `x` of the line have no data. -/
  | underrun (t : Nat) (sink line x n : Nat)
  /-- CLR in ORE_TG_CTL clears the generator's and its sinks' counters (R260). -/
  | tgClr (t : Nat) (g : Fin 8)
  /-- Bit 31 of ORE_TG_CTL requests a palette swap at the next start of vertical blanking (R114). -/
  | paletteSwap (t : Nat) (g : Fin 8)
  /-- At the SAV of a received frame's first active line the ingest stamps and accepts or discards it (R275); row of
  Table ORE-4, whether 4:4:4, whether PsF, and the frame rate, of input `i`. -/
  | riFrame (t : Nat) (i : Fin 4) (row : Nat) (wide psf : Bool) (num den : Nat)
  /-- An accepted ingest frame is written to its ring and, when capturing, to the clip store with its index entry
  (R275); what came in at input `i`: pixels, ancillary packets, and CRC errors by line. -/
  | riFrameWritten (t : Nat) (i : Fin 4) (p : RiPixels) (anc : List (List Byte)) (crc : List (Nat × Nat × Nat))
  /-- An ingest input loses lock mid-frame, fills outstanding lines and returns to ACQUIRING (R277); what had come in of
  the frame that was open. -/
  | riLockLost (t : Nat) (i : Fin 4) (p : RiPixels)
  /-- PSR_ENTER stops the panel path accepting and starts entry to PSR (R280). -/
  | psrEnter (t : Nat) (k : Fin 2)
  /-- In the blanking after the last accepted frame the port sends the VSC SDP and enters PSR (R280). -/
  | psrEntryDone (t : Nat) (k : Fin 2)
  /-- PSR_EXIT starts link training from PSR or FAILED, or is queued in ENTERING (R281). -/
  | psrExit (t : Nat) (k : Fin 2)
  /-- RETRAIN starts training, after the hold in ACTIVE (R281). -/
  | retrain (t : Nat) (k : Fin 2)
  /-- Link training ends and the port becomes ACTIVE or FAILED (R281); whether training succeeded and whether the panel
  reports PSR. -/
  | panelTrainDone (t : Nat) (k : Fin 2) (ok psr : Bool)
  /-- A change of HPD or an HPD interrupt pulse is reported without changing port state (R282); the level of HPD, or an
  interrupt pulse. -/
  | hpdChange (t : Nat) (k : Fin 2) (level irq : Bool)
  /-- A software AUX transaction is issued on a panel port's AUX channel (R282); `v` is the word written; `reply` what
  the panel answers. -/
  | auxCmd (t : Nat) (k : Fin 2) (v : Word) (reply : List Word)
  /-- An ST 2110-20 sender hands an RTP packet of the raster to the MAC (R285). -/
  | st2110VideoPacket (t : Nat) (k : Fin 8)
  /-- At each packet time an ST 2110-30 sender sends audio, zero when the block is missing (R286). -/
  | st2110AudioPacket (t : Nat) (k : Fin 8)
  /-- An Ethernet port's link goes down or up (R288); port `p`. -/
  | ethLinkChange (t : Nat) (p : Fin 2) (up : Bool)
  /-- A port reaches an audio frame boundary: slots move, slot map swaps and frame commits apply, blocks close (R289);
  `words` are the slot words of the frame that begins. -/
  | audioFrameBoundary (t : Nat) (p : Fin 8) (words : List Nat)
  /-- 1.5 source frame periods without a boundary closes the block with NO_BOUNDARY (R294). -/
  | noBoundary (t : Nat) (p : Fin 8)
  /-- GO in APU_START_CTL arms the masked ports for START, or is refused with START_PASSED (R298). -/
  | audioGo (t : Nat)
  /-- A master port starts its clocks RAMP_FRAMES before its start instant (R298). -/
  | leadInStart (t : Nat) (p : Fin 8)
  /-- Audio frame 0 begins at START or the first boundary after, and data flows (R298); `words` are the slot words of
  the frame that begins. -/
  | audioStart (t : Nat) (p : Fin 8) (words : List Nat)
  /-- ARM in APU_PORT_CTL starts one IDLE port without a common trigger (R299). -/
  | audioArm (t : Nat) (p : Fin 8)
  /-- STOP in APU_PORT_CTL stops the port at its next boundary or cancels an armed start (R300). -/
  | apuStop (t : Nat) (p : Fin 8)
  /-- SWAP in APU_PORT_CTL sets SWAP_PENDING for the next audio frame boundary (R293). -/
  | audioSwap (t : Nat) (p : Fin 8)
  /-- CLR in APU_PORT_CTL clears the port's counters (R302). -/
  | apuClr (t : Nat) (p : Fin 8)
  /-- A write to a slot map copy stores the entry, or is refused on the active copy or while pending (R293); copy `copy`
  and word `i` of port `p`'s slot map. -/
  | slotMapWrite (t : Nat) (p : Fin 8) (copy : Fin 2) (i : Fin 16) (v : Word)
  /-- After RAMP_FRAMES trail frames a stopped master port stops its clocks and becomes IDLE (R300). -/
  | trailEnd (t : Nat) (p : Fin 8)
  /-- A transmit block reaches TX_QUEUE and plays out, waits, or is discarded (R302). -/
  | txBlockArrive (t : Nat) (p : Fin 8)
  /-- A slave port completes a 1,024-frame rate measurement and may raise a rate event or resume (R304); `meas` is the
  rate measured. -/
  | rateWindow (t : Nat) (p : Fin 8) (meas : Nat)
  /-- No FSYNC edge for 8 frame periods puts the port in LOST (R304). -/
  | fsyncLoss (t : Nat) (p : Fin 8)
  /-- The clip writer takes a block from REC_QUEUE and writes it as an AUDIO entry (R306). -/
  | recBlockWrite (t : Nat) (p : Fin 8)
  /-- An expected audio block not arrived in time is written as a MISSING entry (R307). -/
  | recBlockMissing (t : Nat) (p : Fin 8)
  /-- A reference edge arrives and is accepted, ignored as a glitch, or declares a rate change (R312); `src` is the
  reference input. -/
  | refEdge (t : Nat) (src : Nat)
  /-- 1.5 periods without an accepted edge puts the media clock in HOLDOVER (R312). -/
  | refEdgeTimeout (t : Nat)
  /-- A Sync of a slot's master updates that slot's offset and, for the active slot, steers or steps media time (R321);
  the offset, the servo's prediction of it, the mean path delay and the frequency as the servo measures them. -/
  | ptpSync (t : Nat) (slot : Fin 2) (ofs pred : Int) (mpd : Nat) (freq : Int)
  /-- An Announce message feeds a slot's master selection (R321); `m` is what the master announces. -/
  | ptpAnnounce (t : Nat) (slot : Fin 2) (m : PtpMaster)
  /-- SYNC_LOSS missing Syncs or an announce timeout puts the clock in HOLDOVER (R312); `announce` says that Announce
  messages stopped, not Sync messages. -/
  | ptpSyncLoss (t : Nat) (slot : Fin 2) (announce : Bool)
  /-- A write that changes SRC reselects the reference, or is refused while time is running (R311). -/
  | refSrcWrite (t : Nat) (v : Word)
  /-- A write of PTP_ACTIVE hands steering to the other slot without a step (R322). -/
  | ptpActiveSwitch (t : Nat) (v : Word)
  /-- SET in RTU_TIME_CTL loads RTU_TIME_SET into media time, or is refused (R324); `snap` says that SNAP was written
  too. -/
  | setTime (t : Nat) (snap : Bool)
  /-- SNAP in RTU_TIME_CTL copies media time to RTU_TIME_SNAP (R324). -/
  | snapTime (t : Nat)
  /-- A MAC event-message interrupt latches media time into the port's stamp FIFO (R323); port, direction and tag of the
  PTP event message. -/
  | ptpEventStamp (t : Nat) (port : Fin 2) (tx : Bool) (tag : Nat)
  /-- RTU_TS_POP removes the head stamp of a port's FIFO (R323). -/
  | tsPop (t : Nat) (port : Fin 2)
  /-- An LTC frame is decoded or counted as an error, and may jam media time (R326); whether the frame's sync is good,
  its time code, drop flag and rate, and the media time in ns of its start. -/
  | ltcInFrame (t : Nat) (good : Bool) (h m sec f : Nat) (drop : Bool) (rate : Fin 4) (start : Nat)
  /-- At each LTC grid instant LTC_OUT starts a frame carrying the time code (R327). -/
  | ltcOutFrame (t : Nat)
  /-- A channel's training sequence completes, retries once or reads FAILED (R330); whether the sequence passed on
  channel `c`. -/
  | trainingDone (t : Nat) (c : Fin 16) (ok : Bool)
  /-- Every 128 ms the controller issues ZQCS to each rank (R332). -/
  | zqcs (t : Nat) (c : Fin 16)
  /-- At each tREFI a channel issues an all-bank refresh and stalls for tRFC (R338). -/
  | refreshDue (t : Nat) (c : Fin 16)
  /-- DDR_HOT rises, selecting the 3.9 µs interval, or falls and starts the 1 s timer (R338); the level of DDR_HOT. -/
  | ddrHotChange (t : Nat) (high : Bool)
  /-- After DDR_HOT has been low 1 s, the 7.8 µs interval returns (R338). -/
  | ddrHotCool (t : Nat)
  /-- In each burst turn the arbiter grants a requester by the slot and rank rules (R340); `arrivals` are the requests
  that came to channel `c` since its last turn. -/
  | arbTurn (t : Nat) (c : Fin 16) (arrivals : List MemReq)
  /-- Read data returns and its code is compared: success, retry, poison or failure on retry (R345); the port, the
  address, what the read found, whether it belongs to a partial write, whether the Coppice queue is full, and its
  latency. -/
  | dramReadReturn (t : Nat) (port : Fin 64) (addr : Nat) (r : DramRead) (rmw full : Bool) (lat : Nat)
  /-- A producer recomputes a requested tile and writes it back, releasing the held read (R348); the producer, whether
  its input was lost, and what the read that follows finds. -/
  | coppiceRecompute (t : Nat) (unit inst : Nat) (inputLost : Bool) (again : DramRead)
  /-- SWAP in MSS_SLOT_CTL in MANUAL mode sets PENDING on the channel's slot table (R342). -/
  | slotSwap (t : Nat) (c : Fin 16)
  /-- CLR in MSS_SLOT_CTL clears the channel's counters and maxima (R342). -/
  | slotClr (t : Nat) (c : Fin 16)
  /-- GO in MSS_CRC_TEST_CTL computes the detection code of test data within 1 µs (R344). -/
  | crcTest (t : Nat)
  /-- Writing REC in MSS_REEL_CTL requests a take or closes the open one (R354); REC of reel `r`. -/
  | recWrite (t : Nat) (r : Fin 8) (level : Bool)
  /-- A take reservation succeeds; the reel writes the take entry, TAKE_OPEN and ERP_FILE entries (R354). -/
  | takeOpen (t : Nat) (r : Fin 8)
  /-- Every 1 ms, or when space frees, the reel walks again for a pending take (R354). -/
  | takeOpenRetry (t : Nat) (r : Fin 8)
  /-- After the last accepted frame is delivered, TAKE_CLOSE is written and the take reads CLOSED (R486). -/
  | takeClose (t : Nat) (r : Fin 8)
  /-- A reel controller executes a PIN, UNPIN, TRIM or lookup descriptor, or drops a poisoned one (R389); poison tag
  that the descriptor carries. -/
  | reelDescriptor (t : Nat) (poison : Nat)
  /-- A producer commits an item to a queue, accepted or refused whole (R358); cells posted to queue `q`, and a pointer
  fault met on the way. -/
  | cpPost (t : Nat) (q : Fin 1024) (cells : List (List Byte)) (flt : PtrFault)
  /-- A hardware consumer reads the next cell of a queue, checking pointers and parity (R356); a pointer fault met on
  the way, and parity errors of the cell. -/
  | cpRead (t : Nat) (q : Fin 1024) (flt : PtrFault) (parity : Nat)
  /-- A non-empty queue unread for IDLE_TIMEOUT notifies its consumer (R360). -/
  | cpIdleTimeout (t : Nat) (q : Fin 1024)
  /-- After the 20.48 µs scan, freed items count as lost and the queue enters FALLBACK or REINSTATING (R362). -/
  | sweepDone (t : Nat) (q : Fin 1024)
  /-- RESET in SCC_CPQ_CTL requests a queue reset (R363). -/
  | queueReset (t : Nat) (q : Fin 1024)
  /-- REINSTATE in SCC_CPQ_CTL moves a FALLBACK queue to REINSTATING (R365). -/
  | queueReinstate (t : Nat) (q : Fin 1024)
  /-- CLR in SCC_CPQ_CTL clears the queue's counters (R363). -/
  | cpqClr (t : Nat) (q : Fin 1024)
  /-- The background rebuild of a failed free-list word ends and waiting posts proceed (R366). -/
  | freeRebuildDone (t : Nat)
  /-- A write to SCC_CP_WR_CFG runs a claim and limit check for the write port (R369). -/
  | cpWrCfgWrite (t : Nat) (k : Fin 8) (v : Word)
  /-- PUSH commits CELLS from a write port as one item and sets RESULT (R369); cells to push and a pointer fault. -/
  | portPush (t : Nat) (k : Fin 8) (cells : Fin 4) (flt : PtrFault)
  /-- A write to SCC_CP_RD_CFG makes the read port a queue's consumer, or is refused (R370). -/
  | cpRdCfgWrite (t : Nat) (k : Fin 8) (v : Word)
  /-- POP removes the head cell shown by a read port (R370); a pointer fault and parity errors. -/
  | portPop (t : Nat) (k : Fin 8) (flt : PtrFault) (parity : Nat)
  /-- An acquiring read of SCC_LOCK grants, reports busy or grants a broken lock (R371). -/
  | lockAcquire (t : Nat) (src : Requester) (n : Fin 256)
  /-- A write to SCC_LOCK by its owner releases it; any other write is refused (R372). -/
  | lockRelease (t : Nat) (src : Requester) (n : Fin 256)
  /-- BREAK in SCC_LOCK_CTL breaks the named lock and logs it (R373). -/
  | breakLock (t : Nat) (src : Requester) (n : Fin 256)
  /-- A misaligned or non-32-bit BAR0 access completes Unsupported Request or is dropped (R375); an access at BAR0
  offset `addr` that R375 forbids. -/
  | bar0BadAccess (t : Nat) (write : Bool) (addr : Nat)
  /-- A BAR2 aperture read or write is served against system DRAM (R377); window offset; the bytes written, or the
  length read; bursts that fail and what the failing ones hold. -/
  | apertureAccess (t : Nat) (x : Fin 0x800000) (data : Option (List Byte)) (n : Fin 512) (bad : List (Nat × List Byte))
  /-- Unmasking a vector with its pending bit set sends its message (R379); the vector, or none for the function mask,
  and the mask's new level. -/
  | msixUnmask (t : Nat) (v : Option (Fin 2048)) (masked : Bool)
  /-- A Management SPI transaction performs a register read or write and returns status (R380); opcode, address, data;
  whether it was cut short, and whether the access came late. -/
  | mgmtTransaction (t : Nat) (op : Fin 256) (addr : Word) (v : Word) (cut late : Bool)
  /-- Setting EN of HIF_QP_CFG starts a queue pair, or is refused (R382). -/
  | qpEnable (t : Nat) (q : Fin 64) (v : Word)
  /-- A write to a pair's SQ doorbell submits commands or puts the pair in ERROR (R383). -/
  | sqDoorbell (t : Nat) (q : Fin 64) (v : Word)
  /-- A write to a pair's CQ doorbell frees completions or puts the pair in ERROR (R383). -/
  | cqDoorbell (t : Nat) (q : Fin 64) (v : Word)
  /-- The HIF fetches a submission entry and starts its command (R384); the bytes fetched, or a fetch error. -/
  | sqFetch (t : Nat) (entry : List Byte) (err : Bool)
  /-- Once the CQ has room, a completion is written with its phase and the vector sent (R385). -/
  | completionPost (t : Nat) (q : Fin 64)
  /-- The coalescing time expires and the CQ vector is sent (R385). -/
  | coalesceTimer (t : Nat) (q : Fin 64)
  /-- WRITE moves host data into the write buffer and completes once it is all there (R391); pair, command, further page
  addresses, the host's data, and whether a host access failed. -/
  | hostWrite (t : Nat) (q : Fin 64) (cid : Nat) (pages : List Nat) (data : List Byte) (hostErr : Bool)
  /-- READ transfers store blocks to host memory, flagging failing bursts (R390); pair, command, further page addresses,
  failing bursts, and whether a host access failed. -/
  | hostRead (t : Nat) (q : Fin 64) (cid : Nat) (pages : List Nat) (bad : List (Nat × List Byte)) (hostErr : Bool)
  /-- FLUSH completes once every earlier completed WRITE is copied to the store (R393). -/
  | flush (t : Nat) (q : Fin 64) (cid : Nat)
  /-- TRIM zeroes a block range or erases a closed, unpinned take (R388). -/
  | trim (t : Nat) (q : Fin 64) (cid : Nat)
  /-- PIN marks a take pinned against erasure (R388). -/
  | pin (t : Nat) (q : Fin 64) (cid : Nat)
  /-- UNPIN clears a take's pin and reports whether it was pinned (R388). -/
  | unpin (t : Nat) (q : Fin 64) (cid : Nat)
  /-- IDENTIFY returns 4 KiB of device and store information (R398). -/
  | identify (t : Nat) (cid : Nat) (pages : List Nat) (hostErr : Bool)
  /-- GET_LOG returns a log page, including the signed attestation report (R418); `nonce` is what the host's buffer
  holds for an attestation report. -/
  | getLog (t : Nat) (cid : Nat) (pages : List Nat) (nonce : List Byte) (hostErr : Bool)
  /-- GET_FEATURE returns a feature value (R398). -/
  | getFeature (t : Nat) (cid : Nat)
  /-- SET_FEATURE sets coalescing or the asynchronous event mask (R398). -/
  | setFeature (t : Nat) (cid : Nat)
  /-- SET_POWER commands a power state transition (R400). -/
  | setPower (t : Nat) (cid : Nat)
  /-- ABORT cancels an outstanding command not yet past its last transfer (R396). -/
  | abort (t : Nat) (cid : Nat)
  /-- The SNAPSHOT admin command captures a snapshot into host memory (R448). -/
  | snapshot (t : Nat) (cid : Nat) (pages : List Nat) (hostErr : Bool)
  /-- A buffered WRITE is copied to the store, or its failure poisons blocks and defers an error (R392); `bad` names the
  bursts that could not be copied. -/
  | wbufCopyDone (t : Nat) (bad : List Nat)
  /-- A link-down, hot reset or FLR disables every queue pair and breaks host locks (R404). -/
  | pcieReset (t : Nat)
  /-- PERST_N resets the PCIe endpoint with the effect of a link-down (R458). -/
  | perstAssert (t : Nat)
  /-- The PCIe link state changes (R404); the link's state, rate, width and FLIT mode. -/
  | linkChange (t : Nat) (st : Fin 6) (rate width : Fin 16) (flit : Bool)
  /-- SYS_RST_N releases; Heartwood chooses and validates a slot and trains the DRAM (R408). -/
  | resetRelease (t : Nat)
  /-- After training, Heartwood opens the store, loads sections, enables units, applies records and releases the bus
  (R409). -/
  | bootLoad (t : Nat)
  /-- SYS_RST_N asserted while running halts every unit at once (R457). -/
  | sysRstAssert (t : Nat)
  /-- ERASE in SCC_FLASH_CTL erases a 64 KiB flash sector, or is refused (R414). -/
  | erase (t : Nat)
  /-- PROGRAM in SCC_FLASH_CTL programs a 256-byte page, or is refused (R414). -/
  | program (t : Nat)
  /-- A flash erase or program completes and BUSY clears (R414); `ok` is the outcome. -/
  | flashOpDone (t : Nat) (ok : Bool)
  /-- REBOOT retains the clip store and restarts the boot sequence (R419). -/
  | reboot (t : Nat)
  /-- ADVANCE raises the fused rollback counter to the booted image's level (R415). -/
  | advance (t : Nat)
  /-- The KEY_HASH fuse operation programs a customer key slot (R416). -/
  | keyHash (t : Nat) (slot : Fin 4)
  /-- The REVOKE fuse operation revokes a key slot (R416). -/
  | revoke (t : Nat) (slot : Fin 4)
  /-- The VENDOR_DISABLE fuse operation disables key slot 0 (R416). -/
  | vendorDisable (t : Nat)
  /-- The DBG_CLOSE fuse operation closes the debug ports permanently (R417). -/
  | dbgClose (t : Nat)
  /-- The LIFECYCLE operation moves the part to RETIRED (R416). -/
  | lifecycleRetired (t : Nat)
  /-- A fuse programming verifies and sets FUSE_DONE or FUSE_FAIL (R416); `ok` is the outcome. -/
  | fuseDone (t : Nat) (ok : Bool)
  /-- A rise of KPR_HOLD starts retention of the clip store (R419). -/
  | kprHoldRise (t : Nat)
  /-- Retention completes: channels in self-refresh, record written, KPR_SAFE high (R460). -/
  | retentionDone (t : Nat)
  /-- Core rails fall; with KPR_HOLD low the Keeper resets the DRAM and clears RETAINED (R461). -/
  | coreRailLoss (t : Nat)
  /-- Every 100 µs the HTP samples the zones, cross-checks diodes and tests thresholds (R421); `raw` are the readings of
  the diodes in 1/16 degree, two per zone. -/
  | htpSample (t : Nat) (raw : List Int)
  /-- The orderly stop ends, core clocks stop and THERM_TRIP_N goes low (R429); `done` says that the orderly stop
  completed. -/
  | shutdownWindowEnd (t : Nat) (done : Bool)
  /-- READMIT in HTP_ZONE_CTL clears a zone's BROKEN and restarts its cross-check (R421). -/
  | readmit (t : Nat) (mask : Fin 512)
  /-- Every second the ageing factor of the hottest zone is added to HTP_LIFE_USED (R436). -/
  | lifeTick (t : Nat)
  /-- A ring-oscillator ageing monitor reports its change and may raise AGE_WARN (R437); zone `z` and its change. -/
  | ageMonitorUpdate (t : Nat) (z : Fin 9) (change : Int)
  /-- Every 100 µs the supply monitors report VWARN or VFAULT (R438); rail `i` in mV. -/
  | vmonSample (t : Nat) (i : Fin 11) (mv : Fin 65536)
  /-- GO in HTP_PWR_CTL requests a power transition, or is refused (R431). -/
  | powerCommand (t : Nat) (v : Word)
  /-- A power transition completes and PWR_DONE is raised (R432). -/
  | powerTransitionDone (t : Nat)
  /-- SNAP in HTP_GAUGE_CTL copies selected gauges to snapshot registers and clears them (R434). -/
  | gaugeSnap (t : Nat)
  /-- A gauge configuration write clears the gauge, or is refused (R433). -/
  | gaugeCfgWrite (t : Nat) (g : Fin 32) (which : Fin 3) (v : Word)
  /-- RESET_REQ disables the unit and starts its removal and reset (R441). -/
  | resetReq (t : Nat) (u : UnitId)
  /-- GRAFT_REQ sheds the unit's paths to prepare a graft, or is refused (R445). -/
  | graftReq (t : Nat) (u : UnitId)
  /-- When the unit holds no work of an accepted frame, the graft's removal sequence starts (R445); `begun` counts the
  cells of items that the unit has begun and not committed. -/
  | graftPoint (t : Nat) (u : UnitId) (begun : Nat)
  /-- Heartwood verifies the graft image, replaces microcode or not, and restores the paths (R446). -/
  | graftLoadDone (t : Nat) (u : UnitId)
  /-- FREEZE stops or resumes the unit's state machines, or is refused while booked (R447). -/
  | unitFreeze (t : Nat) (u : UnitId) (on : Bool)
  /-- A unit's sideband asserts: it is masked, its partial items freed and its locks broken (R439); `begun` counts the
  cells of items that the unit has begun and not committed. -/
  | unitRemoval (t : Nat) (u : UnitId) (begun : Nat)
  /-- After UNIT_DRAIN_TIME, replies to the removed unit are dropped and reset or graft proceeds (R439). -/
  | drainEnd (t : Nat) (u : UnitId)
  /-- SNAP in DEV_SNAP_CTL captures a snapshot and writes it to DRAM (R448). -/
  | snapRequest (t : Nat)
  /-- A snapshot is written out and SNAP_DONE is raised (R448). -/
  | snapDone (t : Nat)
  /-- The event writer writes a message as a record to the ring and the Keeper copy (R449). -/
  | eventRecordWrite (t : Nat)
  /-- A W1C write to UNIT_INT_STATUS or DEV_EVT_STATUS clears bits and may resend the vector (R470). -/
  | intStatusClear (t : Nat) (u : Fin 13) (v : Word)
  /-- A write to UNIT_INT_FORCE or DEV_EVT_FORCE sets status bits as if their events occurred (R451). -/
  | intForce (t : Nat) (u : Fin 13) (v : Word)
  /-- A write to UNIT_VIEW or DEV_VIEW sets the writing requester's read copy (R472). -/
  | unitViewWrite (t : Nat) (src : Requester) (u : Fin 13) (v : Word)
  /-- A Sapwood core unserviced for 100 ms is reset and its locks break (R373). -/
  | sapwoodWatchdog (t : Nat) (c : Fin 4)
  /-- A write to DEV_GPIO_FN claims or releases a ball function, or is refused (R467). -/
  | gpioFnWrite (t : Nat) (n : Fin 32) (v : Word)
  /-- A Return Ingest link group's receivers lock onto the incoming SDI signal, and the ingest leaves ACQUIRING to
  decode ST 352 and timing reference signals (R274); the standard found at input `i`. -/
  | riLock (t : Nat) (i : Fin 4) (rate : Fin 4) (st352 : Word)
  /-- A DRAM device flags a command/address parity error on ALERT_N, and the controller retries the command (R328);
  `command` is the command the channel sends again. -/
  | caParityAlert (t : Nat) (c : Fin 16) (command : Nat)
  /-- KPR_HOLD falls; with the core rails down, the Keeper drives every channel's RESET_N low, clears RETAINED and
  drives KPR_SAFE low (R461). -/
  | kprHoldFall (t : Nat)
  /-- VDD_KPR reaches 90 %: the Keeper power-on reset marks retention registers that fail their CRC as not retained and
  drives CKE and RESET_N low (R455). -/
  | keeperPowerOn (t : Nat)
  /-- A gauge sourcing queue depth takes a sample every 1 µs, and one sourcing a lane error count every 1 ms, updating
  MIN, MAX, SUM, COUNT and a bin (R433). -/
  | gaugePeriodicSample (t : Nat) (g : Fin 32)
  /-- Media time reaches a whole second while time is established, and a PPS_OUT GPIO ball goes high (R468). -/
  | mediaTimeSecond (t : Nat)
  /-- A GPIO output pulse ends and the ball returns low: 1 µs after SOF_OUT, 10 µs after PPS_OUT, or one line after
  TG_VBLANK (R468). -/
  | gpioPulseEnd (t : Nat) (n : Fin 32)
  deriving DecidableEq, Repr

end Sys2Proof
end

