-- ==== Sys2Proof/Decode.lean ====
section
/-!
DEFINITION. Command words. spec/opcode_table.json gives no row any bits: a command of this block is an access, a protocol message or an
event, never a word, so that no word spells one.
-/

namespace Sys2Proof

/-- The command that a word spells: none. -/
def decodeTableWord (_nbits _w : Nat) : Option Instr := none

end Sys2Proof
end

