-- ==== Sys2Proof/Machine/Regs.lean ====
section
/-!
DEFINITION. The register map: for every register of the spec its byte offset in BAR0, its fields, and the row
that says how a write acts on it (Tables SCOPE-4 and SCOPE-5) and what it reads at reset. The rows are those of the
register headings and register tables of 02_enabling_and_the_deadline_ledger.md to 20_register_index.md; windows,
strides and counts are those of Tables REG-1, REG-3 and REG-6. Nothing here is behaviour.
-/

namespace Sys2Proof.Machine

/-- A field of a register: the BAR0 byte offset of the register and the field's highest and lowest bit. -/
structure Fld where
  ofs : Nat
  hi : Nat
  lo : Nat
  deriving DecidableEq, Repr

/-- The access types of Table SCOPE-5 (the type of most bits of a register; masks hold the exceptions). -/
inductive Access
  | ro | rw | rws | w1c | w1s | wr
  deriving DecidableEq, Repr

/-- The commit points of Table SCOPE-4; `accept` is the point of the registers that take effect when the request
that carries them is accepted (R37, R475, and the chapters of the registers). -/
inductive CommitPt
  | none | frame | blanking | wrap | accept
  deriving DecidableEq, Repr

/-- One register group: `base + s1·i + s2·j` for i < n1, j < n2 (offsets within the unit window). -/
structure RegRow where
  name : String
  base : Nat
  s1 : Nat
  n1 : Nat
  s2 : Nat
  n2 : Nat
  /-- value at reset -/
  reset : Nat
  access : Access
  commit : CommitPt
  /-- bits a write stores (RW and RWS fields) -/
  wmask : Nat
  /-- bits that writing 1 clears -/
  c1mask : Nat
  /-- bits that writing 1 sets -/
  s1mask : Nat
  /-- command bits -/
  cmask : Nat
  deriving DecidableEq, Repr

/-- Whether offset `o` of the unit window is a register of the group. -/
def RegRow.covers (r : RegRow) (o : Nat) : Bool :=
  decide (r.base ≤ o) && decide ((o - r.base) / r.s1 < r.n1) &&
    decide ((o - r.base) % r.s1 / r.s2 < r.n2) && decide ((o - r.base) % r.s1 % r.s2 = 0)

/-- The instance (first index) of offset `o` of the group. -/
def RegRow.inst (r : RegRow) (o : Nat) : Nat := (o - r.base) / r.s1

/-- The second index of offset `o` of the group. -/
def RegRow.sub (r : RegRow) (o : Nat) : Nat := (o - r.base) % r.s1 / r.s2

namespace Reg

/-! ### DEV -/

abbrev CS_MASK : Fld := ⟨0x400, 31, 0⟩
abbrev CS_MASK_UNITS : Fld := ⟨0x400, 12, 1⟩
abbrev CS_MASK_DEV : Fld := ⟨0x400, 0, 0⟩
abbrev CS_COMMIT : Fld := ⟨0x404, 31, 0⟩
abbrev CS_COMMIT_COMMIT : Fld := ⟨0x404, 0, 0⟩
abbrev CS_STATUS : Fld := ⟨0x408, 31, 0⟩
abbrev CS_STATUS_REASON : Fld := ⟨0x408, 31, 16⟩
abbrev CS_STATUS_DROPPED : Fld := ⟨0x408, 15, 8⟩
abbrev CS_STATUS_STATE : Fld := ⟨0x408, 1, 0⟩
abbrev CS_APPLY_FRAME : Fld := ⟨0x40c, 31, 0⟩
abbrev CS_APPLY_FRAME_ALIGN : Fld := ⟨0x40c, 31, 31⟩
abbrev CS_APPLY_FRAME_PATH : Fld := ⟨0x40c, 29, 24⟩
abbrev CS_APPLY_FRAME_FRAME : Fld := ⟨0x40c, 23, 0⟩
abbrev DEV_PATH_CFG (i : Nat) : Fld := ⟨0x1000 + 0x20 * i, 31, 0⟩
abbrev DEV_PATH_CFG_SINK_INDEX (i : Nat) : Fld := ⟨0x1000 + 0x20 * i, 15, 12⟩
abbrev DEV_PATH_CFG_SINK_KIND (i : Nat) : Fld := ⟨0x1000 + 0x20 * i, 11, 8⟩
abbrev DEV_PATH_CFG_SHED_RANK (i : Nat) : Fld := ⟨0x1000 + 0x20 * i, 6, 4⟩
abbrev DEV_PATH_CFG_DECLARED (i : Nat) : Fld := ⟨0x1000 + 0x20 * i, 0, 0⟩
abbrev DEV_PATH_LIMIT (i : Nat) : Fld := ⟨0x1004 + 0x20 * i, 31, 0⟩
abbrev DEV_PATH_LIMIT_LIMIT_US (i : Nat) : Fld := ⟨0x1004 + 0x20 * i, 31, 0⟩
abbrev DEV_PATH_SHED (i : Nat) : Fld := ⟨0x1010 + 0x20 * i, 31, 0⟩
abbrev DEV_PATH_SHED_SHED_NOW (i : Nat) : Fld := ⟨0x1010 + 0x20 * i, 8, 8⟩
abbrev DEV_PATH_SHED_SHED_LEVEL (i : Nat) : Fld := ⟨0x1010 + 0x20 * i, 3, 0⟩
abbrev DEV_LDG_CTL : Fld := ⟨0x440, 31, 0⟩
abbrev DEV_LDG_CTL_COP_TILE : Fld := ⟨0x440, 31, 24⟩
abbrev DEV_LDG_CTL_COP_UNIT : Fld := ⟨0x440, 23, 16⟩
abbrev DEV_LDG_CTL_COP_DRAM : Fld := ⟨0x440, 15, 8⟩
abbrev DEV_LDG_CTL_COVER_MIN : Fld := ⟨0x440, 3, 0⟩
abbrev DEV_LDG_STATUS : Fld := ⟨0x448, 31, 0⟩
abbrev DEV_LDG_STATUS_LAST_REASON : Fld := ⟨0x448, 31, 16⟩
abbrev DEV_LDG_STATUS_PLAN_SEQ : Fld := ⟨0x448, 15, 8⟩
abbrev DEV_LDG_STATUS_COVER : Fld := ⟨0x448, 7, 4⟩
abbrev DEV_LDG_STATUS_BUSY : Fld := ⟨0x448, 0, 0⟩
abbrev DEV_LDG_FAIL : Fld := ⟨0x44c, 31, 0⟩
abbrev DEV_LDG_FAIL_KIND : Fld := ⟨0x44c, 31, 24⟩
abbrev DEV_LDG_FAIL_INDEX : Fld := ⟨0x44c, 23, 16⟩
abbrev DEV_LDG_FAIL_LEVEL : Fld := ⟨0x44c, 15, 12⟩
abbrev DEV_INT_VEC (i : Nat) : Fld := ⟨0x740 + 0x4 * i, 31, 0⟩
abbrev DEV_INT_VEC_MSIX_EN (i : Nat) : Fld := ⟨0x740 + 0x4 * i, 31, 31⟩
abbrev DEV_INT_VEC_MGMT (i : Nat) : Fld := ⟨0x740 + 0x4 * i, 30, 30⟩
abbrev DEV_INT_VEC_CORES (i : Nat) : Fld := ⟨0x740 + 0x4 * i, 19, 16⟩
abbrev DEV_INT_VEC_VECTOR (i : Nat) : Fld := ⟨0x740 + 0x4 * i, 10, 0⟩
abbrev DEV_GPIO_FN (i : Nat) : Fld := ⟨0x800 + 0x4 * i, 31, 0⟩
abbrev DEV_GPIO_FN_FN (i : Nat) : Fld := ⟨0x800 + 0x4 * i, 31, 28⟩
abbrev DEV_GPIO_FN_INDEX (i : Nat) : Fld := ⟨0x800 + 0x4 * i, 27, 24⟩
abbrev DEV_GPIO_FN_OE (i : Nat) : Fld := ⟨0x800 + 0x4 * i, 1, 1⟩
abbrev DEV_GPIO_FN_OUT (i : Nat) : Fld := ⟨0x800 + 0x4 * i, 0, 0⟩
abbrev DEV_VARIANT : Fld := ⟨0x0, 31, 0⟩
abbrev DEV_UNITS_PRESENT : Fld := ⟨0x4, 31, 0⟩
abbrev DEV_STEPPING : Fld := ⟨0x8, 31, 0⟩
abbrev DEV_STEPPING_STEP : Fld := ⟨0x8, 7, 0⟩
abbrev DEV_VIEW : Fld := ⟨0x10, 31, 0⟩
abbrev DEV_VIEW_COPY : Fld := ⟨0x10, 0, 0⟩
abbrev DEV_EVT_STATUS : Fld := ⟨0x20, 31, 0⟩
abbrev DEV_EVT_STATUS_BITS : Fld := ⟨0x20, 6, 0⟩
abbrev DEV_EVT_ENABLE : Fld := ⟨0x24, 31, 0⟩
abbrev DEV_EVT_ENABLE_BITS : Fld := ⟨0x24, 6, 0⟩
abbrev DEV_EVT_FORCE : Fld := ⟨0x28, 31, 0⟩
abbrev DEV_EVT_FORCE_BITS : Fld := ⟨0x28, 6, 0⟩
abbrev DEV_LDG_HOST_BW : Fld := ⟨0x444, 31, 0⟩
abbrev DEV_CONFLICT_RES : Fld := ⟨0x450, 31, 0⟩
abbrev DEV_CONFLICT_RES_KIND : Fld := ⟨0x450, 31, 24⟩
abbrev DEV_CONFLICT_RES_INDEX : Fld := ⟨0x450, 15, 0⟩
abbrev DEV_CONFLICT_HOLDER : Fld := ⟨0x454, 31, 0⟩
abbrev DEV_CONFLICT_HOLDER_UNIT : Fld := ⟨0x454, 31, 24⟩
abbrev DEV_CONFLICT_HOLDER_INST : Fld := ⟨0x454, 23, 16⟩
abbrev DEV_CONFLICT_HOLDER_WORD : Fld := ⟨0x454, 15, 0⟩
abbrev DEV_CONFLICT_CLAIMANT : Fld := ⟨0x458, 31, 0⟩
abbrev DEV_CONFLICT_CLAIMANT_UNIT : Fld := ⟨0x458, 31, 24⟩
abbrev DEV_CONFLICT_CLAIMANT_INST : Fld := ⟨0x458, 23, 16⟩
abbrev DEV_CONFLICT_CLAIMANT_WORD : Fld := ⟨0x458, 15, 0⟩
abbrev DEV_PATH_BOUND (i : Nat) : Fld := ⟨0x1008 + 0x20 * i, 31, 0⟩
abbrev DEV_PATH_BOUND_L0 (i : Nat) : Fld := ⟨0x100c + 0x20 * i, 31, 0⟩
abbrev DEV_PATH_FRAME_LO (i : Nat) : Fld := ⟨0x1014 + 0x20 * i, 31, 0⟩
abbrev DEV_PATH_FRAME_HI (i : Nat) : Fld := ⟨0x1018 + 0x20 * i, 31, 0⟩
abbrev DEV_PATH_FRAME_HI_V (i : Nat) : Fld := ⟨0x1018 + 0x20 * i, 15, 0⟩
abbrev DEV_EVLOG_BASE_LO : Fld := ⟨0x600, 31, 0⟩
abbrev DEV_EVLOG_BASE_HI : Fld := ⟨0x604, 31, 0⟩
abbrev DEV_EVLOG_BASE_HI_V : Fld := ⟨0x604, 7, 0⟩
abbrev DEV_EVLOG_SEQ : Fld := ⟨0x608, 31, 0⟩
abbrev DEV_CNT_EVT_DROP : Fld := ⟨0x60c, 31, 0⟩
abbrev DEV_CNT_REPLY_DROP : Fld := ⟨0x610, 31, 0⟩
abbrev DEV_GRAFT_ADDR_LO : Fld := ⟨0x680, 31, 0⟩
abbrev DEV_GRAFT_ADDR_HI : Fld := ⟨0x684, 31, 0⟩
abbrev DEV_GRAFT_ADDR_HI_V : Fld := ⟨0x684, 7, 0⟩
abbrev DEV_GRAFT_STATUS : Fld := ⟨0x688, 31, 0⟩
abbrev DEV_GRAFT_STATUS_UNIT : Fld := ⟨0x688, 31, 28⟩
abbrev DEV_GRAFT_STATUS_RESULT : Fld := ⟨0x688, 7, 0⟩
abbrev DEV_LDG_GRAFTABLE : Fld := ⟨0x68c, 31, 0⟩
abbrev DEV_INT_STATUS : Fld := ⟨0x700, 31, 0⟩
abbrev DEV_INT_STATUS_V : Fld := ⟨0x700, 12, 0⟩
abbrev DEV_SNAP_ADDR_LO : Fld := ⟨0x780, 31, 0⟩
abbrev DEV_SNAP_ADDR_HI : Fld := ⟨0x784, 31, 0⟩
abbrev DEV_SNAP_ADDR_HI_V : Fld := ⟨0x784, 7, 0⟩
abbrev DEV_SNAP_CTL : Fld := ⟨0x788, 31, 0⟩
abbrev DEV_SNAP_CTL_SNAP : Fld := ⟨0x788, 0, 0⟩
abbrev DEV_GPIO_IN : Fld := ⟨0x880, 31, 0⟩

/-! ### UNIT -/

abbrev UNIT_CTL (u : Nat) : Fld := ⟨0x100000 * u + 0x8, 31, 0⟩
abbrev UNIT_CTL_GRAFT_REQ (u : Nat) : Fld := ⟨0x100000 * u + 0x8, 5, 5⟩
abbrev UNIT_CTL_RESET_REQ (u : Nat) : Fld := ⟨0x100000 * u + 0x8, 4, 4⟩
abbrev UNIT_CTL_FREEZE (u : Nat) : Fld := ⟨0x100000 * u + 0x8, 1, 1⟩
abbrev UNIT_CTL_ENABLE (u : Nat) : Fld := ⟨0x100000 * u + 0x8, 0, 0⟩
abbrev UNIT_STATE (u : Nat) : Fld := ⟨0x100000 * u + 0x24, 31, 0⟩
abbrev UNIT_STATE_PHASE (u : Nat) : Fld := ⟨0x100000 * u + 0x24, 31, 28⟩
abbrev UNIT_STATE_MAIN (u : Nat) : Fld := ⟨0x100000 * u + 0x24, 15, 0⟩
abbrev UNIT_DRAIN_TIME (u : Nat) : Fld := ⟨0x100000 * u + 0x30, 31, 0⟩
abbrev UNIT_DRAIN_TIME_DRAIN_US (u : Nat) : Fld := ⟨0x100000 * u + 0x30, 15, 0⟩
abbrev UNIT_ID (u : Nat) : Fld := ⟨0x100000 * u + 0x0, 31, 0⟩
abbrev UNIT_ID_UNIT (u : Nat) : Fld := ⟨0x100000 * u + 0x0, 31, 24⟩
abbrev UNIT_ID_VERSION (u : Nat) : Fld := ⟨0x100000 * u + 0x0, 23, 16⟩
abbrev UNIT_ID_UCODE (u : Nat) : Fld := ⟨0x100000 * u + 0x0, 15, 8⟩
abbrev UNIT_CAP (u : Nat) : Fld := ⟨0x100000 * u + 0x4, 31, 0⟩
abbrev UNIT_CAP_GRAFTABLE (u : Nat) : Fld := ⟨0x100000 * u + 0x4, 31, 31⟩
abbrev UNIT_CAP_SHADOWED (u : Nat) : Fld := ⟨0x100000 * u + 0x4, 30, 30⟩
abbrev UNIT_CAP_INST_MAX (u : Nat) : Fld := ⟨0x100000 * u + 0x4, 15, 8⟩
abbrev UNIT_CAP_INST_PRESENT (u : Nat) : Fld := ⟨0x100000 * u + 0x4, 7, 0⟩
abbrev UNIT_STATUS (u : Nat) : Fld := ⟨0x100000 * u + 0xc, 31, 0⟩
abbrev UNIT_STATUS_ENABLED (u : Nat) : Fld := ⟨0x100000 * u + 0xc, 31, 31⟩
abbrev UNIT_STATUS_CHECKING (u : Nat) : Fld := ⟨0x100000 * u + 0xc, 30, 30⟩
abbrev UNIT_STATUS_IDLE (u : Nat) : Fld := ⟨0x100000 * u + 0xc, 29, 29⟩
abbrev UNIT_STATUS_SHED_ALL (u : Nat) : Fld := ⟨0x100000 * u + 0xc, 28, 28⟩
abbrev UNIT_REFUSE (u : Nat) : Fld := ⟨0x100000 * u + 0x10, 31, 0⟩
abbrev UNIT_REFUSE_REASON (u : Nat) : Fld := ⟨0x100000 * u + 0x10, 31, 16⟩
abbrev UNIT_REFUSE_OFFSET (u : Nat) : Fld := ⟨0x100000 * u + 0x10, 15, 0⟩
abbrev UNIT_VIEW (u : Nat) : Fld := ⟨0x100000 * u + 0x14, 31, 0⟩
abbrev UNIT_VIEW_COPY (u : Nat) : Fld := ⟨0x100000 * u + 0x14, 0, 0⟩
abbrev UNIT_INT_STATUS (u : Nat) : Fld := ⟨0x100000 * u + 0x18, 31, 0⟩
abbrev UNIT_INT_ENABLE (u : Nat) : Fld := ⟨0x100000 * u + 0x1c, 31, 0⟩
abbrev UNIT_INT_FORCE (u : Nat) : Fld := ⟨0x100000 * u + 0x20, 31, 0⟩
abbrev UNIT_ERR_COUNT (u : Nat) : Fld := ⟨0x100000 * u + 0x28, 31, 0⟩
abbrev UNIT_EVENT_SEQ (u : Nat) : Fld := ⟨0x100000 * u + 0x2c, 31, 0⟩
abbrev UNIT_REFUSE_OFS (u : Nat) : Fld := ⟨0x100000 * u + 0x34, 31, 0⟩
abbrev UNIT_REFUSE_OFS_OFS (u : Nat) : Fld := ⟨0x100000 * u + 0x34, 19, 0⟩

/-! ### SLR -/

abbrev SLR_LINK_CFG (i : Nat) : Fld := ⟨0x100100 + 0x80 * i, 31, 0⟩
abbrev SLR_LINK_CFG_IMAGE_STREAM (i : Nat) : Fld := ⟨0x100100 + 0x80 * i, 31, 28⟩
abbrev SLR_LINK_CFG_PACK (i : Nat) : Fld := ⟨0x100100 + 0x80 * i, 27, 26⟩
abbrev SLR_LINK_CFG_DG (i : Nat) : Fld := ⟨0x100100 + 0x80 * i, 25, 25⟩
abbrev SLR_LINK_CFG_SOURCE (i : Nat) : Fld := ⟨0x100100 + 0x80 * i, 24, 24⟩
abbrev SLR_LINK_CFG_FILL_PERIOD (i : Nat) : Fld := ⟨0x100100 + 0x80 * i, 18, 16⟩
abbrev SLR_LINK_CFG_META_QUEUE (i : Nat) : Fld := ⟨0x100100 + 0x80 * i, 9, 0⟩
abbrev SLR_LINK_FMT (i : Nat) : Fld := ⟨0x100104 + 0x80 * i, 31, 0⟩
abbrev SLR_LINK_FMT_LINES (i : Nat) : Fld := ⟨0x100104 + 0x80 * i, 31, 16⟩
abbrev SLR_LINK_FMT_WIDTH (i : Nat) : Fld := ⟨0x100104 + 0x80 * i, 15, 0⟩
abbrev SLR_LINK_CTL (i : Nat) : Fld := ⟨0x100120 + 0x80 * i, 31, 0⟩
abbrev SLR_LINK_CTL_RELOCK (i : Nat) : Fld := ⟨0x100120 + 0x80 * i, 3, 3⟩
abbrev SLR_LINK_CTL_CLR (i : Nat) : Fld := ⟨0x100120 + 0x80 * i, 2, 2⟩
abbrev SLR_LINK_CTL_STOP (i : Nat) : Fld := ⟨0x100120 + 0x80 * i, 1, 1⟩
abbrev SLR_LINK_CTL_RUN (i : Nat) : Fld := ⟨0x100120 + 0x80 * i, 0, 0⟩
abbrev SLR_LINK_STATUS (i : Nat) : Fld := ⟨0x100124 + 0x80 * i, 31, 0⟩
abbrev SLR_LINK_STATUS_STATE (i : Nat) : Fld := ⟨0x100124 + 0x80 * i, 18, 16⟩
abbrev SLR_LINK_STATUS_RUNOUT (i : Nat) : Fld := ⟨0x100124 + 0x80 * i, 9, 8⟩
abbrev SLR_LINK_STATUS_ARMED (i : Nat) : Fld := ⟨0x100124 + 0x80 * i, 4, 4⟩
abbrev SLR_LINK_STATUS_SKEW_EXCESS (i : Nat) : Fld := ⟨0x100124 + 0x80 * i, 3, 3⟩
abbrev SLR_LINK_STATUS_LANE_ORDER (i : Nat) : Fld := ⟨0x100124 + 0x80 * i, 2, 2⟩
abbrev SLR_LINK_STATUS_LAST_INCOMPLETE (i : Nat) : Fld := ⟨0x100124 + 0x80 * i, 1, 1⟩
abbrev SLR_LANE_CFG (i : Nat) : Fld := ⟨0x101000 + 0x40 * i, 31, 0⟩
abbrev SLR_LANE_CFG_LINK (i : Nat) : Fld := ⟨0x101000 + 0x40 * i, 31, 30⟩
abbrev SLR_LANE_CFG_RATE (i : Nat) : Fld := ⟨0x101000 + 0x40 * i, 27, 12⟩
abbrev SLR_LANE_CFG_ADAPT (i : Nat) : Fld := ⟨0x101000 + 0x40 * i, 7, 7⟩
abbrev SLR_LANE_CFG_INVERT (i : Nat) : Fld := ⟨0x101000 + 0x40 * i, 6, 6⟩
abbrev SLR_LANE_CFG_CTLE (i : Nat) : Fld := ⟨0x101000 + 0x40 * i, 5, 0⟩
abbrev SLR_LANE_TEST (i : Nat) : Fld := ⟨0x101014 + 0x40 * i, 31, 0⟩
abbrev SLR_LANE_TEST_MODE (i : Nat) : Fld := ⟨0x101014 + 0x40 * i, 31, 30⟩
abbrev SLR_LANE_TEST_POLY (i : Nat) : Fld := ⟨0x101014 + 0x40 * i, 29, 28⟩
abbrev SLR_LANE_TEST_INVERT (i : Nat) : Fld := ⟨0x101014 + 0x40 * i, 27, 27⟩
abbrev SLR_LANE_TEST_INJ (i : Nat) : Fld := ⟨0x101014 + 0x40 * i, 26, 25⟩
abbrev SLR_LANE_TEST_BURST (i : Nat) : Fld := ⟨0x101014 + 0x40 * i, 23, 16⟩
abbrev SLR_LANE_TEST_CLR (i : Nat) : Fld := ⟨0x101014 + 0x40 * i, 2, 2⟩
abbrev SLR_LANE_TEST_GO (i : Nat) : Fld := ⟨0x101014 + 0x40 * i, 1, 1⟩
abbrev SLR_LANE_TEST_CHK_LOCK (i : Nat) : Fld := ⟨0x101014 + 0x40 * i, 0, 0⟩
abbrev SLR_TRIG_CFG (i : Nat) : Fld := ⟨0x100300 + 0x10 * i, 31, 0⟩
abbrev SLR_TRIG_CFG_LINK (i : Nat) : Fld := ⟨0x100300 + 0x10 * i, 31, 30⟩
abbrev SLR_TRIG_CFG_POLARITY (i : Nat) : Fld := ⟨0x100300 + 0x10 * i, 29, 29⟩
abbrev SLR_LINK_OB (i : Nat) : Fld := ⟨0x100108 + 0x80 * i, 31, 0⟩
abbrev SLR_LINK_OB_OB (i : Nat) : Fld := ⟨0x100108 + 0x80 * i, 8, 0⟩
abbrev SLR_LINK_TRD (i : Nat) : Fld := ⟨0x10010c + 0x80 * i, 31, 0⟩
abbrev SLR_LINK_RATE (i : Nat) : Fld := ⟨0x100110 + 0x80 * i, 31, 0⟩
abbrev SLR_LINK_RATE_NUM (i : Nat) : Fld := ⟨0x100110 + 0x80 * i, 31, 12⟩
abbrev SLR_LINK_RATE_DEN (i : Nat) : Fld := ⟨0x100110 + 0x80 * i, 11, 0⟩
abbrev SLR_SOF_LAT (i : Nat) : Fld := ⟨0x100128 + 0x80 * i, 31, 0⟩
abbrev SLR_SOF_SEQ (i : Nat) : Fld := ⟨0x100130 + 0x80 * i, 31, 0⟩
abbrev SLR_SOF_S_HI (i : Nat) : Fld := ⟨0x100134 + 0x80 * i, 31, 0⟩
abbrev SLR_SOF_S_HI_V (i : Nat) : Fld := ⟨0x100134 + 0x80 * i, 15, 0⟩
abbrev SLR_SOF_S_LO (i : Nat) : Fld := ⟨0x100138 + 0x80 * i, 31, 0⟩
abbrev SLR_SOF_NS (i : Nat) : Fld := ⟨0x10013c + 0x80 * i, 31, 0⟩
abbrev SLR_CNT_HCRC (i : Nat) : Fld := ⟨0x100140 + 0x80 * i, 31, 0⟩
abbrev SLR_CNT_PCRC (i : Nat) : Fld := ⟨0x100144 + 0x80 * i, 31, 0⟩
abbrev SLR_CNT_LINE_FILL (i : Nat) : Fld := ⟨0x100148 + 0x80 * i, 31, 0⟩
abbrev SLR_CNT_LINE_LATE (i : Nat) : Fld := ⟨0x10014c + 0x80 * i, 31, 0⟩
abbrev SLR_CNT_FRAME_INCOMPLETE (i : Nat) : Fld := ⟨0x100150 + 0x80 * i, 31, 0⟩
abbrev SLR_CNT_FS_LOST (i : Nat) : Fld := ⟨0x100154 + 0x80 * i, 31, 0⟩
abbrev SLR_CNT_FS_DISCARD (i : Nat) : Fld := ⟨0x100158 + 0x80 * i, 31, 0⟩
abbrev SLR_CNT_LOCK_LOSS (i : Nat) : Fld := ⟨0x10015c + 0x80 * i, 31, 0⟩
abbrev SLR_STAT_TEMP (i : Nat) : Fld := ⟨0x100160 + 0x80 * i, 31, 0⟩
abbrev SLR_STAT_TEMP_VALID (i : Nat) : Fld := ⟨0x100160 + 0x80 * i, 31, 31⟩
abbrev SLR_STAT_TEMP_TEMP (i : Nat) : Fld := ⟨0x100160 + 0x80 * i, 15, 0⟩
abbrev SLR_TRIG_OFFSET (i : Nat) : Fld := ⟨0x100304 + 0x10 * i, 31, 0⟩
abbrev SLR_TRIG_WIDTH (i : Nat) : Fld := ⟨0x100308 + 0x10 * i, 31, 0⟩
abbrev SLR_REFCLK (i : Nat) : Fld := ⟨0x100380 + 0x4 * i, 31, 0⟩
abbrev SLR_REFCLK_EN (i : Nat) : Fld := ⟨0x100380 + 0x4 * i, 31, 31⟩
abbrev SLR_REFCLK_MEDIA (i : Nat) : Fld := ⟨0x100380 + 0x4 * i, 30, 30⟩
abbrev SLR_REFCLK_HZ (i : Nat) : Fld := ⟨0x100380 + 0x4 * i, 29, 0⟩
abbrev SLR_PAT_CFG : Fld := ⟨0x100400, 31, 0⟩
abbrev SLR_PAT_CFG_KIND : Fld := ⟨0x100400, 31, 28⟩
abbrev SLR_PAT_CFG_PARAM : Fld := ⟨0x100400, 15, 0⟩
abbrev SLR_PAT_ADDR_LO : Fld := ⟨0x100404, 31, 0⟩
abbrev SLR_PAT_ADDR_HI : Fld := ⟨0x100408, 31, 0⟩
abbrev SLR_PAT_ADDR_HI_V : Fld := ⟨0x100408, 7, 0⟩
abbrev SLR_PAT_BAR (i : Nat) : Fld := ⟨0x100410 + 0x4 * i, 31, 0⟩
abbrev SLR_PAT_BAR_LEVEL (i : Nat) : Fld := ⟨0x100410 + 0x4 * i, 15, 0⟩
abbrev SLR_SCTL_PUSH (i : Nat) : Fld := ⟨0x100500 + 0x10 * i, 31, 0⟩
abbrev SLR_SCTL_RESULT (i : Nat) : Fld := ⟨0x100504 + 0x10 * i, 31, 0⟩
abbrev SLR_SCTL_RESULT_STATUS (i : Nat) : Fld := ⟨0x100504 + 0x10 * i, 31, 24⟩
abbrev SLR_SCTL_RESULT_COUNT (i : Nat) : Fld := ⟨0x100504 + 0x10 * i, 20, 16⟩
abbrev SLR_SCTL_RESULT_DATA (i : Nat) : Fld := ⟨0x100504 + 0x10 * i, 15, 0⟩
abbrev SLR_LANE_STATUS (i : Nat) : Fld := ⟨0x101004 + 0x40 * i, 31, 0⟩
abbrev SLR_LANE_STATUS_SKEW (i : Nat) : Fld := ⟨0x101004 + 0x40 * i, 31, 21⟩
abbrev SLR_LANE_STATUS_LANE (i : Nat) : Fld := ⟨0x101004 + 0x40 * i, 20, 16⟩
abbrev SLR_LANE_STATUS_CODE (i : Nat) : Fld := ⟨0x101004 + 0x40 * i, 15, 10⟩
abbrev SLR_LANE_STATUS_MARKER_LOCK (i : Nat) : Fld := ⟨0x101004 + 0x40 * i, 2, 2⟩
abbrev SLR_LANE_STATUS_CDR_LOCK (i : Nat) : Fld := ⟨0x101004 + 0x40 * i, 1, 1⟩
abbrev SLR_LANE_STATUS_ADAPT_DONE (i : Nat) : Fld := ⟨0x101004 + 0x40 * i, 0, 0⟩
abbrev SLR_LANE_EYE (i : Nat) : Fld := ⟨0x101008 + 0x40 * i, 31, 0⟩
abbrev SLR_LANE_EYE_HEIGHT (i : Nat) : Fld := ⟨0x101008 + 0x40 * i, 31, 16⟩
abbrev SLR_LANE_EYE_WIDTH (i : Nat) : Fld := ⟨0x101008 + 0x40 * i, 15, 0⟩
abbrev SLR_CNT_MARKER (i : Nat) : Fld := ⟨0x10100c + 0x40 * i, 31, 0⟩
abbrev SLR_CNT_STUFF (i : Nat) : Fld := ⟨0x101010 + 0x40 * i, 31, 0⟩
abbrev SLR_LANE_INJ_PERIOD (i : Nat) : Fld := ⟨0x101018 + 0x40 * i, 31, 0⟩
abbrev SLR_PRBS_ERR (i : Nat) : Fld := ⟨0x10101c + 0x40 * i, 31, 0⟩
abbrev SLR_PRBS_BITS_LO (i : Nat) : Fld := ⟨0x101020 + 0x40 * i, 31, 0⟩
abbrev SLR_PRBS_BITS_HI (i : Nat) : Fld := ⟨0x101024 + 0x40 * i, 31, 0⟩
abbrev SLR_PRBS_BITS_HI_V (i : Nat) : Fld := ⟨0x101024 + 0x40 * i, 15, 0⟩
abbrev SLR_INJ_CNT (i : Nat) : Fld := ⟨0x101028 + 0x40 * i, 31, 0⟩

/-! ### RFE -/

abbrev RFE_CFG : Fld := ⟨0x200100, 31, 0⟩
abbrev RFE_CFG_TAP_ORIG : Fld := ⟨0x200100, 31, 31⟩
abbrev RFE_CFG_TAP_CORR : Fld := ⟨0x200100, 30, 30⟩
abbrev RFE_CFG_LINK : Fld := ⟨0x200100, 29, 28⟩
abbrev RFE_CFG_CFA : Fld := ⟨0x200100, 27, 26⟩
abbrev RFE_CFG_PHASE : Fld := ⟨0x200100, 25, 24⟩
abbrev RFE_CFG_GAIN_EN : Fld := ⟨0x200100, 6, 6⟩
abbrev RFE_CFG_FF_EN : Fld := ⟨0x200100, 5, 5⟩
abbrev RFE_CFG_DMT_EN : Fld := ⟨0x200100, 4, 4⟩
abbrev RFE_CFG_COL_EN : Fld := ⟨0x200100, 3, 3⟩
abbrev RFE_CFG_BLACK_EN : Fld := ⟨0x200100, 2, 2⟩
abbrev RFE_CFG_DG_MERGE : Fld := ⟨0x200100, 1, 1⟩
abbrev RFE_CHMAP : Fld := ⟨0x20010c, 31, 0⟩
abbrev RFE_CHMAP_SPLIT_ROW : Fld := ⟨0x20010c, 31, 18⟩
abbrev RFE_CHMAP_COLS_M1 : Fld := ⟨0x20010c, 17, 11⟩
abbrev RFE_CHMAP_GROUP : Fld := ⟨0x20010c, 10, 0⟩
abbrev RFE_DG_CFG : Fld := ⟨0x200110, 31, 0⟩
abbrev RFE_DG_CFG_RATIO : Fld := ⟨0x200110, 31, 16⟩
abbrev RFE_DG_CFG_SHIFT : Fld := ⟨0x200110, 2, 0⟩
abbrev RFE_DYN_CFG : Fld := ⟨0x20012c, 31, 0⟩
abbrev RFE_DYN_CFG_MODE : Fld := ⟨0x20012c, 31, 30⟩
abbrev RFE_DYN_CFG_REL : Fld := ⟨0x20012c, 23, 16⟩
abbrev RFE_DYN_CFG_ABS : Fld := ⟨0x20012c, 15, 0⟩
abbrev RFE_FF_CFG : Fld := ⟨0x200138, 31, 0⟩
abbrev RFE_FF_CFG_PITCH : Fld := ⟨0x200138, 31, 30⟩
abbrev RFE_FF_CFG_GX : Fld := ⟨0x200138, 28, 16⟩
abbrev RFE_FF_CFG_GY : Fld := ⟨0x200138, 12, 0⟩
abbrev RFE_TBL_CTL : Fld := ⟨0x200140, 31, 0⟩
abbrev RFE_TBL_CTL_SWAP_GAIN : Fld := ⟨0x200140, 2, 2⟩
abbrev RFE_TBL_CTL_SWAP_COL : Fld := ⟨0x200140, 1, 1⟩
abbrev RFE_TBL_CTL_SWAP_BLACK : Fld := ⟨0x200140, 0, 0⟩
abbrev RFE_TBL_STATUS : Fld := ⟨0x200144, 31, 0⟩
abbrev RFE_TBL_STATUS_BUSY : Fld := ⟨0x200144, 18, 16⟩
abbrev RFE_TBL_STATUS_PENDING : Fld := ⟨0x200144, 10, 8⟩
abbrev RFE_TBL_STATUS_ACTIVE : Fld := ⟨0x200144, 2, 0⟩
abbrev RFE_CAL_CFG : Fld := ⟨0x200200, 31, 0⟩
abbrev RFE_CAL_CFG_MODE : Fld := ⟨0x200200, 31, 30⟩
abbrev RFE_CAL_CFG_TEMP_SRC : Fld := ⟨0x200200, 29, 28⟩
abbrev RFE_CAL_CFG_TRK_GAIN : Fld := ⟨0x200200, 26, 26⟩
abbrev RFE_CAL_CFG_TRK_COL : Fld := ⟨0x200200, 25, 25⟩
abbrev RFE_CAL_CFG_TRK_BLACK : Fld := ⟨0x200200, 24, 24⟩
abbrev RFE_CAL_CFG_GAIN_K : Fld := ⟨0x200200, 19, 16⟩
abbrev RFE_CAL_CFG_BLACK_K : Fld := ⟨0x200200, 15, 12⟩
abbrev RFE_CAL_CFG_COL_K : Fld := ⟨0x200200, 11, 8⟩
abbrev RFE_CAL_CFG_RUN_FRAMES : Fld := ⟨0x200200, 7, 0⟩
abbrev RFE_CAL_CTL : Fld := ⟨0x200220, 31, 0⟩
abbrev RFE_CAL_CTL_CLR : Fld := ⟨0x200220, 5, 5⟩
abbrev RFE_CAL_CTL_DISCARD : Fld := ⟨0x200220, 4, 4⟩
abbrev RFE_CAL_CTL_ACCEPT : Fld := ⟨0x200220, 3, 3⟩
abbrev RFE_CAL_CTL_STEP_FLAT : Fld := ⟨0x200220, 2, 2⟩
abbrev RFE_CAL_CTL_STEP_DARK : Fld := ⟨0x200220, 1, 1⟩
abbrev RFE_CAL_CTL_RUN : Fld := ⟨0x200220, 0, 0⟩
abbrev RFE_CAL_STATE : Fld := ⟨0x200240, 31, 0⟩
abbrev RFE_CAL_STATE_SRC_USED : Fld := ⟨0x200240, 21, 21⟩
abbrev RFE_CAL_STATE_TEMP_MISSING : Fld := ⟨0x200240, 20, 20⟩
abbrev RFE_CAL_STATE_RESULT : Fld := ⟨0x200240, 19, 16⟩
abbrev RFE_CAL_STATE_FRAMES : Fld := ⟨0x200240, 15, 8⟩
abbrev RFE_CAL_STATE_STATE : Fld := ⟨0x200240, 2, 0⟩
abbrev RFE_PEDESTAL : Fld := ⟨0x200104, 31, 0⟩
abbrev RFE_PEDESTAL_PEDESTAL : Fld := ⟨0x200104, 15, 0⟩
abbrev RFE_ORIGIN : Fld := ⟨0x200108, 31, 0⟩
abbrev RFE_ORIGIN_Y : Fld := ⟨0x200108, 30, 16⟩
abbrev RFE_ORIGIN_X : Fld := ⟨0x200108, 14, 0⟩
abbrev RFE_DG_PED : Fld := ⟨0x200114, 31, 0⟩
abbrev RFE_DG_PED_B : Fld := ⟨0x200114, 31, 16⟩
abbrev RFE_DG_PED_A : Fld := ⟨0x200114, 15, 0⟩
abbrev RFE_DG_KNEE : Fld := ⟨0x200118, 31, 0⟩
abbrev RFE_DG_KNEE_HI : Fld := ⟨0x200118, 31, 16⟩
abbrev RFE_DG_KNEE_LO : Fld := ⟨0x200118, 15, 0⟩
abbrev RFE_DMT_BASE_LO : Fld := ⟨0x200120, 31, 0⟩
abbrev RFE_DMT_BASE_HI : Fld := ⟨0x200124, 31, 0⟩
abbrev RFE_DMT_BASE_HI_V : Fld := ⟨0x200124, 7, 0⟩
abbrev RFE_DMT_COUNT : Fld := ⟨0x200128, 31, 0⟩
abbrev RFE_DMT_COUNT_N : Fld := ⟨0x200128, 22, 0⟩
abbrev RFE_FF_BASE_LO : Fld := ⟨0x200130, 31, 0⟩
abbrev RFE_FF_BASE_HI : Fld := ⟨0x200134, 31, 0⟩
abbrev RFE_FF_BASE_HI_V : Fld := ⟨0x200134, 7, 0⟩
abbrev RFE_TBL_MASTER_LO : Fld := ⟨0x200148, 31, 0⟩
abbrev RFE_TBL_MASTER_HI : Fld := ⟨0x20014c, 31, 0⟩
abbrev RFE_TBL_MASTER_HI_V : Fld := ⟨0x20014c, 7, 0⟩
abbrev RFE_DMT_STATUS : Fld := ⟨0x200150, 31, 0⟩
abbrev RFE_DMT_STATUS_ORDER : Fld := ⟨0x200150, 31, 31⟩
abbrev RFE_DMT_STATUS_CONSUMED : Fld := ⟨0x200150, 22, 0⟩
abbrev RFE_REC_CFG : Fld := ⟨0x200154, 31, 0⟩
abbrev RFE_REC_CFG_REEL_ORIG : Fld := ⟨0x200154, 6, 4⟩
abbrev RFE_REC_CFG_REEL_CORR : Fld := ⟨0x200154, 2, 0⟩
abbrev RFE_FRAME_SEQ : Fld := ⟨0x20015c, 31, 0⟩
abbrev RFE_CNT_DMT_APPLIED : Fld := ⟨0x200160, 31, 0⟩
abbrev RFE_CNT_DMT_SKIPPED : Fld := ⟨0x200164, 31, 0⟩
abbrev RFE_CNT_DYN_COUNT : Fld := ⟨0x200168, 31, 0⟩
abbrev RFE_CNT_CLIP : Fld := ⟨0x20016c, 31, 0⟩
abbrev RFE_CNT_POISON_TILES : Fld := ⟨0x200170, 31, 0⟩
abbrev RFE_CNT_PARITY : Fld := ⟨0x200174, 31, 0⟩
abbrev RFE_CNT_DMT_READ_ERR : Fld := ⟨0x200178, 31, 0⟩
abbrev RFE_CNT_CONCEAL : Fld := ⟨0x20017c, 31, 0⟩
abbrev RFE_CAL_TEMP_DELTA : Fld := ⟨0x200204, 31, 0⟩
abbrev RFE_CAL_TEMP_DELTA_MAX_INTERVAL : Fld := ⟨0x200204, 31, 16⟩
abbrev RFE_CAL_TEMP_DELTA_DELTA : Fld := ⟨0x200204, 15, 0⟩
abbrev RFE_CAL_OBCOL : Fld := ⟨0x200208, 31, 0⟩
abbrev RFE_CAL_OBCOL_EN : Fld := ⟨0x200208, 31, 31⟩
abbrev RFE_CAL_OBCOL_LAST : Fld := ⟨0x200208, 30, 16⟩
abbrev RFE_CAL_OBCOL_FIRST : Fld := ⟨0x200208, 14, 0⟩
abbrev RFE_CAL_OB_CLIP : Fld := ⟨0x20020c, 31, 0⟩
abbrev RFE_CAL_OB_CLIP_CLIP : Fld := ⟨0x20020c, 15, 0⟩
abbrev RFE_CAL_SEAM : Fld := ⟨0x200210, 31, 0⟩
abbrev RFE_CAL_SEAM_MIN_PAIRS : Fld := ⟨0x200210, 31, 16⟩
abbrev RFE_CAL_SEAM_GRAD : Fld := ⟨0x200210, 15, 0⟩
abbrev RFE_CAL_SEAM_WIN : Fld := ⟨0x200214, 31, 0⟩
abbrev RFE_CAL_SEAM_WIN_HI : Fld := ⟨0x200214, 31, 16⟩
abbrev RFE_CAL_SEAM_WIN_LO : Fld := ⟨0x200214, 15, 0⟩
abbrev RFE_CAL_REF : Fld := ⟨0x200224, 31, 0⟩
abbrev RFE_CAL_REF_N_FRAMES : Fld := ⟨0x200224, 31, 24⟩
abbrev RFE_CAL_REF_GRID_OUT : Fld := ⟨0x200224, 23, 23⟩
abbrev RFE_CAL_REF_DEFECT_THR : Fld := ⟨0x200224, 15, 0⟩
abbrev RFE_CAL_OUT_LO : Fld := ⟨0x200228, 31, 0⟩
abbrev RFE_CAL_OUT_HI : Fld := ⟨0x20022c, 31, 0⟩
abbrev RFE_CAL_OUT_HI_V : Fld := ⟨0x20022c, 7, 0⟩
abbrev RFE_CAL_DEFECT_MAX : Fld := ⟨0x200230, 31, 0⟩
abbrev RFE_CAL_DEFECT_MAX_N : Fld := ⟨0x200230, 22, 0⟩
abbrev RFE_CAL_TEMP_NOW : Fld := ⟨0x200244, 31, 0⟩
abbrev RFE_CAL_TEMP_NOW_T : Fld := ⟨0x200244, 15, 0⟩
abbrev RFE_CAL_LAST_TEMP : Fld := ⟨0x200248, 31, 0⟩
abbrev RFE_CAL_LAST_TEMP_T : Fld := ⟨0x200248, 15, 0⟩
abbrev RFE_CAL_COUNT : Fld := ⟨0x20024c, 31, 0⟩
abbrev RFE_CAL_LAST_S_HI : Fld := ⟨0x200250, 31, 0⟩
abbrev RFE_CAL_LAST_S_HI_V : Fld := ⟨0x200250, 15, 0⟩
abbrev RFE_CAL_LAST_S_LO : Fld := ⟨0x200254, 31, 0⟩
abbrev RFE_CAL_LAST_NS : Fld := ⟨0x200258, 31, 0⟩
abbrev RFE_CAL_ABANDONED : Fld := ⟨0x20025c, 31, 0⟩
abbrev RFE_CAL_DEFECTS : Fld := ⟨0x200260, 31, 0⟩
abbrev RFE_CAL_DEFECTS_OVERFLOW : Fld := ⟨0x200260, 31, 31⟩
abbrev RFE_CAL_DEFECTS_N : Fld := ⟨0x200260, 22, 0⟩
abbrev RFE_CAL_FF_CLAMP : Fld := ⟨0x200264, 31, 0⟩

/-! ### CSE -/

abbrev CSE_SCN_CFG : Fld := ⟨0x300100, 31, 0⟩
abbrev CSE_SCN_CFG_DEMOSAIC : Fld := ⟨0x300100, 31, 30⟩
abbrev CSE_SCN_CFG_WS : Fld := ⟨0x300100, 27, 24⟩
abbrev CSE_SCN_CFG_DIR_THR : Fld := ⟨0x300100, 23, 16⟩
abbrev CSE_SCN_CFG_CLIP_EN : Fld := ⟨0x300100, 8, 8⟩
abbrev CSE_TNR_CFG : Fld := ⟨0x300200, 31, 0⟩
abbrev CSE_TNR_CFG_MODE : Fld := ⟨0x300200, 31, 30⟩
abbrev CSE_TNR_CFG_MF_QUEUE : Fld := ⟨0x300200, 25, 16⟩
abbrev CSE_TNR_CFG_MAX_AGE : Fld := ⟨0x300200, 13, 12⟩
abbrev CSE_TNR_CFG_MF_SESSION : Fld := ⟨0x300200, 9, 8⟩
abbrev CSE_TNR_CFG_K_MAX : Fld := ⟨0x300200, 7, 0⟩
abbrev CSE_TNR_CTL : Fld := ⟨0x300220, 31, 0⟩
abbrev CSE_TNR_CTL_CLR : Fld := ⟨0x300220, 1, 1⟩
abbrev CSE_TNR_CTL_HIST_RESET : Fld := ⟨0x300220, 0, 0⟩
abbrev CSE_TNR_STATUS : Fld := ⟨0x300240, 31, 0⟩
abbrev CSE_TNR_STATUS_MF_STATE : Fld := ⟨0x300240, 31, 28⟩
abbrev CSE_TNR_STATUS_AGE : Fld := ⟨0x300240, 25, 24⟩
abbrev CSE_TNR_STATUS_HIST_VALID : Fld := ⟨0x300240, 0, 0⟩
abbrev RP_CFG (i : Nat) : Fld := ⟨0x301000 + 0x400 * i, 31, 0⟩
abbrev RP_CFG_EN (i : Nat) : Fld := ⟨0x301000 + 0x400 * i, 31, 31⟩
abbrev RP_CFG_LUT_MODE (i : Nat) : Fld := ⟨0x301000 + 0x400 * i, 29, 28⟩
abbrev RP_CFG_GAMUT (i : Nat) : Fld := ⟨0x301000 + 0x400 * i, 27, 24⟩
abbrev RP_TF_CFG (i : Nat) : Fld := ⟨0x301080 + 0x400 * i, 31, 0⟩
abbrev RP_TF_CFG_TRANSFER (i : Nat) : Fld := ⟨0x301080 + 0x400 * i, 31, 28⟩
abbrev RP_TF_CFG_SHAPER (i : Nat) : Fld := ⟨0x301080 + 0x400 * i, 27, 26⟩
abbrev RP_TF_CFG_PQ_NITS (i : Nat) : Fld := ⟨0x301080 + 0x400 * i, 15, 0⟩
abbrev RP_ENC_CFG (i : Nat) : Fld := ⟨0x301088 + 0x400 * i, 31, 0⟩
abbrev RP_ENC_CFG_FMT (i : Nat) : Fld := ⟨0x301088 + 0x400 * i, 31, 28⟩
abbrev RP_ENC_CFG_MATRIX (i : Nat) : Fld := ⟨0x301088 + 0x400 * i, 25, 24⟩
abbrev RP_ENC_CFG_DEPTH (i : Nat) : Fld := ⟨0x301088 + 0x400 * i, 23, 22⟩
abbrev RP_ENC_CFG_RANGE (i : Nat) : Fld := ⟨0x301088 + 0x400 * i, 21, 21⟩
abbrev RP_ENC_CFG_SDI_SAFE (i : Nat) : Fld := ⟨0x301088 + 0x400 * i, 20, 20⟩
abbrev RP_ENC_CFG_FLOAT (i : Nat) : Fld := ⟨0x301088 + 0x400 * i, 19, 19⟩
abbrev RP_LUT_STATUS (i : Nat) : Fld := ⟨0x30109c + 0x400 * i, 31, 0⟩
abbrev RP_LUT_STATUS_STATE (i : Nat) : Fld := ⟨0x30109c + 0x400 * i, 18, 16⟩
abbrev RP_LUT_STATUS_ACTIVE (i : Nat) : Fld := ⟨0x30109c + 0x400 * i, 8, 8⟩
abbrev RP_LUT_STATUS_MASTER_RETAINED_1 (i : Nat) : Fld := ⟨0x30109c + 0x400 * i, 1, 1⟩
abbrev RP_LUT_STATUS_MASTER_RETAINED_0 (i : Nat) : Fld := ⟨0x30109c + 0x400 * i, 0, 0⟩
abbrev CSE_IN_SCALE : Fld := ⟨0x300104, 31, 0⟩
abbrev CSE_IN_SCALE_V : Fld := ⟨0x300104, 23, 0⟩
abbrev CSE_WB_R : Fld := ⟨0x300108, 31, 0⟩
abbrev CSE_WB_R_V : Fld := ⟨0x300108, 23, 0⟩
abbrev CSE_WB_G : Fld := ⟨0x30010c, 31, 0⟩
abbrev CSE_WB_G_V : Fld := ⟨0x30010c, 23, 0⟩
abbrev CSE_WB_B : Fld := ⟨0x300110, 31, 0⟩
abbrev CSE_WB_B_V : Fld := ⟨0x300110, 23, 0⟩
abbrev CSE_CLIP : Fld := ⟨0x300114, 31, 0⟩
abbrev CSE_CLIP_CODE : Fld := ⟨0x300114, 15, 0⟩
abbrev CSE_MTX (i : Nat) : Fld := ⟨0x300140 + 0x4 * i, 31, 0⟩
abbrev CSE_MTX_V (i : Nat) : Fld := ⟨0x300140 + 0x4 * i, 23, 0⟩
abbrev CSE_TNR_N0 : Fld := ⟨0x300204, 31, 0⟩
abbrev CSE_TNR_N0_V : Fld := ⟨0x300204, 23, 0⟩
abbrev CSE_TNR_N1 : Fld := ⟨0x300208, 31, 0⟩
abbrev CSE_TNR_N1_V : Fld := ⟨0x300208, 23, 0⟩
abbrev CSE_TNR_THR : Fld := ⟨0x30020c, 31, 0⟩
abbrev CSE_TNR_THR_COST_MAX : Fld := ⟨0x30020c, 23, 16⟩
abbrev CSE_TNR_THR_THR : Fld := ⟨0x30020c, 15, 0⟩
abbrev CSE_FRAME_SEQ : Fld := ⟨0x30025c, 31, 0⟩
abbrev CSE_CNT_MF_FALLBACK : Fld := ⟨0x300260, 31, 0⟩
abbrev CSE_CNT_MF_CLAMP : Fld := ⟨0x300264, 31, 0⟩
abbrev CSE_CNT_MF_DROP : Fld := ⟨0x300268, 31, 0⟩
abbrev CSE_CNT_HIST_LOST : Fld := ⟨0x30026c, 31, 0⟩
abbrev CSE_CNT_PARITY : Fld := ⟨0x300270, 31, 0⟩
abbrev CSE_CNT_LB_REFILL : Fld := ⟨0x300274, 31, 0⟩
abbrev CSE_CNT_CONCEAL : Fld := ⟨0x300278, 31, 0⟩
abbrev RP_CROP_XY (i : Nat) : Fld := ⟨0x301004 + 0x400 * i, 31, 0⟩
abbrev RP_CROP_XY_CY (i : Nat) : Fld := ⟨0x301004 + 0x400 * i, 30, 16⟩
abbrev RP_CROP_XY_CX (i : Nat) : Fld := ⟨0x301004 + 0x400 * i, 14, 0⟩
abbrev RP_CROP_WH (i : Nat) : Fld := ⟨0x301008 + 0x400 * i, 31, 0⟩
abbrev RP_CROP_WH_CH (i : Nat) : Fld := ⟨0x301008 + 0x400 * i, 30, 16⟩
abbrev RP_CROP_WH_CW (i : Nat) : Fld := ⟨0x301008 + 0x400 * i, 14, 0⟩
abbrev RP_OUT_SIZE (i : Nat) : Fld := ⟨0x30100c + 0x400 * i, 31, 0⟩
abbrev RP_OUT_SIZE_OH (i : Nat) : Fld := ⟨0x30100c + 0x400 * i, 29, 16⟩
abbrev RP_OUT_SIZE_OW (i : Nat) : Fld := ⟨0x30100c + 0x400 * i, 14, 0⟩
abbrev RP_SCALE (i : Nat) : Fld := ⟨0x301010 + 0x400 * i, 31, 0⟩
abbrev RP_SCALE_DY (i : Nat) : Fld := ⟨0x301010 + 0x400 * i, 5, 4⟩
abbrev RP_SCALE_DX (i : Nat) : Fld := ⟨0x301010 + 0x400 * i, 1, 0⟩
abbrev RP_XFORM (i : Nat) (j : Nat) : Fld := ⟨0x301040 + 0x400 * i + 0x4 * j, 31, 0⟩
abbrev RP_XFORM_V (i : Nat) (j : Nat) : Fld := ⟨0x301040 + 0x400 * i + 0x4 * j, 23, 0⟩
abbrev RP_TF_GAIN (i : Nat) : Fld := ⟨0x301084 + 0x400 * i, 31, 0⟩
abbrev RP_TF_GAIN_V (i : Nat) : Fld := ⟨0x301084 + 0x400 * i, 23, 0⟩
abbrev RP_LUT_ADDR_LO (i : Nat) : Fld := ⟨0x301090 + 0x400 * i, 31, 0⟩
abbrev RP_LUT_ADDR_HI (i : Nat) : Fld := ⟨0x301094 + 0x400 * i, 31, 0⟩
abbrev RP_LUT_ADDR_HI_V (i : Nat) : Fld := ⟨0x301094 + 0x400 * i, 7, 0⟩
abbrev RP_LUT_CTL (i : Nat) : Fld := ⟨0x301098 + 0x400 * i, 31, 0⟩
abbrev RP_LUT_CTL_LOAD (i : Nat) : Fld := ⟨0x301098 + 0x400 * i, 0, 0⟩
abbrev RP_TBL_CTL (i : Nat) : Fld := ⟨0x3010a0 + 0x400 * i, 31, 0⟩
abbrev RP_TBL_CTL_SWAP (i : Nat) : Fld := ⟨0x3010a0 + 0x400 * i, 0, 0⟩
abbrev RP_TBL_STATUS (i : Nat) : Fld := ⟨0x3010a4 + 0x400 * i, 31, 0⟩
abbrev RP_TBL_STATUS_STATE (i : Nat) : Fld := ⟨0x3010a4 + 0x400 * i, 18, 16⟩
abbrev RP_TBL_STATUS_ACTIVE (i : Nat) : Fld := ⟨0x3010a4 + 0x400 * i, 8, 8⟩
abbrev RP_TBL_MASTER_LO (i : Nat) : Fld := ⟨0x3010a8 + 0x400 * i, 31, 0⟩
abbrev RP_TBL_MASTER_HI (i : Nat) : Fld := ⟨0x3010ac + 0x400 * i, 31, 0⟩
abbrev RP_TBL_MASTER_HI_V (i : Nat) : Fld := ⟨0x3010ac + 0x400 * i, 7, 0⟩
abbrev RP_BUF_STATUS (i : Nat) : Fld := ⟨0x3010b0 + 0x400 * i, 31, 0⟩
abbrev RP_BUF_STATUS_COUNT (i : Nat) : Fld := ⟨0x3010b0 + 0x400 * i, 31, 24⟩
abbrev RP_BUF_STATUS_SLOT (i : Nat) : Fld := ⟨0x3010b0 + 0x400 * i, 7, 0⟩
abbrev RP_STAT_WIN0 (i : Nat) : Fld := ⟨0x301100 + 0x400 * i, 31, 0⟩
abbrev RP_STAT_WIN0_Y (i : Nat) : Fld := ⟨0x301100 + 0x400 * i, 30, 16⟩
abbrev RP_STAT_WIN0_X (i : Nat) : Fld := ⟨0x301100 + 0x400 * i, 14, 0⟩
abbrev RP_STAT_WIN1 (i : Nat) : Fld := ⟨0x301104 + 0x400 * i, 31, 0⟩
abbrev RP_STAT_WIN1_Y (i : Nat) : Fld := ⟨0x301104 + 0x400 * i, 30, 16⟩
abbrev RP_STAT_WIN1_X (i : Nat) : Fld := ⟨0x301104 + 0x400 * i, 14, 0⟩
abbrev RP_STAT_CFG (i : Nat) : Fld := ⟨0x301108 + 0x400 * i, 31, 0⟩
abbrev RP_STAT_CFG_COMP (i : Nat) : Fld := ⟨0x301108 + 0x400 * i, 1, 0⟩
abbrev RP_FRAME_SEQ (i : Nat) : Fld := ⟨0x301110 + 0x400 * i, 31, 0⟩
abbrev RP_STAT_MIN (i : Nat) : Fld := ⟨0x301114 + 0x400 * i, 31, 0⟩
abbrev RP_STAT_MAX (i : Nat) : Fld := ⟨0x301118 + 0x400 * i, 31, 0⟩
abbrev RP_STAT_MEAN (i : Nat) : Fld := ⟨0x30111c + 0x400 * i, 31, 0⟩
abbrev RP_CNT_CLAMP (i : Nat) : Fld := ⟨0x301120 + 0x400 * i, 31, 0⟩
abbrev RP_CNT_RP_PARITY (i : Nat) : Fld := ⟨0x301124 + 0x400 * i, 31, 0⟩
abbrev RP_FRAME_CRC (i : Nat) : Fld := ⟨0x301128 + 0x400 * i, 31, 0⟩

/-! ### PCD -/

abbrev PCD_SES_CFG (i : Nat) : Fld := ⟨0x401000 + 0x200 * i, 31, 0⟩
abbrev PCD_SES_CFG_EN (i : Nat) : Fld := ⟨0x401000 + 0x200 * i, 31, 31⟩
abbrev PCD_SES_CFG_SRC_RP (i : Nat) : Fld := ⟨0x401000 + 0x200 * i, 30, 28⟩
abbrev PCD_SES_CFG_PROFILE (i : Nat) : Fld := ⟨0x401000 + 0x200 * i, 27, 26⟩
abbrev PCD_SES_CFG_TIER (i : Nat) : Fld := ⟨0x401000 + 0x200 * i, 25, 25⟩
abbrev PCD_SES_CFG_LEVEL_IDC (i : Nat) : Fld := ⟨0x401000 + 0x200 * i, 23, 16⟩
abbrev PCD_SES_CFG_GOP_STRUCT (i : Nat) : Fld := ⟨0x401000 + 0x200 * i, 15, 14⟩
abbrev PCD_SES_CFG_NUM_REF (i : Nat) : Fld := ⟨0x401000 + 0x200 * i, 13, 13⟩
abbrev PCD_SES_CFG_IRAP_TYPE (i : Nat) : Fld := ⟨0x401000 + 0x200 * i, 12, 12⟩
abbrev PCD_SES_CFG_SLICE_ROWS (i : Nat) : Fld := ⟨0x401000 + 0x200 * i, 11, 8⟩
abbrev PCD_SES_CFG_SKIP (i : Nat) : Fld := ⟨0x401000 + 0x200 * i, 2, 0⟩
abbrev PCD_RC_CFG (i : Nat) : Fld := ⟨0x401008 + 0x200 * i, 31, 0⟩
abbrev PCD_RC_CFG_MODE (i : Nat) : Fld := ⟨0x401008 + 0x200 * i, 31, 30⟩
abbrev PCD_RC_CFG_QP_INIT (i : Nat) : Fld := ⟨0x401008 + 0x200 * i, 29, 24⟩
abbrev PCD_RC_CFG_QP_MAX (i : Nat) : Fld := ⟨0x401008 + 0x200 * i, 23, 18⟩
abbrev PCD_RC_CFG_QP_MIN (i : Nat) : Fld := ⟨0x401008 + 0x200 * i, 17, 12⟩
abbrev PCD_RC_CFG_SPREAD_SH (i : Nat) : Fld := ⟨0x401008 + 0x200 * i, 9, 8⟩
abbrev PCD_RC_CFG_DQP_ROW (i : Nat) : Fld := ⟨0x401008 + 0x200 * i, 7, 4⟩
abbrev PCD_RC_CFG_ROW_GAIN (i : Nat) : Fld := ⟨0x401008 + 0x200 * i, 3, 0⟩
abbrev PCD_SES_STATUS (i : Nat) : Fld := ⟨0x401034 + 0x200 * i, 31, 0⟩
abbrev PCD_SES_STATUS_STATE (i : Nat) : Fld := ⟨0x401034 + 0x200 * i, 31, 28⟩
abbrev PCD_SES_STATUS_EXHAUST (i : Nat) : Fld := ⟨0x401034 + 0x200 * i, 27, 27⟩
abbrev PCD_SES_STATUS_IRAP_PENDING (i : Nat) : Fld := ⟨0x401034 + 0x200 * i, 26, 26⟩
abbrev PCD_SES_STATUS_LAST_TYPE (i : Nat) : Fld := ⟨0x401034 + 0x200 * i, 25, 24⟩
abbrev PCD_SES_STATUS_LAST_POC (i : Nat) : Fld := ⟨0x401034 + 0x200 * i, 23, 8⟩
abbrev PCD_SES_STATUS_LAST_QP (i : Nat) : Fld := ⟨0x401034 + 0x200 * i, 5, 0⟩
abbrev PCD_DEC_CFG (i : Nat) : Fld := ⟨0x401800 + 0x200 * i, 31, 0⟩
abbrev PCD_DEC_CFG_EN (i : Nat) : Fld := ⟨0x401800 + 0x200 * i, 31, 31⟩
abbrev PCD_DEC_CFG_SRC_KIND (i : Nat) : Fld := ⟨0x401800 + 0x200 * i, 30, 30⟩
abbrev PCD_DEC_CFG_REEL (i : Nat) : Fld := ⟨0x401800 + 0x200 * i, 29, 27⟩
abbrev PCD_DEC_CFG_OUT_COUNT (i : Nat) : Fld := ⟨0x401800 + 0x200 * i, 3, 0⟩
abbrev PCD_BAND_USED : Fld := ⟨0x400100, 31, 0⟩
abbrev PCD_BAND_USED_BYTES : Fld := ⟨0x400100, 24, 0⟩
abbrev PCD_SES_GOP (i : Nat) : Fld := ⟨0x401004 + 0x200 * i, 31, 0⟩
abbrev PCD_SES_GOP_LEN (i : Nat) : Fld := ⟨0x401004 + 0x200 * i, 15, 0⟩
abbrev PCD_RC_BITRATE (i : Nat) : Fld := ⟨0x40100c + 0x200 * i, 31, 0⟩
abbrev PCD_RC_BUF (i : Nat) : Fld := ⟨0x401010 + 0x200 * i, 31, 0⟩
abbrev PCD_RC_MAXPIC (i : Nat) : Fld := ⟨0x401014 + 0x200 * i, 31, 0⟩
abbrev PCD_RC_WT (i : Nat) : Fld := ⟨0x401018 + 0x200 * i, 31, 0⟩
abbrev PCD_RC_WT_WT_I (i : Nat) : Fld := ⟨0x401018 + 0x200 * i, 31, 24⟩
abbrev PCD_RC_WT_WT_L0 (i : Nat) : Fld := ⟨0x401018 + 0x200 * i, 23, 16⟩
abbrev PCD_RC_WT_WT_L1 (i : Nat) : Fld := ⟨0x401018 + 0x200 * i, 15, 8⟩
abbrev PCD_RC_WT_WT_L2 (i : Nat) : Fld := ⟨0x401018 + 0x200 * i, 7, 0⟩
abbrev PCD_RC_WT2 (i : Nat) : Fld := ⟨0x40101c + 0x200 * i, 31, 0⟩
abbrev PCD_RC_WT2_WT_L3 (i : Nat) : Fld := ⟨0x40101c + 0x200 * i, 7, 0⟩
abbrev PCD_SES_OUT (i : Nat) : Fld := ⟨0x401020 + 0x200 * i, 31, 0⟩
abbrev PCD_SES_OUT_REEL (i : Nat) : Fld := ⟨0x401020 + 0x200 * i, 31, 29⟩
abbrev PCD_MF_CFG (i : Nat) : Fld := ⟨0x401024 + 0x200 * i, 31, 0⟩
abbrev PCD_MF_CFG_EN (i : Nat) : Fld := ⟨0x401024 + 0x200 * i, 31, 31⟩
abbrev PCD_MF_CFG_QUEUE (i : Nat) : Fld := ⟨0x401024 + 0x200 * i, 9, 0⟩
abbrev PCD_MF_BASE_LO (i : Nat) : Fld := ⟨0x401028 + 0x200 * i, 31, 0⟩
abbrev PCD_MF_BASE_HI (i : Nat) : Fld := ⟨0x40102c + 0x200 * i, 31, 0⟩
abbrev PCD_MF_BASE_HI_V (i : Nat) : Fld := ⟨0x40102c + 0x200 * i, 7, 0⟩
abbrev PCD_SES_CTL (i : Nat) : Fld := ⟨0x401030 + 0x200 * i, 31, 0⟩
abbrev PCD_SES_CTL_CLR (i : Nat) : Fld := ⟨0x401030 + 0x200 * i, 1, 1⟩
abbrev PCD_SES_CTL_FORCE_IRAP (i : Nat) : Fld := ⟨0x401030 + 0x200 * i, 0, 0⟩
abbrev PCD_RC_OVERSHOOT (i : Nat) : Fld := ⟨0x401038 + 0x200 * i, 31, 0⟩
abbrev PCD_RC_LAST_BITS (i : Nat) : Fld := ⟨0x40103c + 0x200 * i, 31, 0⟩
abbrev PCD_RC_DEBT (i : Nat) : Fld := ⟨0x401040 + 0x200 * i, 31, 0⟩
abbrev PCD_SEI_UUID (i : Nat) (j : Nat) : Fld := ⟨0x401044 + 0x200 * i + 0x4 * j, 31, 0⟩
abbrev PCD_FRAME_SEQ (i : Nat) : Fld := ⟨0x401054 + 0x200 * i, 31, 0⟩
abbrev PCD_CNT_PIC (i : Nat) : Fld := ⟨0x401058 + 0x200 * i, 31, 0⟩
abbrev PCD_CNT_EXHAUST (i : Nat) : Fld := ⟨0x40105c + 0x200 * i, 31, 0⟩
abbrev PCD_CNT_GUARD (i : Nat) : Fld := ⟨0x401060 + 0x200 * i, 31, 0⟩
abbrev PCD_CNT_BUF_OVER (i : Nat) : Fld := ⟨0x401064 + 0x200 * i, 31, 0⟩
abbrev PCD_CNT_REF_INTRA (i : Nat) : Fld := ⟨0x401068 + 0x200 * i, 31, 0⟩
abbrev PCD_CNT_PARITY (i : Nat) : Fld := ⟨0x40106c + 0x200 * i, 31, 0⟩
abbrev PCD_DEC_TAKE (i : Nat) : Fld := ⟨0x401804 + 0x200 * i, 31, 0⟩
abbrev PCD_DEC_TAKE_TAKE (i : Nat) : Fld := ⟨0x401804 + 0x200 * i, 15, 0⟩
abbrev PCD_DEC_START (i : Nat) : Fld := ⟨0x401808 + 0x200 * i, 31, 0⟩
abbrev PCD_DEC_END (i : Nat) : Fld := ⟨0x40180c + 0x200 * i, 31, 0⟩
abbrev PCD_DEC_RATE (i : Nat) : Fld := ⟨0x401810 + 0x200 * i, 31, 0⟩
abbrev PCD_DEC_RATE_NUM (i : Nat) : Fld := ⟨0x401810 + 0x200 * i, 31, 12⟩
abbrev PCD_DEC_RATE_DEN (i : Nat) : Fld := ⟨0x401810 + 0x200 * i, 11, 0⟩
abbrev PCD_DEC_MAX (i : Nat) : Fld := ⟨0x401814 + 0x200 * i, 31, 0⟩
abbrev PCD_DEC_MAX_H (i : Nat) : Fld := ⟨0x401814 + 0x200 * i, 29, 16⟩
abbrev PCD_DEC_MAX_W (i : Nat) : Fld := ⟨0x401814 + 0x200 * i, 13, 0⟩
abbrev PCD_DEC_MAXAU (i : Nat) : Fld := ⟨0x401818 + 0x200 * i, 31, 0⟩
abbrev PCD_DEC_OUT_LO (i : Nat) : Fld := ⟨0x40181c + 0x200 * i, 31, 0⟩
abbrev PCD_DEC_OUT_HI (i : Nat) : Fld := ⟨0x401820 + 0x200 * i, 31, 0⟩
abbrev PCD_DEC_OUT_HI_V (i : Nat) : Fld := ⟨0x401820 + 0x200 * i, 7, 0⟩
abbrev PCD_DEC_QUEUE (i : Nat) : Fld := ⟨0x401824 + 0x200 * i, 31, 0⟩
abbrev PCD_DEC_QUEUE_QUEUE (i : Nat) : Fld := ⟨0x401824 + 0x200 * i, 9, 0⟩
abbrev PCD_DCNT_MISSING_REF (i : Nat) : Fld := ⟨0x401858 + 0x200 * i, 31, 0⟩
abbrev PCD_DCNT_DATA_ERR (i : Nat) : Fld := ⟨0x40185c + 0x200 * i, 31, 0⟩
abbrev PCD_DCNT_UNSUPPORTED (i : Nat) : Fld := ⟨0x401860 + 0x200 * i, 31, 0⟩
abbrev PCD_DCNT_HASH (i : Nat) : Fld := ⟨0x401864 + 0x200 * i, 31, 0⟩
abbrev PCD_DCNT_PARITY (i : Nat) : Fld := ⟨0x401868 + 0x200 * i, 31, 0⟩

/-! ### RPK -/

abbrev RPK_ENG_CFG (i : Nat) : Fld := ⟨0x501000 + 0x100 * i, 31, 0⟩
abbrev RPK_ENG_CFG_MODE (i : Nat) : Fld := ⟨0x501000 + 0x100 * i, 31, 30⟩
abbrev RPK_ENG_CFG_EFFORT (i : Nat) : Fld := ⟨0x501000 + 0x100 * i, 29, 26⟩
abbrev RPK_ENG_CFG_ABOVE_EN (i : Nat) : Fld := ⟨0x501000 + 0x100 * i, 25, 25⟩
abbrev RPK_ENG_CFG_SRC (i : Nat) : Fld := ⟨0x501000 + 0x100 * i, 24, 24⟩
abbrev RPK_ENG_CFG_REEL (i : Nat) : Fld := ⟨0x501000 + 0x100 * i, 23, 21⟩
abbrev RPK_ENG_CFG_GANG (i : Nat) : Fld := ⟨0x501000 + 0x100 * i, 20, 19⟩
abbrev RPK_ENG_STATUS (i : Nat) : Fld := ⟨0x501004 + 0x100 * i, 31, 0⟩
abbrev RPK_ENG_STATUS_STATE (i : Nat) : Fld := ⟨0x501004 + 0x100 * i, 31, 28⟩
abbrev RPK_ENG_STATUS_EFFORT_USED (i : Nat) : Fld := ⟨0x501004 + 0x100 * i, 27, 24⟩
abbrev RPK_ENG_STATUS_TILES_DONE (i : Nat) : Fld := ⟨0x501004 + 0x100 * i, 15, 0⟩
abbrev RPK_RING_BASE_LO (i : Nat) : Fld := ⟨0x501008 + 0x100 * i, 31, 0⟩
abbrev RPK_RING_BASE_HI (i : Nat) : Fld := ⟨0x50100c + 0x100 * i, 31, 0⟩
abbrev RPK_RING_BASE_HI_V (i : Nat) : Fld := ⟨0x50100c + 0x100 * i, 7, 0⟩
abbrev RPK_RING_SIZE (i : Nat) : Fld := ⟨0x501010 + 0x100 * i, 31, 0⟩
abbrev RPK_RING_SIZE_SIZE (i : Nat) : Fld := ⟨0x501010 + 0x100 * i, 12, 0⟩
abbrev RPK_RING_TAIL (i : Nat) : Fld := ⟨0x501014 + 0x100 * i, 31, 0⟩
abbrev RPK_RING_TAIL_TAIL (i : Nat) : Fld := ⟨0x501014 + 0x100 * i, 11, 0⟩
abbrev RPK_RING_HEAD (i : Nat) : Fld := ⟨0x501018 + 0x100 * i, 31, 0⟩
abbrev RPK_RING_HEAD_HEAD (i : Nat) : Fld := ⟨0x501018 + 0x100 * i, 11, 0⟩
abbrev RPK_CPL_BASE_LO (i : Nat) : Fld := ⟨0x50101c + 0x100 * i, 31, 0⟩
abbrev RPK_CPL_BASE_HI (i : Nat) : Fld := ⟨0x501020 + 0x100 * i, 31, 0⟩
abbrev RPK_CPL_BASE_HI_V (i : Nat) : Fld := ⟨0x501020 + 0x100 * i, 7, 0⟩
abbrev RPK_CPL_HEAD (i : Nat) : Fld := ⟨0x501024 + 0x100 * i, 31, 0⟩
abbrev RPK_CPL_HEAD_HEAD (i : Nat) : Fld := ⟨0x501024 + 0x100 * i, 11, 0⟩
abbrev RPK_CPL_TAIL (i : Nat) : Fld := ⟨0x501028 + 0x100 * i, 31, 0⟩
abbrev RPK_CPL_TAIL_TAIL (i : Nat) : Fld := ⟨0x501028 + 0x100 * i, 11, 0⟩
abbrev RPK_ENG_CTL (i : Nat) : Fld := ⟨0x50102c + 0x100 * i, 31, 0⟩
abbrev RPK_ENG_CTL_CLR (i : Nat) : Fld := ⟨0x50102c + 0x100 * i, 0, 0⟩
abbrev RPK_LAST_BYTES_LO (i : Nat) : Fld := ⟨0x501030 + 0x100 * i, 31, 0⟩
abbrev RPK_LAST_BYTES_HI (i : Nat) : Fld := ⟨0x501034 + 0x100 * i, 31, 0⟩
abbrev RPK_ERR_TILE (i : Nat) : Fld := ⟨0x501038 + 0x100 * i, 31, 0⟩
abbrev RPK_ERR_TILE_CLASS (i : Nat) : Fld := ⟨0x501038 + 0x100 * i, 31, 30⟩
abbrev RPK_ERR_TILE_TILE (i : Nat) : Fld := ⟨0x501038 + 0x100 * i, 29, 0⟩
abbrev RPK_ERR_BIT_LO (i : Nat) : Fld := ⟨0x50103c + 0x100 * i, 31, 0⟩
abbrev RPK_ERR_BIT_HI (i : Nat) : Fld := ⟨0x501040 + 0x100 * i, 31, 0⟩
abbrev RPK_ERR_BIT_HI_V (i : Nat) : Fld := ⟨0x501040 + 0x100 * i, 7, 0⟩
abbrev RPK_FRAME_SEQ (i : Nat) : Fld := ⟨0x501044 + 0x100 * i, 31, 0⟩
abbrev RPK_CNT_JOBS (i : Nat) : Fld := ⟨0x501048 + 0x100 * i, 31, 0⟩
abbrev RPK_CNT_OUT_OF_SPACE (i : Nat) : Fld := ⟨0x50104c + 0x100 * i, 31, 0⟩
abbrev RPK_CNT_STRUCT (i : Nat) : Fld := ⟨0x501050 + 0x100 * i, 31, 0⟩
abbrev RPK_CNT_SYNTAX (i : Nat) : Fld := ⟨0x501054 + 0x100 * i, 31, 0⟩
abbrev RPK_CNT_CHECK (i : Nat) : Fld := ⟨0x501058 + 0x100 * i, 31, 0⟩
abbrev RPK_CNT_READ_FAIL (i : Nat) : Fld := ⟨0x50105c + 0x100 * i, 31, 0⟩
abbrev RPK_CNT_CONCEAL (i : Nat) : Fld := ⟨0x501060 + 0x100 * i, 31, 0⟩
abbrev RPK_CNT_RECOMPUTE (i : Nat) : Fld := ⟨0x501064 + 0x100 * i, 31, 0⟩
abbrev RPK_CNT_PARITY (i : Nat) : Fld := ⟨0x501068 + 0x100 * i, 31, 0⟩
abbrev RPK_CNT_FLUSHED (i : Nat) : Fld := ⟨0x50106c + 0x100 * i, 31, 0⟩

/-! ### ORE -/

abbrev ORE_TG_CFG (i : Nat) : Fld := ⟨0x601000 + 0x100 * i, 31, 0⟩
abbrev ORE_TG_CFG_EN (i : Nat) : Fld := ⟨0x601000 + 0x100 * i, 31, 31⟩
abbrev ORE_TG_CFG_SRC_KIND (i : Nat) : Fld := ⟨0x601000 + 0x100 * i, 30, 28⟩
abbrev ORE_TG_CFG_SRC_INDEX (i : Nat) : Fld := ⟨0x601000 + 0x100 * i, 27, 24⟩
abbrev ORE_TG_CFG_MULT (i : Nat) : Fld := ⟨0x601000 + 0x100 * i, 23, 21⟩
abbrev ORE_TG_CFG_LOSS_BLACK (i : Nat) : Fld := ⟨0x601000 + 0x100 * i, 20, 20⟩
abbrev ORE_TG_STATUS (i : Nat) : Fld := ⟨0x601010 + 0x100 * i, 31, 0⟩
abbrev ORE_TG_STATUS_STATE (i : Nat) : Fld := ⟨0x601010 + 0x100 * i, 31, 29⟩
abbrev ORE_TG_STATUS_LINE (i : Nat) : Fld := ⟨0x601010 + 0x100 * i, 28, 16⟩
abbrev ORE_TG_STATUS_SLOT (i : Nat) : Fld := ⟨0x601010 + 0x100 * i, 15, 8⟩
abbrev ORE_TG_STATUS_REPEAT (i : Nat) : Fld := ⟨0x601010 + 0x100 * i, 0, 0⟩
abbrev ORE_PL_CFG (i : Nat) : Fld := ⟨0x604000 + 0x40 * i, 31, 0⟩
abbrev ORE_PL_CFG_TX_EN (i : Nat) : Fld := ⟨0x604000 + 0x40 * i, 31, 31⟩
abbrev ORE_PL_CFG_TG (i : Nat) : Fld := ⟨0x604000 + 0x40 * i, 30, 28⟩
abbrev ORE_PL_CFG_GROUP (i : Nat) : Fld := ⟨0x604000 + 0x40 * i, 27, 26⟩
abbrev ORE_PL_CFG_RATE (i : Nat) : Fld := ⟨0x604000 + 0x40 * i, 25, 24⟩
abbrev ORE_PL_CFG_DIV (i : Nat) : Fld := ⟨0x604000 + 0x40 * i, 23, 23⟩
abbrev ORE_PL_CFG_PSF (i : Nat) : Fld := ⟨0x604000 + 0x40 * i, 22, 22⟩
abbrev ORE_PL_CFG_ATC_EN (i : Nat) : Fld := ⟨0x604000 + 0x40 * i, 21, 21⟩
abbrev ORE_PL_CFG_AUD_EN (i : Nat) : Fld := ⟨0x604000 + 0x40 * i, 20, 20⟩
abbrev ORE_PL_CFG_AUD_CH (i : Nat) : Fld := ⟨0x604000 + 0x40 * i, 19, 15⟩
abbrev ORE_PL_CFG_AUD_QUEUE (i : Nat) : Fld := ⟨0x604000 + 0x40 * i, 9, 0⟩
abbrev ORE_PNL_CTL (i : Nat) : Fld := ⟨0x606004 + 0x100 * i, 31, 0⟩
abbrev ORE_PNL_CTL_RETRAIN (i : Nat) : Fld := ⟨0x606004 + 0x100 * i, 2, 2⟩
abbrev ORE_PNL_CTL_PSR_EXIT (i : Nat) : Fld := ⟨0x606004 + 0x100 * i, 1, 1⟩
abbrev ORE_PNL_CTL_PSR_ENTER (i : Nat) : Fld := ⟨0x606004 + 0x100 * i, 0, 0⟩
abbrev ORE_TG_H (i : Nat) : Fld := ⟨0x601004 + 0x100 * i, 31, 0⟩
abbrev ORE_TG_H_HT (i : Nat) : Fld := ⟨0x601004 + 0x100 * i, 29, 16⟩
abbrev ORE_TG_H_HA (i : Nat) : Fld := ⟨0x601004 + 0x100 * i, 13, 0⟩
abbrev ORE_TG_V (i : Nat) : Fld := ⟨0x601008 + 0x100 * i, 31, 0⟩
abbrev ORE_TG_V_VT (i : Nat) : Fld := ⟨0x601008 + 0x100 * i, 28, 16⟩
abbrev ORE_TG_V_VA (i : Nat) : Fld := ⟨0x601008 + 0x100 * i, 12, 0⟩
abbrev ORE_TG_RATE (i : Nat) : Fld := ⟨0x60100c + 0x100 * i, 31, 0⟩
abbrev ORE_TG_RATE_NUM (i : Nat) : Fld := ⟨0x60100c + 0x100 * i, 31, 12⟩
abbrev ORE_TG_RATE_DEN (i : Nat) : Fld := ⟨0x60100c + 0x100 * i, 11, 0⟩
abbrev ORE_TG_VOFS (i : Nat) : Fld := ⟨0x601014 + 0x100 * i, 31, 0⟩
abbrev ORE_TG_CTL (i : Nat) : Fld := ⟨0x601018 + 0x100 * i, 31, 0⟩
abbrev ORE_TG_CTL_SWAP (i : Nat) : Fld := ⟨0x601018 + 0x100 * i, 31, 31⟩
abbrev ORE_TG_CTL_CLR (i : Nat) : Fld := ⟨0x601018 + 0x100 * i, 0, 0⟩
abbrev ORE_CNT_FRAME_REPEAT (i : Nat) : Fld := ⟨0x60101c + 0x100 * i, 31, 0⟩
abbrev ORE_CNT_FRAME_HOLD (i : Nat) : Fld := ⟨0x601020 + 0x100 * i, 31, 0⟩
abbrev ORE_CNP_CFG (i : Nat) : Fld := ⟨0x602000 + 0x100 * i, 31, 0⟩
abbrev ORE_CNP_CFG_TESTS (i : Nat) : Fld := ⟨0x602000 + 0x100 * i, 14, 12⟩
abbrev ORE_CNP_CFG_RET_SRC (i : Nat) : Fld := ⟨0x602000 + 0x100 * i, 9, 8⟩
abbrev ORE_CNP_CFG_PLANES (i : Nat) : Fld := ⟨0x602000 + 0x100 * i, 4, 0⟩
abbrev ORE_CNP_RET_SRC_XY (i : Nat) : Fld := ⟨0x602004 + 0x100 * i, 31, 0⟩
abbrev ORE_CNP_RET_SRC_XY_Y (i : Nat) : Fld := ⟨0x602004 + 0x100 * i, 28, 16⟩
abbrev ORE_CNP_RET_SRC_XY_X (i : Nat) : Fld := ⟨0x602004 + 0x100 * i, 12, 0⟩
abbrev ORE_CNP_RET_WH (i : Nat) : Fld := ⟨0x602008 + 0x100 * i, 31, 0⟩
abbrev ORE_CNP_RET_WH_H (i : Nat) : Fld := ⟨0x602008 + 0x100 * i, 28, 16⟩
abbrev ORE_CNP_RET_WH_W (i : Nat) : Fld := ⟨0x602008 + 0x100 * i, 12, 0⟩
abbrev ORE_CNP_RET_POS (i : Nat) : Fld := ⟨0x60200c + 0x100 * i, 31, 0⟩
abbrev ORE_CNP_RET_POS_Y (i : Nat) : Fld := ⟨0x60200c + 0x100 * i, 28, 16⟩
abbrev ORE_CNP_RET_POS_X (i : Nat) : Fld := ⟨0x60200c + 0x100 * i, 12, 0⟩
abbrev ORE_CNP_OVL_LO (i : Nat) : Fld := ⟨0x602010 + 0x100 * i, 31, 0⟩
abbrev ORE_CNP_OVL_HI (i : Nat) : Fld := ⟨0x602014 + 0x100 * i, 31, 0⟩
abbrev ORE_CNP_OVL_HI_V (i : Nat) : Fld := ⟨0x602014 + 0x100 * i, 7, 0⟩
abbrev ORE_CNP_ASSIST (i : Nat) : Fld := ⟨0x602018 + 0x100 * i, 31, 0⟩
abbrev ORE_CNP_ASSIST_ZEBRA_LVL (i : Nat) : Fld := ⟨0x602018 + 0x100 * i, 31, 22⟩
abbrev ORE_CNP_ASSIST_PEAK_THR (i : Nat) : Fld := ⟨0x602018 + 0x100 * i, 21, 12⟩
abbrev ORE_CNP_ASSIST_IDX (i : Nat) : Fld := ⟨0x60201c + 0x100 * i, 31, 0⟩
abbrev ORE_CNP_ASSIST_IDX_PEAK (i : Nat) : Fld := ⟨0x60201c + 0x100 * i, 15, 8⟩
abbrev ORE_CNP_ASSIST_IDX_ZEBRA (i : Nat) : Fld := ⟨0x60201c + 0x100 * i, 7, 0⟩
abbrev ORE_CNP_FC (i : Nat) (j : Nat) : Fld := ⟨0x602020 + 0x100 * i + 0x4 * j, 31, 0⟩
abbrev ORE_CNP_FC_IDX (i : Nat) (j : Nat) : Fld := ⟨0x602020 + 0x100 * i + 0x4 * j, 7, 0⟩
abbrev ORE_CNP_GUIDE_A (i : Nat) (j : Nat) : Fld := ⟨0x602060 + 0x100 * i + 0x8 * j, 31, 0⟩
abbrev ORE_CNP_GUIDE_A_Y0 (i : Nat) (j : Nat) : Fld := ⟨0x602060 + 0x100 * i + 0x8 * j, 28, 16⟩
abbrev ORE_CNP_GUIDE_A_X0 (i : Nat) (j : Nat) : Fld := ⟨0x602060 + 0x100 * i + 0x8 * j, 12, 0⟩
abbrev ORE_CNP_GUIDE_B (i : Nat) (j : Nat) : Fld := ⟨0x602064 + 0x100 * i + 0x8 * j, 31, 0⟩
abbrev ORE_CNP_GUIDE_B_Y1 (i : Nat) (j : Nat) : Fld := ⟨0x602064 + 0x100 * i + 0x8 * j, 28, 16⟩
abbrev ORE_CNP_GUIDE_B_X1 (i : Nat) (j : Nat) : Fld := ⟨0x602064 + 0x100 * i + 0x8 * j, 12, 0⟩
abbrev ORE_CNP_GUIDE_C (i : Nat) (j : Nat) : Fld := ⟨0x6020a0 + 0x100 * i + 0x4 * j, 31, 0⟩
abbrev ORE_CNP_GUIDE_C_EN (i : Nat) (j : Nat) : Fld := ⟨0x6020a0 + 0x100 * i + 0x4 * j, 31, 31⟩
abbrev ORE_CNP_GUIDE_C_W_M1 (i : Nat) (j : Nat) : Fld := ⟨0x6020a0 + 0x100 * i + 0x4 * j, 18, 16⟩
abbrev ORE_CNP_GUIDE_C_IDX (i : Nat) (j : Nat) : Fld := ⟨0x6020a0 + 0x100 * i + 0x4 * j, 7, 0⟩
abbrev ORE_PL_STATUS (i : Nat) : Fld := ⟨0x604004 + 0x40 * i, 31, 0⟩
abbrev ORE_PL_STATUS_RX (i : Nat) : Fld := ⟨0x604004 + 0x40 * i, 31, 30⟩
abbrev ORE_PL_STATUS_RATE (i : Nat) : Fld := ⟨0x604004 + 0x40 * i, 25, 24⟩
abbrev ORE_PL_ST352 (i : Nat) : Fld := ⟨0x604008 + 0x40 * i, 31, 0⟩
abbrev ORE_CNT_UNDERRUN_PIX (i : Nat) : Fld := ⟨0x60400c + 0x40 * i, 31, 0⟩
abbrev ORE_CNT_UNDERRUN_EVT (i : Nat) : Fld := ⟨0x604010 + 0x40 * i, 31, 0⟩
abbrev ORE_CNT_CRC_Y (i : Nat) : Fld := ⟨0x604014 + 0x40 * i, 31, 0⟩
abbrev ORE_CNT_CRC_C (i : Nat) : Fld := ⟨0x604018 + 0x40 * i, 31, 0⟩
abbrev ORE_CNT_CRC_LINES (i : Nat) : Fld := ⟨0x60401c + 0x40 * i, 31, 0⟩
abbrev ORE_CNT_AUD_UNDER (i : Nat) : Fld := ⟨0x604020 + 0x40 * i, 31, 0⟩
abbrev ORE_RI_CFG (i : Nat) : Fld := ⟨0x605000 + 0x80 * i, 31, 0⟩
abbrev ORE_RI_CFG_EN (i : Nat) : Fld := ⟨0x605000 + 0x80 * i, 31, 31⟩
abbrev ORE_RI_CFG_CAPTURE (i : Nat) : Fld := ⟨0x605000 + 0x80 * i, 30, 30⟩
abbrev ORE_RI_CFG_REEL (i : Nat) : Fld := ⟨0x605000 + 0x80 * i, 29, 27⟩
abbrev ORE_RI_CFG_RING_M1 (i : Nat) : Fld := ⟨0x605000 + 0x80 * i, 26, 24⟩
abbrev ORE_RI_CFG_LANE (i : Nat) : Fld := ⟨0x605000 + 0x80 * i, 19, 16⟩
abbrev ORE_RI_CFG_GROUP (i : Nat) : Fld := ⟨0x605000 + 0x80 * i, 13, 12⟩
abbrev ORE_RI_CFG_ANC_QUEUE (i : Nat) : Fld := ⟨0x605000 + 0x80 * i, 9, 0⟩
abbrev ORE_RI_FMT (i : Nat) : Fld := ⟨0x605004 + 0x80 * i, 31, 0⟩
abbrev ORE_RI_FMT_ROW (i : Nat) : Fld := ⟨0x605004 + 0x80 * i, 31, 28⟩
abbrev ORE_RI_FMT_WIDE (i : Nat) : Fld := ⟨0x605004 + 0x80 * i, 27, 27⟩
abbrev ORE_RI_FMT_PSF (i : Nat) : Fld := ⟨0x605004 + 0x80 * i, 26, 26⟩
abbrev ORE_RI_BASE_LO (i : Nat) : Fld := ⟨0x605008 + 0x80 * i, 31, 0⟩
abbrev ORE_RI_BASE_HI (i : Nat) : Fld := ⟨0x60500c + 0x80 * i, 31, 0⟩
abbrev ORE_RI_BASE_HI_V (i : Nat) : Fld := ⟨0x60500c + 0x80 * i, 7, 0⟩
abbrev ORE_RI_STATUS (i : Nat) : Fld := ⟨0x605010 + 0x80 * i, 31, 0⟩
abbrev ORE_RI_STATUS_STATE (i : Nat) : Fld := ⟨0x605010 + 0x80 * i, 31, 29⟩
abbrev ORE_RI_STATUS_SLOT (i : Nat) : Fld := ⟨0x605010 + 0x80 * i, 7, 0⟩
abbrev ORE_CNT_FMT_MISMATCH (i : Nat) : Fld := ⟨0x605014 + 0x80 * i, 31, 0⟩
abbrev ORE_CNT_INGEST_SKIP (i : Nat) : Fld := ⟨0x605018 + 0x80 * i, 31, 0⟩
abbrev ORE_CNT_RI_INCOMPLETE (i : Nat) : Fld := ⟨0x60501c + 0x80 * i, 31, 0⟩
abbrev ORE_RI_RATE (i : Nat) : Fld := ⟨0x605020 + 0x80 * i, 31, 0⟩
abbrev ORE_RI_RATE_NUM (i : Nat) : Fld := ⟨0x605020 + 0x80 * i, 31, 12⟩
abbrev ORE_RI_RATE_DEN (i : Nat) : Fld := ⟨0x605020 + 0x80 * i, 11, 0⟩
abbrev ORE_PNL_CFG (i : Nat) : Fld := ⟨0x606000 + 0x100 * i, 31, 0⟩
abbrev ORE_PNL_CFG_EN (i : Nat) : Fld := ⟨0x606000 + 0x100 * i, 31, 31⟩
abbrev ORE_PNL_CFG_TG (i : Nat) : Fld := ⟨0x606000 + 0x100 * i, 30, 28⟩
abbrev ORE_PNL_CFG_LANES (i : Nat) : Fld := ⟨0x606000 + 0x100 * i, 27, 26⟩
abbrev ORE_PNL_CFG_RATE (i : Nat) : Fld := ⟨0x606000 + 0x100 * i, 25, 24⟩
abbrev ORE_PNL_CFG_BPC10 (i : Nat) : Fld := ⟨0x606000 + 0x100 * i, 23, 23⟩
abbrev ORE_PNL_STATUS (i : Nat) : Fld := ⟨0x606008 + 0x100 * i, 31, 0⟩
abbrev ORE_PNL_STATUS_STATE (i : Nat) : Fld := ⟨0x606008 + 0x100 * i, 31, 29⟩
abbrev ORE_PNL_STATUS_HPD_IRQ (i : Nat) : Fld := ⟨0x606008 + 0x100 * i, 2, 2⟩
abbrev ORE_PNL_STATUS_PSR_CAP (i : Nat) : Fld := ⟨0x606008 + 0x100 * i, 1, 1⟩
abbrev ORE_PNL_STATUS_HPD (i : Nat) : Fld := ⟨0x606008 + 0x100 * i, 0, 0⟩
abbrev ORE_PNL_AUX_CMD (i : Nat) : Fld := ⟨0x606010 + 0x100 * i, 31, 0⟩
abbrev ORE_PNL_AUX_DATA (i : Nat) (j : Nat) : Fld := ⟨0x606020 + 0x100 * i + 0x4 * j, 31, 0⟩
abbrev ORE_ETH_CFG (i : Nat) : Fld := ⟨0x607000 + 0x100 * i, 31, 0⟩
abbrev ORE_ETH_CFG_RS_FEC (i : Nat) : Fld := ⟨0x607000 + 0x100 * i, 2, 2⟩
abbrev ORE_ETH_CFG_MODE (i : Nat) : Fld := ⟨0x607000 + 0x100 * i, 1, 0⟩
abbrev ORE_CNT_TX_DROP (i : Nat) : Fld := ⟨0x607004 + 0x100 * i, 31, 0⟩
abbrev ORE_TX_CFG (i : Nat) : Fld := ⟨0x607400 + 0x80 * i, 31, 0⟩
abbrev ORE_TX_CFG_EN (i : Nat) : Fld := ⟨0x607400 + 0x80 * i, 31, 31⟩
abbrev ORE_TX_CFG_DUP (i : Nat) : Fld := ⟨0x607400 + 0x80 * i, 30, 30⟩
abbrev ORE_TX_CFG_TG (i : Nat) : Fld := ⟨0x607400 + 0x80 * i, 29, 27⟩
abbrev ORE_TX_CFG_BPM (i : Nat) : Fld := ⟨0x607400 + 0x80 * i, 26, 26⟩
abbrev ORE_TX_CFG_FMT (i : Nat) : Fld := ⟨0x607400 + 0x80 * i, 25, 24⟩
abbrev ORE_TX_CFG_PTIME (i : Nat) : Fld := ⟨0x607400 + 0x80 * i, 23, 23⟩
abbrev ORE_TX_CFG_CH_M1 (i : Nat) : Fld := ⟨0x607400 + 0x80 * i, 22, 18⟩
abbrev ORE_TX_CFG_PT (i : Nat) : Fld := ⟨0x607400 + 0x80 * i, 16, 10⟩
abbrev ORE_TX_CFG_AUD_QUEUE (i : Nat) : Fld := ⟨0x607400 + 0x80 * i, 9, 0⟩
abbrev ORE_TX_PKT (i : Nat) : Fld := ⟨0x607404 + 0x80 * i, 31, 0⟩
abbrev ORE_TX_PKT_BYTES (i : Nat) : Fld := ⟨0x607404 + 0x80 * i, 26, 16⟩
abbrev ORE_TX_PKT_DSCP (i : Nat) : Fld := ⟨0x607404 + 0x80 * i, 13, 8⟩
abbrev ORE_TX_PKT_TTL (i : Nat) : Fld := ⟨0x607404 + 0x80 * i, 7, 0⟩
abbrev ORE_TX_SSRC (i : Nat) : Fld := ⟨0x607408 + 0x80 * i, 31, 0⟩
abbrev ORE_TX_DST_IP (i : Nat) (j : Nat) : Fld := ⟨0x60740c + 0x80 * i + 0x4 * j, 31, 0⟩
abbrev ORE_TX_PORTS (i : Nat) : Fld := ⟨0x607414 + 0x80 * i, 31, 0⟩
abbrev ORE_TX_PORTS_SRC (i : Nat) : Fld := ⟨0x607414 + 0x80 * i, 31, 16⟩
abbrev ORE_TX_PORTS_DST (i : Nat) : Fld := ⟨0x607414 + 0x80 * i, 15, 0⟩

/-! ### APU -/

abbrev APU_PORT_CFG (i : Nat) : Fld := ⟨0x701000 + 0x100 * i, 31, 0⟩
abbrev APU_PORT_CFG_FORMAT (i : Nat) : Fld := ⟨0x701000 + 0x100 * i, 31, 30⟩
abbrev APU_PORT_CFG_MASTER (i : Nat) : Fld := ⟨0x701000 + 0x100 * i, 29, 29⟩
abbrev APU_PORT_CFG_DELAY (i : Nat) : Fld := ⟨0x701000 + 0x100 * i, 28, 28⟩
abbrev APU_PORT_CFG_FS_INV (i : Nat) : Fld := ⟨0x701000 + 0x100 * i, 27, 27⟩
abbrev APU_PORT_CFG_BCLK_FALL (i : Nat) : Fld := ⟨0x701000 + 0x100 * i, 26, 26⟩
abbrev APU_PORT_CFG_SLOT_BITS (i : Nat) : Fld := ⟨0x701000 + 0x100 * i, 25, 24⟩
abbrev APU_PORT_CFG_WORD_BITS (i : Nat) : Fld := ⟨0x701000 + 0x100 * i, 23, 22⟩
abbrev APU_PORT_CFG_PACK (i : Nat) : Fld := ⟨0x701000 + 0x100 * i, 21, 20⟩
abbrev APU_PORT_CFG_SLOTS_M1 (i : Nat) : Fld := ⟨0x701000 + 0x100 * i, 19, 16⟩
abbrev APU_PORT_CFG_RATE_CLASS (i : Nat) : Fld := ⟨0x701000 + 0x100 * i, 15, 12⟩
abbrev APU_PORT_CFG_PULL (i : Nat) : Fld := ⟨0x701000 + 0x100 * i, 11, 11⟩
abbrev APU_PORT_CFG_MCLK_MULT (i : Nat) : Fld := ⟨0x701000 + 0x100 * i, 9, 8⟩
abbrev APU_PORT_STATUS (i : Nat) : Fld := ⟨0x701014 + 0x100 * i, 31, 0⟩
abbrev APU_PORT_STATUS_STATE (i : Nat) : Fld := ⟨0x701014 + 0x100 * i, 31, 29⟩
abbrev APU_PORT_STATUS_CLASS_MEAS (i : Nat) : Fld := ⟨0x701014 + 0x100 * i, 15, 12⟩
abbrev APU_PORT_STATUS_SWAP_PENDING (i : Nat) : Fld := ⟨0x701014 + 0x100 * i, 9, 9⟩
abbrev APU_PORT_STATUS_ACTIVE (i : Nat) : Fld := ⟨0x701014 + 0x100 * i, 8, 8⟩
abbrev APU_PORT_STATUS_LOCK (i : Nat) : Fld := ⟨0x701014 + 0x100 * i, 0, 0⟩
abbrev APU_START_MASK : Fld := ⟨0x700100, 31, 0⟩
abbrev APU_START_MASK_PORTS : Fld := ⟨0x700100, 7, 0⟩
abbrev APU_START_S_HI : Fld := ⟨0x700104, 31, 0⟩
abbrev APU_START_S_HI_V : Fld := ⟨0x700104, 15, 0⟩
abbrev APU_START_S_LO : Fld := ⟨0x700108, 31, 0⟩
abbrev APU_START_NS : Fld := ⟨0x70010c, 31, 0⟩
abbrev APU_START_CTL : Fld := ⟨0x700110, 31, 0⟩
abbrev APU_START_CTL_GO : Fld := ⟨0x700110, 0, 0⟩
abbrev APU_START_STATUS : Fld := ⟨0x700114, 31, 0⟩
abbrev APU_START_STATUS_PENDING : Fld := ⟨0x700114, 0, 0⟩
abbrev APU_PORT_ASSOC (i : Nat) : Fld := ⟨0x701004 + 0x100 * i, 31, 0⟩
abbrev APU_PORT_ASSOC_ASSOC (i : Nat) : Fld := ⟨0x701004 + 0x100 * i, 31, 28⟩
abbrev APU_PORT_ASSOC_BLOCK_LEN (i : Nat) : Fld := ⟨0x701004 + 0x100 * i, 15, 0⟩
abbrev APU_PORT_Q (i : Nat) : Fld := ⟨0x701008 + 0x100 * i, 31, 0⟩
abbrev APU_PORT_Q_TX (i : Nat) : Fld := ⟨0x701008 + 0x100 * i, 25, 16⟩
abbrev APU_PORT_Q_RX (i : Nat) : Fld := ⟨0x701008 + 0x100 * i, 9, 0⟩
abbrev APU_PORT_RAMP (i : Nat) : Fld := ⟨0x70100c + 0x100 * i, 31, 0⟩
abbrev APU_PORT_RAMP_FRAMES (i : Nat) : Fld := ⟨0x70100c + 0x100 * i, 15, 0⟩
abbrev APU_PORT_CTL (i : Nat) : Fld := ⟨0x701010 + 0x100 * i, 31, 0⟩
abbrev APU_PORT_CTL_SWAP (i : Nat) : Fld := ⟨0x701010 + 0x100 * i, 3, 3⟩
abbrev APU_PORT_CTL_CLR (i : Nat) : Fld := ⟨0x701010 + 0x100 * i, 2, 2⟩
abbrev APU_PORT_CTL_STOP (i : Nat) : Fld := ⟨0x701010 + 0x100 * i, 1, 1⟩
abbrev APU_PORT_CTL_ARM (i : Nat) : Fld := ⟨0x701010 + 0x100 * i, 0, 0⟩
abbrev APU_RATE_MEAS (i : Nat) : Fld := ⟨0x701018 + 0x100 * i, 31, 0⟩
abbrev APU_RATE_REF (i : Nat) : Fld := ⟨0x70101c + 0x100 * i, 31, 0⟩
abbrev APU_AFRAME_LO (i : Nat) : Fld := ⟨0x701020 + 0x100 * i, 31, 0⟩
abbrev APU_AFRAME_HI (i : Nat) : Fld := ⟨0x701024 + 0x100 * i, 31, 0⟩
abbrev APU_AFRAME_HI_V (i : Nat) : Fld := ⟨0x701024 + 0x100 * i, 15, 0⟩
abbrev APU_PORT_REC (i : Nat) : Fld := ⟨0x701028 + 0x100 * i, 31, 0⟩
abbrev APU_PORT_REC_REC (i : Nat) : Fld := ⟨0x701028 + 0x100 * i, 31, 31⟩
abbrev APU_PORT_REC_REEL (i : Nat) : Fld := ⟨0x701028 + 0x100 * i, 30, 28⟩
abbrev APU_PORT_REC_QUEUE (i : Nat) : Fld := ⟨0x701028 + 0x100 * i, 9, 0⟩
abbrev APU_CNT_UNDER_FRAMES (i : Nat) : Fld := ⟨0x701030 + 0x100 * i, 31, 0⟩
abbrev APU_CNT_TX_LATE (i : Nat) : Fld := ⟨0x701034 + 0x100 * i, 31, 0⟩
abbrev APU_CNT_TX_BAD (i : Nat) : Fld := ⟨0x701038 + 0x100 * i, 31, 0⟩
abbrev APU_CNT_RX_DROP (i : Nat) : Fld := ⟨0x70103c + 0x100 * i, 31, 0⟩
abbrev APU_CNT_POISON (i : Nat) : Fld := ⟨0x701040 + 0x100 * i, 31, 0⟩
abbrev APU_CNT_RATE_EVT (i : Nat) : Fld := ⟨0x701044 + 0x100 * i, 31, 0⟩

/-! ### RTU -/

abbrev RTU_REF_CFG : Fld := ⟨0x800100, 31, 0⟩
abbrev RTU_REF_CFG_PULL_MAX : Fld := ⟨0x800100, 30, 24⟩
abbrev RTU_REF_CFG_SLEW : Fld := ⟨0x800100, 23, 20⟩
abbrev RTU_REF_CFG_SYNC_LOSS : Fld := ⟨0x800100, 19, 16⟩
abbrev RTU_REF_CFG_TC_SM : Fld := ⟨0x800100, 8, 8⟩
abbrev RTU_REF_CFG_DROP_FRAME : Fld := ⟨0x800100, 7, 7⟩
abbrev RTU_REF_CFG_LTC_JAM : Fld := ⟨0x800100, 6, 6⟩
abbrev RTU_REF_CFG_FRAME_POL : Fld := ⟨0x800100, 5, 5⟩
abbrev RTU_REF_CFG_PTP_ACTIVE : Fld := ⟨0x800100, 4, 4⟩
abbrev RTU_REF_CFG_SRC : Fld := ⟨0x800100, 3, 0⟩
abbrev RTU_STATUS : Fld := ⟨0x800140, 31, 0⟩
abbrev RTU_STATUS_STATE : Fld := ⟨0x800140, 31, 29⟩
abbrev RTU_STATUS_ESTABLISHED : Fld := ⟨0x800140, 28, 28⟩
abbrev RTU_STATUS_RATE_CHANGED : Fld := ⟨0x800140, 27, 27⟩
abbrev RTU_STATUS_FREQ_LIMIT : Fld := ⟨0x800140, 26, 26⟩
abbrev RTU_STATUS_ACTIVE_RATE : Fld := ⟨0x800140, 25, 24⟩
abbrev RTU_STATUS_ALT_FAIL : Fld := ⟨0x800140, 23, 20⟩
abbrev RTU_PTP_CFG (i : Nat) : Fld := ⟨0x800200 + 0x40 * i, 31, 0⟩
abbrev RTU_PTP_CFG_EN (i : Nat) : Fld := ⟨0x800200 + 0x40 * i, 31, 31⟩
abbrev RTU_PTP_CFG_ETH1 (i : Nat) : Fld := ⟨0x800200 + 0x40 * i, 30, 30⟩
abbrev RTU_PTP_CFG_ETH0 (i : Nat) : Fld := ⟨0x800200 + 0x40 * i, 29, 29⟩
abbrev RTU_PTP_CFG_DREQ_UNICAST (i : Nat) : Fld := ⟨0x800200 + 0x40 * i, 28, 28⟩
abbrev RTU_PTP_CFG_DOMAIN (i : Nat) : Fld := ⟨0x800200 + 0x40 * i, 23, 16⟩
abbrev RTU_PTP_CFG_LOG_SYNC (i : Nat) : Fld := ⟨0x800200 + 0x40 * i, 15, 12⟩
abbrev RTU_REF_RATE : Fld := ⟨0x800104, 31, 0⟩
abbrev RTU_REF_RATE_NUM : Fld := ⟨0x800104, 31, 12⟩
abbrev RTU_REF_RATE_DEN : Fld := ⟨0x800104, 11, 0⟩
abbrev RTU_REF_ALT (i : Nat) : Fld := ⟨0x800108 + 0x4 * i, 31, 0⟩
abbrev RTU_REF_ALT_NUM (i : Nat) : Fld := ⟨0x800108 + 0x4 * i, 31, 12⟩
abbrev RTU_REF_ALT_DEN (i : Nat) : Fld := ⟨0x800108 + 0x4 * i, 11, 0⟩
abbrev RTU_FOLLOW : Fld := ⟨0x800114, 31, 0⟩
abbrev RTU_FOLLOW_V : Fld := ⟨0x800114, 11, 0⟩
abbrev RTU_REF_OFS : Fld := ⟨0x800118, 31, 0⟩
abbrev RTU_REF_CLK : Fld := ⟨0x80011c, 31, 0⟩
abbrev RTU_REF_CLK_HZ : Fld := ⟨0x80011c, 26, 0⟩
abbrev RTU_REF_CLK_DIV : Fld := ⟨0x800120, 31, 0⟩
abbrev RTU_REF_CLK_DIV_DIV : Fld := ⟨0x800120, 19, 0⟩
abbrev RTU_LOCK_THR : Fld := ⟨0x800124, 31, 0⟩
abbrev RTU_LOCK_THR_NS : Fld := ⟨0x800124, 19, 0⟩
abbrev RTU_TC_OFS : Fld := ⟨0x800128, 31, 0⟩
abbrev RTU_FREQ : Fld := ⟨0x800144, 31, 0⟩
abbrev RTU_PHASE_ERR : Fld := ⟨0x800148, 31, 0⟩
abbrev RTU_ANCHOR_S_HI : Fld := ⟨0x80014c, 31, 0⟩
abbrev RTU_ANCHOR_S_HI_V : Fld := ⟨0x80014c, 15, 0⟩
abbrev RTU_ANCHOR_S_LO : Fld := ⟨0x800150, 31, 0⟩
abbrev RTU_ANCHOR_NS : Fld := ⟨0x800154, 31, 0⟩
abbrev RTU_TIME_CTL : Fld := ⟨0x800160, 31, 0⟩
abbrev RTU_TIME_CTL_SET : Fld := ⟨0x800160, 1, 1⟩
abbrev RTU_TIME_CTL_SNAP : Fld := ⟨0x800160, 0, 0⟩
abbrev RTU_TIME_SNAP_S_HI : Fld := ⟨0x800164, 31, 0⟩
abbrev RTU_TIME_SNAP_S_HI_V : Fld := ⟨0x800164, 15, 0⟩
abbrev RTU_TIME_SNAP_S_LO : Fld := ⟨0x800168, 31, 0⟩
abbrev RTU_TIME_SNAP_NS : Fld := ⟨0x80016c, 31, 0⟩
abbrev RTU_TIME_SET_S_HI : Fld := ⟨0x800170, 31, 0⟩
abbrev RTU_TIME_SET_S_HI_V : Fld := ⟨0x800170, 15, 0⟩
abbrev RTU_TIME_SET_S_LO : Fld := ⟨0x800174, 31, 0⟩
abbrev RTU_TIME_SET_NS : Fld := ⟨0x800178, 31, 0⟩
abbrev RTU_DATE : Fld := ⟨0x80017c, 31, 0⟩
abbrev RTU_DATE_DAYS : Fld := ⟨0x80017c, 23, 0⟩
abbrev RTU_CNT_GLITCH : Fld := ⟨0x800180, 31, 0⟩
abbrev RTU_CNT_HOLDOVER : Fld := ⟨0x800184, 31, 0⟩
abbrev RTU_CNT_RATE_CHANGE : Fld := ⟨0x800188, 31, 0⟩
abbrev RTU_CNT_LTC_ERR : Fld := ⟨0x80018c, 31, 0⟩
abbrev RTU_PTP_STATUS (i : Nat) : Fld := ⟨0x800204 + 0x40 * i, 31, 0⟩
abbrev RTU_PTP_STATUS_STATE (i : Nat) : Fld := ⟨0x800204 + 0x40 * i, 31, 29⟩
abbrev RTU_PTP_STATUS_OFS_VALID (i : Nat) : Fld := ⟨0x800204 + 0x40 * i, 28, 28⟩
abbrev RTU_PTP_STATUS_PORT (i : Nat) : Fld := ⟨0x800204 + 0x40 * i, 0, 0⟩
abbrev RTU_PTP_GM_HI (i : Nat) : Fld := ⟨0x800208 + 0x40 * i, 31, 0⟩
abbrev RTU_PTP_GM_LO (i : Nat) : Fld := ⟨0x80020c + 0x40 * i, 31, 0⟩
abbrev RTU_PTP_OFS_HI (i : Nat) : Fld := ⟨0x800210 + 0x40 * i, 31, 0⟩
abbrev RTU_PTP_OFS_LO (i : Nat) : Fld := ⟨0x800214 + 0x40 * i, 31, 0⟩
abbrev RTU_PTP_FREQ (i : Nat) : Fld := ⟨0x800218 + 0x40 * i, 31, 0⟩
abbrev RTU_PTP_MPD (i : Nat) : Fld := ⟨0x80021c + 0x40 * i, 31, 0⟩
abbrev RTU_CNT_SYNC_MISS (i : Nat) : Fld := ⟨0x800220 + 0x40 * i, 31, 0⟩
abbrev RTU_TS_STATUS (i : Nat) : Fld := ⟨0x800300 + 0x20 * i, 31, 0⟩
abbrev RTU_TS_STATUS_ENTRIES (i : Nat) : Fld := ⟨0x800300 + 0x20 * i, 20, 16⟩
abbrev RTU_TS_STATUS_DROPPED (i : Nat) : Fld := ⟨0x800300 + 0x20 * i, 15, 0⟩
abbrev RTU_TS_S_HI (i : Nat) : Fld := ⟨0x800304 + 0x20 * i, 31, 0⟩
abbrev RTU_TS_S_HI_V (i : Nat) : Fld := ⟨0x800304 + 0x20 * i, 15, 0⟩
abbrev RTU_TS_S_LO (i : Nat) : Fld := ⟨0x800308 + 0x20 * i, 31, 0⟩
abbrev RTU_TS_NS (i : Nat) : Fld := ⟨0x80030c + 0x20 * i, 31, 0⟩
abbrev RTU_TS_TAG (i : Nat) : Fld := ⟨0x800310 + 0x20 * i, 31, 0⟩
abbrev RTU_TS_TAG_TX (i : Nat) : Fld := ⟨0x800310 + 0x20 * i, 31, 31⟩
abbrev RTU_TS_TAG_TAG (i : Nat) : Fld := ⟨0x800310 + 0x20 * i, 15, 0⟩
abbrev RTU_TS_POP (i : Nat) : Fld := ⟨0x800314 + 0x20 * i, 31, 0⟩
abbrev RTU_TS_POP_POP (i : Nat) : Fld := ⟨0x800314 + 0x20 * i, 0, 0⟩
abbrev RTU_ETH_EVT_LAT (i : Nat) : Fld := ⟨0x800318 + 0x20 * i, 31, 0⟩
abbrev RTU_ETH_EVT_LAT_TX (i : Nat) : Fld := ⟨0x800318 + 0x20 * i, 31, 16⟩
abbrev RTU_ETH_EVT_LAT_RX (i : Nat) : Fld := ⟨0x800318 + 0x20 * i, 15, 0⟩
abbrev RTU_LTC_IN_TC : Fld := ⟨0x800400, 31, 0⟩
abbrev RTU_LTC_IN_STATUS : Fld := ⟨0x800404, 31, 0⟩
abbrev RTU_LTC_IN_STATUS_STATE : Fld := ⟨0x800404, 31, 30⟩
abbrev RTU_LTC_IN_STATUS_DROP : Fld := ⟨0x800404, 2, 2⟩
abbrev RTU_LTC_IN_STATUS_RATE : Fld := ⟨0x800404, 1, 0⟩
abbrev RTU_LTC_OUT_CFG : Fld := ⟨0x800408, 31, 0⟩
abbrev RTU_LTC_OUT_CFG_EN : Fld := ⟨0x800408, 31, 31⟩
abbrev RTU_LTC_OUT_CFG_RATE : Fld := ⟨0x800408, 1, 0⟩
abbrev RTU_LTC_OUT_UB : Fld := ⟨0x80040c, 31, 0⟩

/-! ### MSS -/

abbrev MSS_CFG : Fld := ⟨0x900100, 31, 0⟩
abbrev MSS_CFG_CHANNELS : Fld := ⟨0x900100, 31, 27⟩
abbrev MSS_CFG_GRADE : Fld := ⟨0x900100, 26, 25⟩
abbrev MSS_CFG_DENSITY : Fld := ⟨0x900100, 24, 24⟩
abbrev MSS_CFG_RANKS : Fld := ⟨0x900100, 23, 23⟩
abbrev MSS_ARB_CFG : Fld := ⟨0x900104, 31, 0⟩
abbrev MSS_ARB_CFG_MANUAL : Fld := ⟨0x900104, 31, 31⟩
abbrev MSS_ARB_CFG_LW_N : Fld := ⟨0x900104, 21, 16⟩
abbrev MSS_ARB_CFG_AGE_CAP : Fld := ⟨0x900104, 11, 0⟩
abbrev MSS_NREF_CFG : Fld := ⟨0x900108, 31, 0⟩
abbrev MSS_NREF_CFG_SPAN2 : Fld := ⟨0x900108, 8, 8⟩
abbrev MSS_NREF_CFG_P : Fld := ⟨0x900108, 4, 0⟩
abbrev MSS_CH_STATUS (i : Nat) : Fld := ⟨0x901000 + 0x100 * i, 31, 0⟩
abbrev MSS_CH_STATUS_TRAIN (i : Nat) : Fld := ⟨0x901000 + 0x100 * i, 31, 29⟩
abbrev MSS_CH_STATUS_SELF_REFRESH (i : Nat) : Fld := ⟨0x901000 + 0x100 * i, 28, 28⟩
abbrev MSS_CH_STATUS_RDQ_MAX (i : Nat) : Fld := ⟨0x901000 + 0x100 * i, 20, 14⟩
abbrev MSS_CH_STATUS_WRQ_MAX (i : Nat) : Fld := ⟨0x901000 + 0x100 * i, 13, 7⟩
abbrev MSS_REF_STATUS : Fld := ⟨0x90010c, 31, 0⟩
abbrev MSS_REF_STATUS_DDR_HOT : Fld := ⟨0x90010c, 1, 1⟩
abbrev MSS_REF_STATUS_FAST : Fld := ⟨0x90010c, 0, 0⟩
abbrev MSS_CRC_TEST_DATA (i : Nat) : Fld := ⟨0x900200 + 0x4 * i, 31, 0⟩
abbrev MSS_CRC_TEST_ADDR_LO : Fld := ⟨0x900240, 31, 0⟩
abbrev MSS_CRC_TEST_ADDR_HI : Fld := ⟨0x900244, 31, 0⟩
abbrev MSS_CRC_TEST_ADDR_HI_V : Fld := ⟨0x900244, 7, 0⟩
abbrev MSS_CRC_TEST_CTL : Fld := ⟨0x900248, 31, 0⟩
abbrev MSS_CRC_TEST_CTL_GO : Fld := ⟨0x900248, 0, 0⟩
abbrev MSS_CRC_TEST_RESULT_LO : Fld := ⟨0x90024c, 31, 0⟩
abbrev MSS_CRC_TEST_RESULT_HI : Fld := ⟨0x900250, 31, 0⟩
abbrev MSS_LIN_BASE_LO : Fld := ⟨0x900300, 31, 0⟩
abbrev MSS_LIN_BASE_HI : Fld := ⟨0x900304, 31, 0⟩
abbrev MSS_LIN_BASE_HI_V : Fld := ⟨0x900304, 7, 0⟩
abbrev MSS_CNT_LIN_HIT : Fld := ⟨0x900308, 31, 0⟩
abbrev MSS_CNT_LIN_MISS : Fld := ⟨0x90030c, 31, 0⟩
abbrev MSS_CLIP_BASE_LO : Fld := ⟨0x900700, 31, 0⟩
abbrev MSS_CLIP_BASE_HI : Fld := ⟨0x900704, 31, 0⟩
abbrev MSS_CLIP_BASE_HI_V : Fld := ⟨0x900704, 7, 0⟩
abbrev MSS_CLIP_BLOCKS_LO : Fld := ⟨0x900708, 31, 0⟩
abbrev MSS_CLIP_BLOCKS_HI : Fld := ⟨0x90070c, 31, 0⟩
abbrev MSS_CLIP_STATE : Fld := ⟨0x900710, 31, 0⟩
abbrev MSS_CLIP_STATE_STATE : Fld := ⟨0x900710, 1, 0⟩
abbrev MSS_REEL_CTL (i : Nat) : Fld := ⟨0x900800 + 0x20 * i, 31, 0⟩
abbrev MSS_REEL_CTL_REC (i : Nat) : Fld := ⟨0x900800 + 0x20 * i, 0, 0⟩
abbrev MSS_REEL_STATUS (i : Nat) : Fld := ⟨0x900804 + 0x20 * i, 31, 0⟩
abbrev MSS_REEL_STATUS_FULL (i : Nat) : Fld := ⟨0x900804 + 0x20 * i, 31, 31⟩
abbrev MSS_REEL_STATUS_OPEN (i : Nat) : Fld := ⟨0x900804 + 0x20 * i, 30, 30⟩
abbrev MSS_REEL_STATUS_TAKE (i : Nat) : Fld := ⟨0x900804 + 0x20 * i, 15, 0⟩
abbrev MSS_REEL_FREE (i : Nat) : Fld := ⟨0x900808 + 0x20 * i, 31, 0⟩
abbrev MSS_CNT_REC_LATE (i : Nat) : Fld := ⟨0x90080c + 0x20 * i, 31, 0⟩
abbrev MSS_CNT_REC_IDLE (i : Nat) : Fld := ⟨0x900810 + 0x20 * i, 31, 0⟩
abbrev MSS_SLOT_STATUS (i : Nat) : Fld := ⟨0x901004 + 0x100 * i, 31, 0⟩
abbrev MSS_SLOT_STATUS_ACTIVE (i : Nat) : Fld := ⟨0x901004 + 0x100 * i, 8, 8⟩
abbrev MSS_SLOT_STATUS_PENDING (i : Nat) : Fld := ⟨0x901004 + 0x100 * i, 4, 4⟩
abbrev MSS_SLOT_CTL (i : Nat) : Fld := ⟨0x901008 + 0x100 * i, 31, 0⟩
abbrev MSS_SLOT_CTL_CLR (i : Nat) : Fld := ⟨0x901008 + 0x100 * i, 1, 1⟩
abbrev MSS_SLOT_CTL_SWAP (i : Nat) : Fld := ⟨0x901008 + 0x100 * i, 0, 0⟩
abbrev MSS_CNT_DETECT (i : Nat) : Fld := ⟨0x901020 + 0x100 * i, 31, 0⟩
abbrev MSS_CNT_RETRY_OK (i : Nat) : Fld := ⟨0x901024 + 0x100 * i, 31, 0⟩
abbrev MSS_CNT_POISON_READ (i : Nat) : Fld := ⟨0x901028 + 0x100 * i, 31, 0⟩
abbrev MSS_CNT_RECOMPUTE (i : Nat) : Fld := ⟨0x90102c + 0x100 * i, 31, 0⟩
abbrev MSS_CNT_CONCEAL (i : Nat) : Fld := ⟨0x901030 + 0x100 * i, 31, 0⟩
abbrev MSS_CNT_COP_BUDGET (i : Nat) : Fld := ⟨0x901034 + 0x100 * i, 31, 0⟩
abbrev MSS_CNT_COP_UNAVAIL (i : Nat) : Fld := ⟨0x901038 + 0x100 * i, 31, 0⟩
abbrev MSS_CNT_DATA_ERR (i : Nat) : Fld := ⟨0x90103c + 0x100 * i, 31, 0⟩
abbrev MSS_CNT_FWD (i : Nat) : Fld := ⟨0x901040 + 0x100 * i, 31, 0⟩
abbrev MSS_CNT_MERGE (i : Nat) : Fld := ⟨0x901044 + 0x100 * i, 31, 0⟩
abbrev MSS_CNT_RMW_POISON (i : Nat) : Fld := ⟨0x901048 + 0x100 * i, 31, 0⟩
abbrev MSS_CNT_NREF (i : Nat) : Fld := ⟨0x90104c + 0x100 * i, 31, 0⟩
abbrev MSS_CNT_REPLY_DROP (i : Nat) : Fld := ⟨0x901050 + 0x100 * i, 31, 0⟩

/-! ### HIF -/

abbrev HIF_LINK_STATUS : Fld := ⟨0xa00100, 31, 0⟩
abbrev HIF_LINK_STATUS_STATE : Fld := ⟨0xa00100, 31, 29⟩
abbrev HIF_LINK_STATUS_RATE : Fld := ⟨0xa00100, 23, 20⟩
abbrev HIF_LINK_STATUS_WIDTH : Fld := ⟨0xa00100, 19, 16⟩
abbrev HIF_LINK_STATUS_FLIT : Fld := ⟨0xa00100, 0, 0⟩
abbrev HIF_QP_CFG (i : Nat) : Fld := ⟨0xa01000 + 0x40 * i, 31, 0⟩
abbrev HIF_QP_CFG_EN (i : Nat) : Fld := ⟨0xa01000 + 0x40 * i, 31, 31⟩
abbrev HIF_QP_CFG_DEPTH_M1 (i : Nat) : Fld := ⟨0xa01000 + 0x40 * i, 27, 16⟩
abbrev HIF_QP_CFG_VECTOR (i : Nat) : Fld := ⟨0xa01000 + 0x40 * i, 10, 0⟩
abbrev HIF_QP_STATUS (i : Nat) : Fld := ⟨0xa01014 + 0x40 * i, 31, 0⟩
abbrev HIF_QP_STATUS_STATE (i : Nat) : Fld := ⟨0xa01014 + 0x40 * i, 31, 30⟩
abbrev HIF_QP_STATUS_SQ_HEAD (i : Nat) : Fld := ⟨0xa01014 + 0x40 * i, 27, 16⟩
abbrev HIF_QP_STATUS_OUTSTANDING (i : Nat) : Fld := ⟨0xa01014 + 0x40 * i, 12, 0⟩
abbrev HIF_APT_BASE_LO : Fld := ⟨0xa00110, 31, 0⟩
abbrev HIF_APT_BASE_HI : Fld := ⟨0xa00114, 31, 0⟩
abbrev HIF_APT_BASE_HI_V : Fld := ⟨0xa00114, 7, 0⟩
abbrev HIF_WBUF_BYTES : Fld := ⟨0xa00120, 31, 0⟩
abbrev HIF_WBUF_USED : Fld := ⟨0xa00124, 31, 0⟩
abbrev HIF_CNT_CMD : Fld := ⟨0xa00140, 31, 0⟩
abbrev HIF_CNT_DATA_ERR : Fld := ⟨0xa00144, 31, 0⟩
abbrev HIF_CNT_WRITE_FAULT : Fld := ⟨0xa00148, 31, 0⟩
abbrev HIF_CNT_ABORTED : Fld := ⟨0xa0014c, 31, 0⟩
abbrev HIF_CNT_AEV_DROP : Fld := ⟨0xa00150, 31, 0⟩
abbrev HIF_CNT_MGMT_ERR : Fld := ⟨0xa00154, 31, 0⟩
abbrev HIF_SQ_BASE_LO (i : Nat) : Fld := ⟨0xa01004 + 0x40 * i, 31, 0⟩
abbrev HIF_SQ_BASE_HI (i : Nat) : Fld := ⟨0xa01008 + 0x40 * i, 31, 0⟩
abbrev HIF_CQ_BASE_LO (i : Nat) : Fld := ⟨0xa0100c + 0x40 * i, 31, 0⟩
abbrev HIF_CQ_BASE_HI (i : Nat) : Fld := ⟨0xa01010 + 0x40 * i, 31, 0⟩
abbrev HIF_SQ_TAIL (i : Nat) : Fld := ⟨0xa01018 + 0x40 * i, 31, 0⟩
abbrev HIF_CQ_HEAD (i : Nat) : Fld := ⟨0xa0101c + 0x40 * i, 31, 0⟩
abbrev HIF_CQ_TAIL (i : Nat) : Fld := ⟨0xa01020 + 0x40 * i, 31, 0⟩
abbrev HIF_CQ_TAIL_PHASE (i : Nat) : Fld := ⟨0xa01020 + 0x40 * i, 12, 12⟩
abbrev HIF_CQ_TAIL_TAIL (i : Nat) : Fld := ⟨0xa01020 + 0x40 * i, 11, 0⟩
abbrev HIF_MSIX_TABLE (i : Nat) (j : Nat) : Fld := ⟨0xa10000 + 0x10 * i + 0x4 * j, 31, 0⟩
abbrev HIF_MSIX_VCTL (i : Nat) : Fld := ⟨0xa1000c + 0x10 * i, 31, 0⟩
abbrev HIF_MSIX_VCTL_MASK (i : Nat) : Fld := ⟨0xa1000c + 0x10 * i, 0, 0⟩
abbrev HIF_MSIX_PBA (i : Nat) : Fld := ⟨0xa18000 + 0x4 * i, 31, 0⟩

/-! ### SCC -/

abbrev SCC_CPQ_CFG (i : Nat) : Fld := ⟨0xb40000 + 0x20 * i, 31, 0⟩
abbrev SCC_CPQ_CFG_NOTIFY_DEPTH (i : Nat) : Fld := ⟨0xb40000 + 0x20 * i, 7, 0⟩
abbrev SCC_CPQ_STATUS (i : Nat) : Fld := ⟨0xb40008 + 0x20 * i, 31, 0⟩
abbrev SCC_CPQ_STATUS_MODE (i : Nat) : Fld := ⟨0xb40008 + 0x20 * i, 31, 30⟩
abbrev SCC_CPQ_STATUS_IDLE_FIRED (i : Nat) : Fld := ⟨0xb40008 + 0x20 * i, 29, 29⟩
abbrev SCC_CPQ_STATUS_CELLS (i : Nat) : Fld := ⟨0xb40008 + 0x20 * i, 16, 0⟩
abbrev SCC_CPQ_CTL (i : Nat) : Fld := ⟨0xb40010 + 0x20 * i, 31, 0⟩
abbrev SCC_CPQ_CTL_REINSTATE (i : Nat) : Fld := ⟨0xb40010 + 0x20 * i, 2, 2⟩
abbrev SCC_CPQ_CTL_RESET (i : Nat) : Fld := ⟨0xb40010 + 0x20 * i, 1, 1⟩
abbrev SCC_CPQ_CTL_CLR (i : Nat) : Fld := ⟨0xb40010 + 0x20 * i, 0, 0⟩
abbrev SCC_LOCK (i : Nat) : Fld := ⟨0xb50000 + 0x4 * i, 31, 0⟩
abbrev SCC_LOCK_RESULT (i : Nat) : Fld := ⟨0xb50000 + 0x4 * i, 31, 30⟩
abbrev SCC_LOCK_OWNER (i : Nat) : Fld := ⟨0xb50000 + 0x4 * i, 15, 0⟩
abbrev SCC_BOOT_STATUS : Fld := ⟨0xb00100, 31, 0⟩
abbrev SCC_BOOT_STATUS_STATE : Fld := ⟨0xb00100, 31, 29⟩
abbrev SCC_BOOT_STATUS_SLOT : Fld := ⟨0xb00100, 28, 28⟩
abbrev SCC_BOOT_STATUS_UNIT : Fld := ⟨0xb00100, 27, 24⟩
abbrev SCC_BOOT_STATUS_RESULT : Fld := ⟨0xb00100, 23, 16⟩
abbrev SCC_BOOT_STATUS_SLOT_A_RESULT : Fld := ⟨0xb00100, 15, 8⟩
abbrev SCC_BOOT_STATUS_SLOT_B_RESULT : Fld := ⟨0xb00100, 7, 0⟩
abbrev SCC_BOOT_CTL : Fld := ⟨0xb00104, 31, 0⟩
abbrev SCC_BOOT_CTL_ADVANCE : Fld := ⟨0xb00104, 1, 1⟩
abbrev SCC_BOOT_CTL_REBOOT : Fld := ⟨0xb00104, 0, 0⟩
abbrev SCC_CPQ_LIM (i : Nat) : Fld := ⟨0xb40004 + 0x20 * i, 31, 0⟩
abbrev SCC_CPQ_LIM_MAX (i : Nat) : Fld := ⟨0xb40004 + 0x20 * i, 31, 16⟩
abbrev SCC_CPQ_LIM_MIN (i : Nat) : Fld := ⟨0xb40004 + 0x20 * i, 15, 0⟩
abbrev SCC_CPQ_TIMEOUT (i : Nat) : Fld := ⟨0xb4000c + 0x20 * i, 31, 0⟩
abbrev SCC_CPQ_TIMEOUT_NS (i : Nat) : Fld := ⟨0xb4000c + 0x20 * i, 23, 0⟩
abbrev SCC_CPQ_ITEMS (i : Nat) : Fld := ⟨0xb40014 + 0x20 * i, 31, 0⟩
abbrev SCC_CPQ_ITEMS_N (i : Nat) : Fld := ⟨0xb40014 + 0x20 * i, 16, 0⟩
abbrev SCC_CPQ_LOST (i : Nat) : Fld := ⟨0xb40018 + 0x20 * i, 31, 0⟩
abbrev SCC_CNT_POST_FAIL (i : Nat) : Fld := ⟨0xb4001c + 0x20 * i, 31, 0⟩
abbrev SCC_CP_FREE : Fld := ⟨0xb30000, 31, 0⟩
abbrev SCC_CP_FREE_N : Fld := ⟨0xb30000, 16, 0⟩
abbrev SCC_CNT_ABANDONED : Fld := ⟨0xb30010, 31, 0⟩
abbrev SCC_CNT_PARTIAL_DROP : Fld := ⟨0xb30014, 31, 0⟩
abbrev SCC_CNT_FB_REJECT : Fld := ⟨0xb30018, 31, 0⟩
abbrev SCC_CNT_POISON : Fld := ⟨0xb3001c, 31, 0⟩
abbrev SCC_CNT_FREE_REBUILD : Fld := ⟨0xb30020, 31, 0⟩
abbrev SCC_CP_NOTIFY (i : Nat) : Fld := ⟨0xb30100 + 0x4 * i, 31, 0⟩
abbrev SCC_CP_WR_CFG (i : Nat) : Fld := ⟨0xb31000 + 0x200 * i, 31, 0⟩
abbrev SCC_CP_WR_CFG_EN (i : Nat) : Fld := ⟨0xb31000 + 0x200 * i, 31, 31⟩
abbrev SCC_CP_WR_CFG_QUEUE (i : Nat) : Fld := ⟨0xb31000 + 0x200 * i, 9, 0⟩
abbrev SCC_CP_WR_CTL (i : Nat) : Fld := ⟨0xb31004 + 0x200 * i, 31, 0⟩
abbrev SCC_CP_WR_CTL_PUSH (i : Nat) : Fld := ⟨0xb31004 + 0x200 * i, 8, 8⟩
abbrev SCC_CP_WR_CTL_CELLS_M1 (i : Nat) : Fld := ⟨0xb31004 + 0x200 * i, 1, 0⟩
abbrev SCC_CP_WR_STATUS (i : Nat) : Fld := ⟨0xb31008 + 0x200 * i, 31, 0⟩
abbrev SCC_CP_WR_STATUS_BUSY (i : Nat) : Fld := ⟨0xb31008 + 0x200 * i, 31, 31⟩
abbrev SCC_CP_WR_STATUS_RESULT (i : Nat) : Fld := ⟨0xb31008 + 0x200 * i, 1, 0⟩
abbrev SCC_CP_WR_DATA (i : Nat) (j : Nat) : Fld := ⟨0xb31100 + 0x200 * i + 0x4 * j, 31, 0⟩
abbrev SCC_CP_RD_CFG (i : Nat) : Fld := ⟨0xb32000 + 0x100 * i, 31, 0⟩
abbrev SCC_CP_RD_CFG_EN (i : Nat) : Fld := ⟨0xb32000 + 0x100 * i, 31, 31⟩
abbrev SCC_CP_RD_CFG_QUEUE (i : Nat) : Fld := ⟨0xb32000 + 0x100 * i, 9, 0⟩
abbrev SCC_CP_RD_CTL (i : Nat) : Fld := ⟨0xb32004 + 0x100 * i, 31, 0⟩
abbrev SCC_CP_RD_CTL_POP (i : Nat) : Fld := ⟨0xb32004 + 0x100 * i, 0, 0⟩
abbrev SCC_CP_RD_STATUS (i : Nat) : Fld := ⟨0xb32008 + 0x100 * i, 31, 0⟩
abbrev SCC_CP_RD_STATUS_VALID (i : Nat) : Fld := ⟨0xb32008 + 0x100 * i, 31, 31⟩
abbrev SCC_CP_RD_STATUS_FIRST (i : Nat) : Fld := ⟨0xb32008 + 0x100 * i, 30, 30⟩
abbrev SCC_CP_RD_STATUS_LAST (i : Nat) : Fld := ⟨0xb32008 + 0x100 * i, 29, 29⟩
abbrev SCC_CP_RD_STATUS_POISON (i : Nat) : Fld := ⟨0xb32008 + 0x100 * i, 15, 8⟩
abbrev SCC_CP_RD_DATA (i : Nat) (j : Nat) : Fld := ⟨0xb32040 + 0x100 * i + 0x4 * j, 31, 0⟩
abbrev SCC_LOCK_PEEK (i : Nat) : Fld := ⟨0xb50400 + 0x4 * i, 31, 0⟩
abbrev SCC_LOCK_PEEK_STATE (i : Nat) : Fld := ⟨0xb50400 + 0x4 * i, 31, 30⟩
abbrev SCC_LOCK_PEEK_OWNER (i : Nat) : Fld := ⟨0xb50400 + 0x4 * i, 15, 0⟩
abbrev SCC_LOCK_CTL : Fld := ⟨0xb50800, 31, 0⟩
abbrev SCC_LOCK_CTL_BREAK : Fld := ⟨0xb50800, 31, 31⟩
abbrev SCC_LOCK_CTL_LOCK : Fld := ⟨0xb50800, 7, 0⟩
abbrev SCC_BOOT_SEQ : Fld := ⟨0xb00108, 31, 0⟩
abbrev SCC_BOOT_TIME : Fld := ⟨0xb0010c, 31, 0⟩
abbrev SCC_IMAGE_DIGEST (i : Nat) : Fld := ⟨0xb00110 + 0x4 * i, 31, 0⟩
abbrev SCC_FUSE_STATE : Fld := ⟨0xb00150, 31, 0⟩
abbrev SCC_FUSE_STATE_LIFECYCLE : Fld := ⟨0xb00150, 31, 24⟩
abbrev SCC_FUSE_STATE_F : Fld := ⟨0xb00150, 22, 16⟩
abbrev SCC_FUSE_STATE_FUSED : Fld := ⟨0xb00150, 11, 8⟩
abbrev SCC_FUSE_STATE_DBG_CLOSE : Fld := ⟨0xb00150, 5, 5⟩
abbrev SCC_FUSE_STATE_VENDOR_DISABLE : Fld := ⟨0xb00150, 4, 4⟩
abbrev SCC_FUSE_STATE_REVOKE : Fld := ⟨0xb00150, 3, 0⟩
abbrev SCC_FUSE_DATA (i : Nat) : Fld := ⟨0xb00160 + 0x4 * i, 31, 0⟩
abbrev SCC_FUSE_CTL : Fld := ⟨0xb001a0, 31, 0⟩
abbrev SCC_FUSE_CTL_OP : Fld := ⟨0xb001a0, 31, 28⟩
abbrev SCC_FUSE_CTL_SLOT : Fld := ⟨0xb001a0, 1, 0⟩
abbrev SCC_FUSE_STATUS : Fld := ⟨0xb001a4, 31, 0⟩
abbrev SCC_FUSE_STATUS_BUSY : Fld := ⟨0xb001a4, 31, 31⟩
abbrev SCC_FUSE_STATUS_FAIL : Fld := ⟨0xb001a4, 1, 1⟩
abbrev SCC_FUSE_STATUS_DONE : Fld := ⟨0xb001a4, 0, 0⟩
abbrev SCC_FLASH_ADDR : Fld := ⟨0xb00200, 31, 0⟩
abbrev SCC_FLASH_CTL : Fld := ⟨0xb00204, 31, 0⟩
abbrev SCC_FLASH_CTL_PROGRAM : Fld := ⟨0xb00204, 1, 1⟩
abbrev SCC_FLASH_CTL_ERASE : Fld := ⟨0xb00204, 0, 0⟩
abbrev SCC_FLASH_STATUS : Fld := ⟨0xb00208, 31, 0⟩
abbrev SCC_FLASH_STATUS_BUSY : Fld := ⟨0xb00208, 31, 31⟩
abbrev SCC_FLASH_STATUS_ERROR : Fld := ⟨0xb00208, 0, 0⟩
abbrev SCC_FLASH_BUF (i : Nat) : Fld := ⟨0xb00280 + 0x4 * i, 31, 0⟩

/-! ### HTP -/

abbrev HTP_ZONE (i : Nat) : Fld := ⟨0xc00100 + 0x4 * i, 31, 0⟩
abbrev HTP_ZONE_BROKEN (i : Nat) : Fld := ⟨0xc00100 + 0x4 * i, 31, 31⟩
abbrev HTP_ZONE_TEMP (i : Nat) : Fld := ⟨0xc00100 + 0x4 * i, 15, 0⟩
abbrev HTP_POLLARD_CFG : Fld := ⟨0xc001a0, 31, 0⟩
abbrev HTP_POLLARD_CFG_STEP_MS : Fld := ⟨0xc001a0, 31, 24⟩
abbrev HTP_POLLARD_CFG_HYST : Fld := ⟨0xc001a0, 19, 16⟩
abbrev HTP_PWR_CTL : Fld := ⟨0xc00200, 31, 0⟩
abbrev HTP_PWR_CTL_GO : Fld := ⟨0xc00200, 31, 31⟩
abbrev HTP_PWR_CTL_TARGET : Fld := ⟨0xc00200, 2, 0⟩
abbrev HTP_GAUGE_CFG (i : Nat) : Fld := ⟨0xc02000 + 0x200 * i, 31, 0⟩
abbrev HTP_GAUGE_CFG_SRC_KIND (i : Nat) : Fld := ⟨0xc02000 + 0x200 * i, 31, 28⟩
abbrev HTP_GAUGE_CFG_INDEX (i : Nat) : Fld := ⟨0xc02000 + 0x200 * i, 25, 16⟩
abbrev HTP_GAUGE_CFG_LOG2 (i : Nat) : Fld := ⟨0xc02000 + 0x200 * i, 15, 15⟩
abbrev HTP_ZONE_RAW (i : Nat) : Fld := ⟨0xc00140 + 0x4 * i, 31, 0⟩
abbrev HTP_ZONE_RAW_T (i : Nat) : Fld := ⟨0xc00140 + 0x4 * i, 15, 0⟩
abbrev HTP_ZONE_CTL : Fld := ⟨0xc00180, 31, 0⟩
abbrev HTP_ZONE_CTL_READMIT : Fld := ⟨0xc00180, 8, 0⟩
abbrev HTP_THR_LOW : Fld := ⟨0xc00190, 31, 0⟩
abbrev HTP_THR_LOW_WARN : Fld := ⟨0xc00190, 31, 16⟩
abbrev HTP_THR_LOW_STOP : Fld := ⟨0xc00190, 15, 0⟩
abbrev HTP_THR_HIGH : Fld := ⟨0xc00194, 31, 0⟩
abbrev HTP_THR_HIGH_POLLARD : Fld := ⟨0xc00194, 31, 16⟩
abbrev HTP_THR_HIGH_WARN : Fld := ⟨0xc00194, 15, 0⟩
abbrev HTP_THR_CRIT : Fld := ⟨0xc00198, 31, 0⟩
abbrev HTP_THR_CRIT_CRITICAL : Fld := ⟨0xc00198, 15, 0⟩
abbrev HTP_POLLARD_STATUS : Fld := ⟨0xc001a4, 31, 0⟩
abbrev HTP_POLLARD_STATUS_AT_CAP : Fld := ⟨0xc001a4, 8, 8⟩
abbrev HTP_POLLARD_STATUS_CAP : Fld := ⟨0xc001a4, 7, 4⟩
abbrev HTP_POLLARD_STATUS_LEVEL : Fld := ⟨0xc001a4, 3, 0⟩
abbrev HTP_SHUTDOWN_STATUS : Fld := ⟨0xc001b0, 31, 0⟩
abbrev HTP_SHUTDOWN_STATUS_SHUTDOWN : Fld := ⟨0xc001b0, 31, 31⟩
abbrev HTP_SHUTDOWN_STATUS_ZONE : Fld := ⟨0xc001b0, 27, 24⟩
abbrev HTP_SHUTDOWN_STATUS_TMAX : Fld := ⟨0xc001b0, 15, 0⟩
abbrev HTP_PWR_STATUS : Fld := ⟨0xc00204, 31, 0⟩
abbrev HTP_PWR_STATUS_BUSY : Fld := ⟨0xc00204, 31, 31⟩
abbrev HTP_PWR_STATUS_TARGET : Fld := ⟨0xc00204, 10, 8⟩
abbrev HTP_PWR_STATUS_STATE : Fld := ⟨0xc00204, 2, 0⟩
abbrev HTP_LIFE_USED_LO : Fld := ⟨0xc00300, 31, 0⟩
abbrev HTP_LIFE_USED_HI : Fld := ⟨0xc00304, 31, 0⟩
abbrev HTP_AGE (i : Nat) : Fld := ⟨0xc00320 + 0x4 * i, 31, 0⟩
abbrev HTP_AGE_V (i : Nat) : Fld := ⟨0xc00320 + 0x4 * i, 15, 0⟩
abbrev HTP_VMON (i : Nat) : Fld := ⟨0xc00380 + 0x4 * i, 31, 0⟩
abbrev HTP_VMON_VFAULT (i : Nat) : Fld := ⟨0xc00380 + 0x4 * i, 31, 31⟩
abbrev HTP_VMON_VWARN (i : Nat) : Fld := ⟨0xc00380 + 0x4 * i, 30, 30⟩
abbrev HTP_VMON_MV (i : Nat) : Fld := ⟨0xc00380 + 0x4 * i, 15, 0⟩
abbrev HTP_GAUGE_CTL : Fld := ⟨0xc00400, 31, 0⟩
abbrev HTP_GAUGE_CTL_SNAP : Fld := ⟨0xc00400, 31, 31⟩
abbrev HTP_GAUGE_MASK : Fld := ⟨0xc00404, 31, 0⟩
abbrev HTP_GAUGE_ORIGIN (i : Nat) : Fld := ⟨0xc02004 + 0x200 * i, 31, 0⟩
abbrev HTP_GAUGE_WIDTH (i : Nat) : Fld := ⟨0xc02008 + 0x200 * i, 31, 0⟩
abbrev HTP_GAUGE_MIN (i : Nat) : Fld := ⟨0xc02010 + 0x200 * i, 31, 0⟩
abbrev HTP_GAUGE_MAX (i : Nat) : Fld := ⟨0xc02014 + 0x200 * i, 31, 0⟩
abbrev HTP_GAUGE_SUM_LO (i : Nat) : Fld := ⟨0xc02018 + 0x200 * i, 31, 0⟩
abbrev HTP_GAUGE_SUM_HI (i : Nat) : Fld := ⟨0xc0201c + 0x200 * i, 31, 0⟩
abbrev HTP_GAUGE_COUNT_LO (i : Nat) : Fld := ⟨0xc02020 + 0x200 * i, 31, 0⟩
abbrev HTP_GAUGE_COUNT_HI (i : Nat) : Fld := ⟨0xc02024 + 0x200 * i, 31, 0⟩
abbrev HTP_GAUGE_COUNT_HI_V (i : Nat) : Fld := ⟨0xc02024 + 0x200 * i, 15, 0⟩
abbrev HTP_GAUGE_BIN (i : Nat) (j : Nat) : Fld := ⟨0xc02100 + 0x200 * i + 0x4 * j, 31, 0⟩
abbrev HTP_KPR_RET (i : Nat) : Fld := ⟨0xc01000 + 0x4 * i, 31, 0⟩
abbrev HTP_KPR_EVT (i : Nat) (j : Nat) : Fld := ⟨0xc01800 + 0x20 * i + 0x4 * j, 31, 0⟩

end Reg

namespace Regs

def devRows0 : List RegRow := [
  ⟨"CS_MASK", 0x400, 0x100000, 1, 0x100000, 1, 0x0, .rw, .none, 0x1fff, 0x0, 0x0, 0x0⟩,
  ⟨"CS_COMMIT", 0x404, 0x100000, 1, 0x100000, 1, 0x0, .wr, .none, 0x0, 0x0, 0x0, 0x1⟩,
  ⟨"CS_STATUS", 0x408, 0x100000, 1, 0x100000, 1, 0x0, .ro, .none, 0x0, 0x0, 0x0, 0x0⟩,
  ⟨"CS_APPLY_FRAME", 0x40c, 0x100000, 1, 0x100000, 1, 0x0, .rw, .none, 0xbfffffff, 0x0, 0x0, 0x0⟩,
  ⟨"DEV_PATH_CFG", 0x1000, 0x20, 64, 0x100000, 1, 0x0, .rws, .none, 0xff71, 0x0, 0x0, 0x0⟩,
  ⟨"DEV_PATH_LIMIT", 0x1004, 0x20, 64, 0x100000, 1, 0x0, .rws, .none, 0xffffffff, 0x0, 0x0, 0x0⟩,
  ⟨"DEV_PATH_SHED", 0x1010, 0x20, 64, 0x100000, 1, 0x0, .ro, .none, 0x0, 0x0, 0x0, 0x0⟩,
  ⟨"DEV_LDG_CTL", 0x440, 0x100000, 1, 0x100000, 1, 0xa030401, .rws, .none, 0xffffff0f, 0x0, 0x0, 0x0⟩,
  ⟨"DEV_LDG_STATUS", 0x448, 0x100000, 1, 0x100000, 1, 0x0, .ro, .none, 0x0, 0x0, 0x0, 0x0⟩,
  ⟨"DEV_LDG_FAIL", 0x44c, 0x100000, 1, 0x100000, 1, 0x0, .ro, .none, 0x0, 0x0, 0x0, 0x0⟩,
  ⟨"DEV_INT_VEC", 0x740, 0x4, 13, 0x100000, 1, 0x0, .rw, .none, 0xc00f07ff, 0x0, 0x0, 0x0⟩,
  ⟨"DEV_GPIO_FN", 0x800, 0x4, 32, 0x100000, 1, 0x0, .rw, .none, 0xff000003, 0x0, 0x0, 0x0⟩,
  ⟨"DEV_VARIANT", 0x0, 0x100000, 1, 0x100000, 1, 0x0, .ro, .none, 0x0, 0x0, 0x0, 0x0⟩,
  ⟨"DEV_UNITS_PRESENT", 0x4, 0x100000, 1, 0x100000, 1, 0x0, .ro, .none, 0x0, 0x0, 0x0, 0x0⟩,
  ⟨"DEV_STEPPING", 0x8, 0x100000, 1, 0x100000, 1, 0x1, .ro, .none, 0x0, 0x0, 0x0, 0x0⟩,
  ⟨"DEV_VIEW", 0x10, 0x100000, 1, 0x100000, 1, 0x0, .rw, .none, 0x1, 0x0, 0x0, 0x0⟩,
  ⟨"DEV_EVT_STATUS", 0x20, 0x100000, 1, 0x100000, 1, 0x0, .w1c, .none, 0x0, 0x7f, 0x0, 0x0⟩,
  ⟨"DEV_EVT_ENABLE", 0x24, 0x100000, 1, 0x100000, 1, 0x0, .rw, .none, 0x7f, 0x0, 0x0, 0x0⟩,
  ⟨"DEV_EVT_FORCE", 0x28, 0x100000, 1, 0x100000, 1, 0x0, .wr, .none, 0x0, 0x0, 0x0, 0x7f⟩,
  ⟨"DEV_LDG_HOST_BW", 0x444, 0x100000, 1, 0x100000, 1, 0x0, .rws, .none, 0xffffffff, 0x0, 0x0, 0x0⟩,
  ⟨"DEV_CONFLICT_RES", 0x450, 0x100000, 1, 0x100000, 1, 0x0, .ro, .none, 0x0, 0x0, 0x0, 0x0⟩,
  ⟨"DEV_CONFLICT_HOLDER", 0x454, 0x100000, 1, 0x100000, 1, 0x0, .ro, .none, 0x0, 0x0, 0x0, 0x0⟩,
  ⟨"DEV_CONFLICT_CLAIMANT", 0x458, 0x100000, 1, 0x100000, 1, 0x0, .ro, .none, 0x0, 0x0, 0x0, 0x0⟩,
  ⟨"DEV_PATH_BOUND", 0x1008, 0x20, 64, 0x100000, 1, 0x0, .ro, .none, 0x0, 0x0, 0x0, 0x0⟩,
  ⟨"DEV_PATH_BOUND_L0", 0x100c, 0x20, 64, 0x100000, 1, 0x0, .ro, .none, 0x0, 0x0, 0x0, 0x0⟩,
  ⟨"DEV_PATH_FRAME_LO", 0x1014, 0x20, 64, 0x100000, 1, 0x0, .ro, .none, 0x0, 0x0, 0x0, 0x0⟩,
  ⟨"DEV_PATH_FRAME_HI", 0x1018, 0x20, 64, 0x100000, 1, 0x0, .ro, .none, 0x0, 0x0, 0x0, 0x0⟩,
  ⟨"DEV_EVLOG_BASE_LO", 0x600, 0x100000, 1, 0x100000, 1, 0x0, .ro, .none, 0x0, 0x0, 0x0, 0x0⟩,
  ⟨"DEV_EVLOG_BASE_HI", 0x604, 0x100000, 1, 0x100000, 1, 0x0, .ro, .none, 0x0, 0x0, 0x0, 0x0⟩,
  ⟨"DEV_EVLOG_SEQ", 0x608, 0x100000, 1, 0x100000, 1, 0x0, .ro, .none, 0x0, 0x0, 0x0, 0x0⟩]

def devRows1 : List RegRow := [
  ⟨"DEV_CNT_EVT_DROP", 0x60c, 0x100000, 1, 0x100000, 1, 0x0, .ro, .none, 0x0, 0x0, 0x0, 0x0⟩,
  ⟨"DEV_CNT_REPLY_DROP", 0x610, 0x100000, 1, 0x100000, 1, 0x0, .ro, .none, 0x0, 0x0, 0x0, 0x0⟩,
  ⟨"DEV_GRAFT_ADDR_LO", 0x680, 0x100000, 1, 0x100000, 1, 0x0, .rw, .none, 0xffffffff, 0x0, 0x0, 0x0⟩,
  ⟨"DEV_GRAFT_ADDR_HI", 0x684, 0x100000, 1, 0x100000, 1, 0x0, .rw, .none, 0xff, 0x0, 0x0, 0x0⟩,
  ⟨"DEV_GRAFT_STATUS", 0x688, 0x100000, 1, 0x100000, 1, 0x0, .ro, .none, 0x0, 0x0, 0x0, 0x0⟩,
  ⟨"DEV_LDG_GRAFTABLE", 0x68c, 0x100000, 1, 0x100000, 1, 0x0, .ro, .none, 0x0, 0x0, 0x0, 0x0⟩,
  ⟨"DEV_INT_STATUS", 0x700, 0x100000, 1, 0x100000, 1, 0x0, .ro, .none, 0x0, 0x0, 0x0, 0x0⟩,
  ⟨"DEV_SNAP_ADDR_LO", 0x780, 0x100000, 1, 0x100000, 1, 0x0, .rw, .none, 0xffffffff, 0x0, 0x0, 0x0⟩,
  ⟨"DEV_SNAP_ADDR_HI", 0x784, 0x100000, 1, 0x100000, 1, 0x0, .rw, .none, 0xff, 0x0, 0x0, 0x0⟩,
  ⟨"DEV_SNAP_CTL", 0x788, 0x100000, 1, 0x100000, 1, 0x0, .wr, .none, 0x0, 0x0, 0x0, 0x1⟩,
  ⟨"DEV_GPIO_IN", 0x880, 0x100000, 1, 0x100000, 1, 0x0, .ro, .none, 0x0, 0x0, 0x0, 0x0⟩]

/-- Register groups of the DEV window. -/
def devRows : List RegRow := devRows0 ++ devRows1

def unitRows0 : List RegRow := [
  ⟨"UNIT_CTL", 0x8, 0x100000, 1, 0x100000, 1, 0x0, .rw, .none, 0x3, 0x0, 0x30, 0x0⟩,
  ⟨"UNIT_STATE", 0x24, 0x100000, 1, 0x100000, 1, 0x0, .ro, .none, 0x0, 0x0, 0x0, 0x0⟩,
  ⟨"UNIT_DRAIN_TIME", 0x30, 0x100000, 1, 0x100000, 1, 0x14, .rw, .none, 0xffff, 0x0, 0x0, 0x0⟩,
  ⟨"UNIT_ID", 0x0, 0x100000, 1, 0x100000, 1, 0x0, .ro, .none, 0x0, 0x0, 0x0, 0x0⟩,
  ⟨"UNIT_CAP", 0x4, 0x100000, 1, 0x100000, 1, 0x0, .ro, .none, 0x0, 0x0, 0x0, 0x0⟩,
  ⟨"UNIT_STATUS", 0xc, 0x100000, 1, 0x100000, 1, 0x0, .ro, .none, 0x0, 0x0, 0x0, 0x0⟩,
  ⟨"UNIT_REFUSE", 0x10, 0x100000, 1, 0x100000, 1, 0x0, .ro, .none, 0x0, 0x0, 0x0, 0x0⟩,
  ⟨"UNIT_VIEW", 0x14, 0x100000, 1, 0x100000, 1, 0x0, .rw, .none, 0x1, 0x0, 0x0, 0x0⟩,
  ⟨"UNIT_INT_STATUS", 0x18, 0x100000, 1, 0x100000, 1, 0x0, .w1c, .none, 0x0, 0xffffffff, 0x0, 0x0⟩,
  ⟨"UNIT_INT_ENABLE", 0x1c, 0x100000, 1, 0x100000, 1, 0x0, .rw, .none, 0xffffffff, 0x0, 0x0, 0x0⟩,
  ⟨"UNIT_INT_FORCE", 0x20, 0x100000, 1, 0x100000, 1, 0x0, .wr, .none, 0x0, 0x0, 0x0, 0xffffffff⟩,
  ⟨"UNIT_ERR_COUNT", 0x28, 0x100000, 1, 0x100000, 1, 0x0, .ro, .none, 0x0, 0x0, 0x0, 0x0⟩,
  ⟨"UNIT_EVENT_SEQ", 0x2c, 0x100000, 1, 0x100000, 1, 0x0, .ro, .none, 0x0, 0x0, 0x0, 0x0⟩,
  ⟨"UNIT_REFUSE_OFS", 0x34, 0x100000, 1, 0x100000, 1, 0x0, .ro, .none, 0x0, 0x0, 0x0, 0x0⟩]

/-- Register groups of the UNIT window. -/
def unitRows : List RegRow := unitRows0

def slrRows0 : List RegRow := [
  ⟨"SLR_LINK_CFG", 0x100, 0x80, 2, 0x100000, 1, 0xc020000, .rws, .frame, 0xff0703ff, 0x0, 0x0, 0x0⟩,
  ⟨"SLR_LINK_FMT", 0x104, 0x80, 2, 0x100000, 1, 0x0, .rws, .frame, 0xffffffff, 0x0, 0x0, 0x0⟩,
  ⟨"SLR_LINK_CTL", 0x120, 0x80, 2, 0x100000, 1, 0x0, .wr, .none, 0x0, 0x0, 0x0, 0xf⟩,
  ⟨"SLR_LINK_STATUS", 0x124, 0x80, 2, 0x100000, 1, 0x0, .ro, .none, 0x0, 0x0, 0x0, 0x0⟩,
  ⟨"SLR_LANE_CFG", 0x1000, 0x40, 32, 0x100000, 1, 0x80, .rws, .frame, 0xcffff0ff, 0x0, 0x0, 0x0⟩,
  ⟨"SLR_LANE_TEST", 0x1014, 0x40, 32, 0x100000, 1, 0x30000000, .rw, .none, 0xfeff0000, 0x0, 0x0, 0x6⟩,
  ⟨"SLR_TRIG_CFG", 0x300, 0x10, 4, 0x100000, 1, 0x0, .rws, .frame, 0xe0000000, 0x0, 0x0, 0x0⟩,
  ⟨"SLR_LINK_OB", 0x108, 0x80, 2, 0x100000, 1, 0x0, .rws, .frame, 0x1ff, 0x0, 0x0, 0x0⟩,
  ⟨"SLR_LINK_TRD", 0x10c, 0x80, 2, 0x100000, 1, 0x0, .rws, .frame, 0xffffffff, 0x0, 0x0, 0x0⟩,
  ⟨"SLR_LINK_RATE", 0x110, 0x80, 2, 0x100000, 1, 0x0, .rws, .frame, 0xffffffff, 0x0, 0x0, 0x0⟩,
  ⟨"SLR_SOF_LAT", 0x128, 0x80, 2, 0x100000, 1, 0x0, .ro, .none, 0x0, 0x0, 0x0, 0x0⟩,
  ⟨"SLR_SOF_SEQ", 0x130, 0x80, 2, 0x100000, 1, 0x0, .ro, .none, 0x0, 0x0, 0x0, 0x0⟩,
  ⟨"SLR_SOF_S_HI", 0x134, 0x80, 2, 0x100000, 1, 0x0, .ro, .none, 0x0, 0x0, 0x0, 0x0⟩,
  ⟨"SLR_SOF_S_LO", 0x138, 0x80, 2, 0x100000, 1, 0x0, .ro, .none, 0x0, 0x0, 0x0, 0x0⟩,
  ⟨"SLR_SOF_NS", 0x13c, 0x80, 2, 0x100000, 1, 0x0, .ro, .none, 0x0, 0x0, 0x0, 0x0⟩,
  ⟨"SLR_CNT_HCRC", 0x140, 0x80, 2, 0x100000, 1, 0x0, .ro, .none, 0x0, 0x0, 0x0, 0x0⟩,
  ⟨"SLR_CNT_PCRC", 0x144, 0x80, 2, 0x100000, 1, 0x0, .ro, .none, 0x0, 0x0, 0x0, 0x0⟩,
  ⟨"SLR_CNT_LINE_FILL", 0x148, 0x80, 2, 0x100000, 1, 0x0, .ro, .none, 0x0, 0x0, 0x0, 0x0⟩,
  ⟨"SLR_CNT_LINE_LATE", 0x14c, 0x80, 2, 0x100000, 1, 0x0, .ro, .none, 0x0, 0x0, 0x0, 0x0⟩,
  ⟨"SLR_CNT_FRAME_INCOMPLETE", 0x150, 0x80, 2, 0x100000, 1, 0x0, .ro, .none, 0x0, 0x0, 0x0, 0x0⟩,
  ⟨"SLR_CNT_FS_LOST", 0x154, 0x80, 2, 0x100000, 1, 0x0, .ro, .none, 0x0, 0x0, 0x0, 0x0⟩,
  ⟨"SLR_CNT_FS_DISCARD", 0x158, 0x80, 2, 0x100000, 1, 0x0, .ro, .none, 0x0, 0x0, 0x0, 0x0⟩,
  ⟨"SLR_CNT_LOCK_LOSS", 0x15c, 0x80, 2, 0x100000, 1, 0x0, .ro, .none, 0x0, 0x0, 0x0, 0x0⟩,
  ⟨"SLR_STAT_TEMP", 0x160, 0x80, 2, 0x100000, 1, 0x0, .ro, .none, 0x0, 0x0, 0x0, 0x0⟩,
  ⟨"SLR_TRIG_OFFSET", 0x304, 0x10, 4, 0x100000, 1, 0x0, .rws, .frame, 0xffffffff, 0x0, 0x0, 0x0⟩,
  ⟨"SLR_TRIG_WIDTH", 0x308, 0x10, 4, 0x100000, 1, 0x0, .rws, .frame, 0xffffffff, 0x0, 0x0, 0x0⟩,
  ⟨"SLR_REFCLK", 0x380, 0x4, 2, 0x100000, 1, 0x0, .rw, .none, 0xffffffff, 0x0, 0x0, 0x0⟩,
  ⟨"SLR_PAT_CFG", 0x400, 0x100000, 1, 0x100000, 1, 0x0, .rws, .frame, 0xf000ffff, 0x0, 0x0, 0x0⟩,
  ⟨"SLR_PAT_ADDR_LO", 0x404, 0x100000, 1, 0x100000, 1, 0x0, .rws, .frame, 0xffffffff, 0x0, 0x0, 0x0⟩,
  ⟨"SLR_PAT_ADDR_HI", 0x408, 0x100000, 1, 0x100000, 1, 0x0, .rws, .frame, 0xff, 0x0, 0x0, 0x0⟩]

def slrRows1 : List RegRow := [
  ⟨"SLR_PAT_BAR", 0x410, 0x4, 8, 0x100000, 1, 0x0, .rws, .frame, 0xffff, 0x0, 0x0, 0x0⟩,
  ⟨"SLR_SCTL_PUSH", 0x500, 0x10, 3, 0x100000, 1, 0x0, .wr, .none, 0x0, 0x0, 0x0, 0xffffffff⟩,
  ⟨"SLR_SCTL_RESULT", 0x504, 0x10, 3, 0x100000, 1, 0x0, .ro, .none, 0x0, 0x0, 0x0, 0x0⟩,
  ⟨"SLR_LANE_STATUS", 0x1004, 0x40, 32, 0x100000, 1, 0x0, .ro, .none, 0x0, 0x0, 0x0, 0x0⟩,
  ⟨"SLR_LANE_EYE", 0x1008, 0x40, 32, 0x100000, 1, 0x0, .ro, .none, 0x0, 0x0, 0x0, 0x0⟩,
  ⟨"SLR_CNT_MARKER", 0x100c, 0x40, 32, 0x100000, 1, 0x0, .ro, .none, 0x0, 0x0, 0x0, 0x0⟩,
  ⟨"SLR_CNT_STUFF", 0x1010, 0x40, 32, 0x100000, 1, 0x0, .ro, .none, 0x0, 0x0, 0x0, 0x0⟩,
  ⟨"SLR_LANE_INJ_PERIOD", 0x1018, 0x40, 32, 0x100000, 1, 0x0, .rw, .none, 0xffffffff, 0x0, 0x0, 0x0⟩,
  ⟨"SLR_PRBS_ERR", 0x101c, 0x40, 32, 0x100000, 1, 0x0, .ro, .none, 0x0, 0x0, 0x0, 0x0⟩,
  ⟨"SLR_PRBS_BITS_LO", 0x1020, 0x40, 32, 0x100000, 1, 0x0, .ro, .none, 0x0, 0x0, 0x0, 0x0⟩,
  ⟨"SLR_PRBS_BITS_HI", 0x1024, 0x40, 32, 0x100000, 1, 0x0, .ro, .none, 0x0, 0x0, 0x0, 0x0⟩,
  ⟨"SLR_INJ_CNT", 0x1028, 0x40, 32, 0x100000, 1, 0x0, .ro, .none, 0x0, 0x0, 0x0, 0x0⟩]

/-- Register groups of the SLR window. -/
def slrRows : List RegRow := slrRows0 ++ slrRows1

def rfeRows0 : List RegRow := [
  ⟨"RFE_CFG", 0x100, 0x100000, 1, 0x100000, 1, 0x5400007c, .rws, .frame, 0xff00007e, 0x0, 0x0, 0x0⟩,
  ⟨"RFE_CHMAP", 0x10c, 0x100000, 1, 0x100000, 1, 0x1, .rws, .frame, 0xffffffff, 0x0, 0x0, 0x0⟩,
  ⟨"RFE_DG_CFG", 0x110, 0x100000, 1, 0x100000, 1, 0x4000000, .rws, .frame, 0xffff0007, 0x0, 0x0, 0x0⟩,
  ⟨"RFE_DYN_CFG", 0x12c, 0x100000, 1, 0x100000, 1, 0x200800, .rws, .frame, 0xc0ffffff, 0x0, 0x0, 0x0⟩,
  ⟨"RFE_FF_CFG", 0x138, 0x100000, 1, 0x100000, 1, 0x0, .rws, .frame, 0xdfff1fff, 0x0, 0x0, 0x0⟩,
  ⟨"RFE_TBL_CTL", 0x140, 0x100000, 1, 0x100000, 1, 0x0, .wr, .none, 0x0, 0x0, 0x0, 0x7⟩,
  ⟨"RFE_TBL_STATUS", 0x144, 0x100000, 1, 0x100000, 1, 0x0, .ro, .none, 0x0, 0x0, 0x0, 0x0⟩,
  ⟨"RFE_CAL_CFG", 0x200, 0x100000, 1, 0x100000, 1, 0x44430, .rw, .none, 0xf70fffff, 0x0, 0x0, 0x0⟩,
  ⟨"RFE_CAL_CTL", 0x220, 0x100000, 1, 0x100000, 1, 0x0, .wr, .none, 0x0, 0x0, 0x0, 0x3f⟩,
  ⟨"RFE_CAL_STATE", 0x240, 0x100000, 1, 0x100000, 1, 0x0, .ro, .none, 0x0, 0x0, 0x0, 0x0⟩,
  ⟨"RFE_PEDESTAL", 0x104, 0x100000, 1, 0x100000, 1, 0x1000, .rws, .frame, 0xffff, 0x0, 0x0, 0x0⟩,
  ⟨"RFE_ORIGIN", 0x108, 0x100000, 1, 0x100000, 1, 0x0, .rws, .frame, 0x7fff7fff, 0x0, 0x0, 0x0⟩,
  ⟨"RFE_DG_PED", 0x114, 0x100000, 1, 0x100000, 1, 0x0, .rws, .frame, 0xffffffff, 0x0, 0x0, 0x0⟩,
  ⟨"RFE_DG_KNEE", 0x118, 0x100000, 1, 0x100000, 1, 0x0, .rws, .frame, 0xffffffff, 0x0, 0x0, 0x0⟩,
  ⟨"RFE_DMT_BASE_LO", 0x120, 0x100000, 1, 0x100000, 1, 0x0, .rws, .frame, 0xffffffff, 0x0, 0x0, 0x0⟩,
  ⟨"RFE_DMT_BASE_HI", 0x124, 0x100000, 1, 0x100000, 1, 0x0, .rws, .frame, 0xff, 0x0, 0x0, 0x0⟩,
  ⟨"RFE_DMT_COUNT", 0x128, 0x100000, 1, 0x100000, 1, 0x0, .rws, .frame, 0x7fffff, 0x0, 0x0, 0x0⟩,
  ⟨"RFE_FF_BASE_LO", 0x130, 0x100000, 1, 0x100000, 1, 0x0, .rws, .frame, 0xffffffff, 0x0, 0x0, 0x0⟩,
  ⟨"RFE_FF_BASE_HI", 0x134, 0x100000, 1, 0x100000, 1, 0x0, .rws, .frame, 0xff, 0x0, 0x0, 0x0⟩,
  ⟨"RFE_TBL_MASTER_LO", 0x148, 0x100000, 1, 0x100000, 1, 0x0, .rws, .frame, 0xffffffff, 0x0, 0x0, 0x0⟩,
  ⟨"RFE_TBL_MASTER_HI", 0x14c, 0x100000, 1, 0x100000, 1, 0x0, .rws, .frame, 0xff, 0x0, 0x0, 0x0⟩,
  ⟨"RFE_DMT_STATUS", 0x150, 0x100000, 1, 0x100000, 1, 0x0, .ro, .none, 0x0, 0x0, 0x0, 0x0⟩,
  ⟨"RFE_REC_CFG", 0x154, 0x100000, 1, 0x100000, 1, 0x0, .rws, .frame, 0x77, 0x0, 0x0, 0x0⟩,
  ⟨"RFE_FRAME_SEQ", 0x15c, 0x100000, 1, 0x100000, 1, 0x0, .ro, .none, 0x0, 0x0, 0x0, 0x0⟩,
  ⟨"RFE_CNT_DMT_APPLIED", 0x160, 0x100000, 1, 0x100000, 1, 0x0, .ro, .none, 0x0, 0x0, 0x0, 0x0⟩,
  ⟨"RFE_CNT_DMT_SKIPPED", 0x164, 0x100000, 1, 0x100000, 1, 0x0, .ro, .none, 0x0, 0x0, 0x0, 0x0⟩,
  ⟨"RFE_CNT_DYN_COUNT", 0x168, 0x100000, 1, 0x100000, 1, 0x0, .ro, .none, 0x0, 0x0, 0x0, 0x0⟩,
  ⟨"RFE_CNT_CLIP", 0x16c, 0x100000, 1, 0x100000, 1, 0x0, .ro, .none, 0x0, 0x0, 0x0, 0x0⟩,
  ⟨"RFE_CNT_POISON_TILES", 0x170, 0x100000, 1, 0x100000, 1, 0x0, .ro, .none, 0x0, 0x0, 0x0, 0x0⟩,
  ⟨"RFE_CNT_PARITY", 0x174, 0x100000, 1, 0x100000, 1, 0x0, .ro, .none, 0x0, 0x0, 0x0, 0x0⟩]

def rfeRows1 : List RegRow := [
  ⟨"RFE_CNT_DMT_READ_ERR", 0x178, 0x100000, 1, 0x100000, 1, 0x0, .ro, .none, 0x0, 0x0, 0x0, 0x0⟩,
  ⟨"RFE_CNT_CONCEAL", 0x17c, 0x100000, 1, 0x100000, 1, 0x0, .ro, .none, 0x0, 0x0, 0x0, 0x0⟩,
  ⟨"RFE_CAL_TEMP_DELTA", 0x204, 0x100000, 1, 0x100000, 1, 0x30, .rw, .none, 0xffffffff, 0x0, 0x0, 0x0⟩,
  ⟨"RFE_CAL_OBCOL", 0x208, 0x100000, 1, 0x100000, 1, 0x0, .rw, .none, 0xffff7fff, 0x0, 0x0, 0x0⟩,
  ⟨"RFE_CAL_OB_CLIP", 0x20c, 0x100000, 1, 0x100000, 1, 0x400, .rw, .none, 0xffff, 0x0, 0x0, 0x0⟩,
  ⟨"RFE_CAL_SEAM", 0x210, 0x100000, 1, 0x100000, 1, 0x4000200, .rw, .none, 0xffffffff, 0x0, 0x0, 0x0⟩,
  ⟨"RFE_CAL_SEAM_WIN", 0x214, 0x100000, 1, 0x100000, 1, 0x80000800, .rw, .none, 0xffffffff, 0x0, 0x0, 0x0⟩,
  ⟨"RFE_CAL_REF", 0x224, 0x100000, 1, 0x100000, 1, 0x10000400, .rw, .none, 0xff80ffff, 0x0, 0x0, 0x0⟩,
  ⟨"RFE_CAL_OUT_LO", 0x228, 0x100000, 1, 0x100000, 1, 0x0, .rw, .none, 0xffffffff, 0x0, 0x0, 0x0⟩,
  ⟨"RFE_CAL_OUT_HI", 0x22c, 0x100000, 1, 0x100000, 1, 0x0, .rw, .none, 0xff, 0x0, 0x0, 0x0⟩,
  ⟨"RFE_CAL_DEFECT_MAX", 0x230, 0x100000, 1, 0x100000, 1, 0x0, .rw, .none, 0x7fffff, 0x0, 0x0, 0x0⟩,
  ⟨"RFE_CAL_TEMP_NOW", 0x244, 0x100000, 1, 0x100000, 1, 0x0, .ro, .none, 0x0, 0x0, 0x0, 0x0⟩,
  ⟨"RFE_CAL_LAST_TEMP", 0x248, 0x100000, 1, 0x100000, 1, 0x0, .ro, .none, 0x0, 0x0, 0x0, 0x0⟩,
  ⟨"RFE_CAL_COUNT", 0x24c, 0x100000, 1, 0x100000, 1, 0x0, .ro, .none, 0x0, 0x0, 0x0, 0x0⟩,
  ⟨"RFE_CAL_LAST_S_HI", 0x250, 0x100000, 1, 0x100000, 1, 0x0, .ro, .none, 0x0, 0x0, 0x0, 0x0⟩,
  ⟨"RFE_CAL_LAST_S_LO", 0x254, 0x100000, 1, 0x100000, 1, 0x0, .ro, .none, 0x0, 0x0, 0x0, 0x0⟩,
  ⟨"RFE_CAL_LAST_NS", 0x258, 0x100000, 1, 0x100000, 1, 0x0, .ro, .none, 0x0, 0x0, 0x0, 0x0⟩,
  ⟨"RFE_CAL_ABANDONED", 0x25c, 0x100000, 1, 0x100000, 1, 0x0, .ro, .none, 0x0, 0x0, 0x0, 0x0⟩,
  ⟨"RFE_CAL_DEFECTS", 0x260, 0x100000, 1, 0x100000, 1, 0x0, .ro, .none, 0x0, 0x0, 0x0, 0x0⟩,
  ⟨"RFE_CAL_FF_CLAMP", 0x264, 0x100000, 1, 0x100000, 1, 0x0, .ro, .none, 0x0, 0x0, 0x0, 0x0⟩]

/-- Register groups of the RFE window. -/
def rfeRows : List RegRow := rfeRows0 ++ rfeRows1

def cseRows0 : List RegRow := [
  ⟨"CSE_SCN_CFG", 0x100, 0x100000, 1, 0x100000, 1, 0x200000, .rws, .frame, 0xcfff0100, 0x0, 0x0, 0x0⟩,
  ⟨"CSE_TNR_CFG", 0x200, 0x100000, 1, 0x100000, 1, 0x10c0, .rws, .frame, 0xc3ff33ff, 0x0, 0x0, 0x0⟩,
  ⟨"CSE_TNR_CTL", 0x220, 0x100000, 1, 0x100000, 1, 0x0, .wr, .none, 0x0, 0x0, 0x0, 0x3⟩,
  ⟨"CSE_TNR_STATUS", 0x240, 0x100000, 1, 0x100000, 1, 0x0, .ro, .none, 0x0, 0x0, 0x0, 0x0⟩,
  ⟨"RP_CFG", 0x1000, 0x400, 8, 0x100000, 1, 0x0, .rws, .frame, 0xbf000000, 0x0, 0x0, 0x0⟩,
  ⟨"RP_TF_CFG", 0x1080, 0x400, 8, 0x100000, 1, 0x20000064, .rws, .frame, 0xfc00ffff, 0x0, 0x0, 0x0⟩,
  ⟨"RP_ENC_CFG", 0x1088, 0x400, 8, 0x100000, 1, 0x400000, .rws, .frame, 0xf3f80000, 0x0, 0x0, 0x0⟩,
  ⟨"RP_LUT_STATUS", 0x109c, 0x400, 8, 0x100000, 1, 0x0, .ro, .none, 0x0, 0x0, 0x0, 0x0⟩,
  ⟨"CSE_IN_SCALE", 0x104, 0x100000, 1, 0x100000, 1, 0x378888, .rws, .frame, 0xffffff, 0x0, 0x0, 0x0⟩,
  ⟨"CSE_WB_R", 0x108, 0x100000, 1, 0x100000, 1, 0x3f8000, .rws, .frame, 0xffffff, 0x0, 0x0, 0x0⟩,
  ⟨"CSE_WB_G", 0x10c, 0x100000, 1, 0x100000, 1, 0x3f8000, .rws, .frame, 0xffffff, 0x0, 0x0, 0x0⟩,
  ⟨"CSE_WB_B", 0x110, 0x100000, 1, 0x100000, 1, 0x3f8000, .rws, .frame, 0xffffff, 0x0, 0x0, 0x0⟩,
  ⟨"CSE_CLIP", 0x114, 0x100000, 1, 0x100000, 1, 0xfff0, .rws, .frame, 0xffff, 0x0, 0x0, 0x0⟩,
  ⟨"CSE_MTX", 0x140, 0x100000, 1, 0x100000, 1, 0x3f8000, .rws, .frame, 0xffffff, 0x0, 0x0, 0x0⟩,
  ⟨"CSE_MTX", 0x16c, 0x100000, 1, 0x100000, 1, 0x3f8000, .rws, .frame, 0xffffff, 0x0, 0x0, 0x0⟩,
  ⟨"CSE_MTX", 0x198, 0x100000, 1, 0x100000, 1, 0x3f8000, .rws, .frame, 0xffffff, 0x0, 0x0, 0x0⟩,
  ⟨"CSE_MTX", 0x140, 0x4, 30, 0x100000, 1, 0x0, .rws, .frame, 0xffffff, 0x0, 0x0, 0x0⟩,
  ⟨"CSE_TNR_N0", 0x204, 0x100000, 1, 0x100000, 1, 0x358637, .rws, .frame, 0xffffff, 0x0, 0x0, 0x0⟩,
  ⟨"CSE_TNR_N1", 0x208, 0x100000, 1, 0x100000, 1, 0x3951b7, .rws, .frame, 0xffffff, 0x0, 0x0, 0x0⟩,
  ⟨"CSE_TNR_THR", 0x20c, 0x100000, 1, 0x100000, 1, 0x100030, .rws, .frame, 0xffffff, 0x0, 0x0, 0x0⟩,
  ⟨"CSE_FRAME_SEQ", 0x25c, 0x100000, 1, 0x100000, 1, 0x0, .ro, .none, 0x0, 0x0, 0x0, 0x0⟩,
  ⟨"CSE_CNT_MF_FALLBACK", 0x260, 0x100000, 1, 0x100000, 1, 0x0, .ro, .none, 0x0, 0x0, 0x0, 0x0⟩,
  ⟨"CSE_CNT_MF_CLAMP", 0x264, 0x100000, 1, 0x100000, 1, 0x0, .ro, .none, 0x0, 0x0, 0x0, 0x0⟩,
  ⟨"CSE_CNT_MF_DROP", 0x268, 0x100000, 1, 0x100000, 1, 0x0, .ro, .none, 0x0, 0x0, 0x0, 0x0⟩,
  ⟨"CSE_CNT_HIST_LOST", 0x26c, 0x100000, 1, 0x100000, 1, 0x0, .ro, .none, 0x0, 0x0, 0x0, 0x0⟩,
  ⟨"CSE_CNT_PARITY", 0x270, 0x100000, 1, 0x100000, 1, 0x0, .ro, .none, 0x0, 0x0, 0x0, 0x0⟩,
  ⟨"CSE_CNT_LB_REFILL", 0x274, 0x100000, 1, 0x100000, 1, 0x0, .ro, .none, 0x0, 0x0, 0x0, 0x0⟩,
  ⟨"CSE_CNT_CONCEAL", 0x278, 0x100000, 1, 0x100000, 1, 0x0, .ro, .none, 0x0, 0x0, 0x0, 0x0⟩,
  ⟨"RP_CROP_XY", 0x1004, 0x400, 8, 0x100000, 1, 0x0, .rws, .frame, 0x7fff7fff, 0x0, 0x0, 0x0⟩,
  ⟨"RP_CROP_WH", 0x1008, 0x400, 8, 0x100000, 1, 0x0, .rws, .frame, 0x7fff7fff, 0x0, 0x0, 0x0⟩]

def cseRows1 : List RegRow := [
  ⟨"RP_OUT_SIZE", 0x100c, 0x400, 8, 0x100000, 1, 0x0, .rws, .frame, 0x3fff7fff, 0x0, 0x0, 0x0⟩,
  ⟨"RP_SCALE", 0x1010, 0x400, 8, 0x100000, 1, 0x0, .rws, .frame, 0x33, 0x0, 0x0, 0x0⟩,
  ⟨"RP_XFORM", 0x1040, 0x400, 8, 0x100000, 1, 0x3f8000, .rws, .frame, 0xffffff, 0x0, 0x0, 0x0⟩,
  ⟨"RP_XFORM", 0x1050, 0x400, 8, 0x100000, 1, 0x3f8000, .rws, .frame, 0xffffff, 0x0, 0x0, 0x0⟩,
  ⟨"RP_XFORM", 0x1060, 0x400, 8, 0x100000, 1, 0x3f8000, .rws, .frame, 0xffffff, 0x0, 0x0, 0x0⟩,
  ⟨"RP_XFORM", 0x1040, 0x400, 8, 0x4, 9, 0x0, .rws, .frame, 0xffffff, 0x0, 0x0, 0x0⟩,
  ⟨"RP_TF_GAIN", 0x1084, 0x400, 8, 0x100000, 1, 0x3f8000, .rws, .frame, 0xffffff, 0x0, 0x0, 0x0⟩,
  ⟨"RP_LUT_ADDR_LO", 0x1090, 0x400, 8, 0x100000, 1, 0x0, .rw, .none, 0xffffffff, 0x0, 0x0, 0x0⟩,
  ⟨"RP_LUT_ADDR_HI", 0x1094, 0x400, 8, 0x100000, 1, 0x0, .rw, .none, 0xff, 0x0, 0x0, 0x0⟩,
  ⟨"RP_LUT_CTL", 0x1098, 0x400, 8, 0x100000, 1, 0x0, .wr, .none, 0x0, 0x0, 0x0, 0x1⟩,
  ⟨"RP_TBL_CTL", 0x10a0, 0x400, 8, 0x100000, 1, 0x0, .wr, .none, 0x0, 0x0, 0x0, 0x1⟩,
  ⟨"RP_TBL_STATUS", 0x10a4, 0x400, 8, 0x100000, 1, 0x0, .ro, .none, 0x0, 0x0, 0x0, 0x0⟩,
  ⟨"RP_TBL_MASTER_LO", 0x10a8, 0x400, 8, 0x100000, 1, 0x0, .rws, .frame, 0xffffffff, 0x0, 0x0, 0x0⟩,
  ⟨"RP_TBL_MASTER_HI", 0x10ac, 0x400, 8, 0x100000, 1, 0x0, .rws, .frame, 0xff, 0x0, 0x0, 0x0⟩,
  ⟨"RP_BUF_STATUS", 0x10b0, 0x400, 8, 0x100000, 1, 0x0, .ro, .none, 0x0, 0x0, 0x0, 0x0⟩,
  ⟨"RP_STAT_WIN0", 0x1100, 0x400, 8, 0x100000, 1, 0x0, .rw, .none, 0x7fff7fff, 0x0, 0x0, 0x0⟩,
  ⟨"RP_STAT_WIN1", 0x1104, 0x400, 8, 0x100000, 1, 0x0, .rw, .none, 0x7fff7fff, 0x0, 0x0, 0x0⟩,
  ⟨"RP_STAT_CFG", 0x1108, 0x400, 8, 0x100000, 1, 0x0, .rw, .none, 0x3, 0x0, 0x0, 0x0⟩,
  ⟨"RP_FRAME_SEQ", 0x1110, 0x400, 8, 0x100000, 1, 0x0, .ro, .none, 0x0, 0x0, 0x0, 0x0⟩,
  ⟨"RP_STAT_MIN", 0x1114, 0x400, 8, 0x100000, 1, 0x0, .ro, .none, 0x0, 0x0, 0x0, 0x0⟩,
  ⟨"RP_STAT_MAX", 0x1118, 0x400, 8, 0x100000, 1, 0x0, .ro, .none, 0x0, 0x0, 0x0, 0x0⟩,
  ⟨"RP_STAT_MEAN", 0x111c, 0x400, 8, 0x100000, 1, 0x0, .ro, .none, 0x0, 0x0, 0x0, 0x0⟩,
  ⟨"RP_CNT_CLAMP", 0x1120, 0x400, 8, 0x100000, 1, 0x0, .ro, .none, 0x0, 0x0, 0x0, 0x0⟩,
  ⟨"RP_CNT_RP_PARITY", 0x1124, 0x400, 8, 0x100000, 1, 0x0, .ro, .none, 0x0, 0x0, 0x0, 0x0⟩,
  ⟨"RP_FRAME_CRC", 0x1128, 0x400, 8, 0x100000, 1, 0x0, .ro, .none, 0x0, 0x0, 0x0, 0x0⟩]

/-- Register groups of the CSE window. -/
def cseRows : List RegRow := cseRows0 ++ cseRows1

def pcdRows0 : List RegRow := [
  ⟨"PCD_SES_CFG", 0x1000, 0x200, 4, 0x100000, 1, 0x4990000, .rws, .frame, 0xfeffff07, 0x0, 0x0, 0x0⟩,
  ⟨"PCD_RC_CFG", 0x1008, 0x200, 4, 0x100000, 1, 0x5ecca138, .rws, .frame, 0xfffff3ff, 0x0, 0x0, 0x0⟩,
  ⟨"PCD_SES_STATUS", 0x1034, 0x200, 6, 0x100000, 1, 0x0, .ro, .none, 0x0, 0x0, 0x0, 0x0⟩,
  ⟨"PCD_DEC_CFG", 0x1800, 0x200, 2, 0x100000, 1, 0x2, .rws, .frame, 0xf800000f, 0x0, 0x0, 0x0⟩,
  ⟨"PCD_BAND_USED", 0x100, 0x100000, 1, 0x100000, 1, 0x0, .ro, .none, 0x0, 0x0, 0x0, 0x0⟩,
  ⟨"PCD_SES_GOP", 0x1004, 0x200, 4, 0x100000, 1, 0x18, .rws, .frame, 0xffff, 0x0, 0x0, 0x0⟩,
  ⟨"PCD_RC_BITRATE", 0x100c, 0x200, 4, 0x100000, 1, 0x0, .rws, .frame, 0xffffffff, 0x0, 0x0, 0x0⟩,
  ⟨"PCD_RC_BUF", 0x1010, 0x200, 4, 0x100000, 1, 0x0, .rws, .frame, 0xffffffff, 0x0, 0x0, 0x0⟩,
  ⟨"PCD_RC_MAXPIC", 0x1014, 0x200, 4, 0x100000, 1, 0x0, .rws, .frame, 0xffffffff, 0x0, 0x0, 0x0⟩,
  ⟨"PCD_RC_WT", 0x1018, 0x200, 4, 0x100000, 1, 0x60201c18, .rws, .frame, 0xffffffff, 0x0, 0x0, 0x0⟩,
  ⟨"PCD_RC_WT2", 0x101c, 0x200, 4, 0x100000, 1, 0x14, .rws, .frame, 0xff, 0x0, 0x0, 0x0⟩,
  ⟨"PCD_SES_OUT", 0x1020, 0x200, 4, 0x100000, 1, 0x0, .rws, .frame, 0xe0000000, 0x0, 0x0, 0x0⟩,
  ⟨"PCD_MF_CFG", 0x1024, 0x200, 4, 0x100000, 1, 0x0, .rws, .frame, 0x800003ff, 0x0, 0x0, 0x0⟩,
  ⟨"PCD_MF_BASE_LO", 0x1028, 0x200, 4, 0x100000, 1, 0x0, .rws, .frame, 0xffffffff, 0x0, 0x0, 0x0⟩,
  ⟨"PCD_MF_BASE_HI", 0x102c, 0x200, 4, 0x100000, 1, 0x0, .rws, .frame, 0xff, 0x0, 0x0, 0x0⟩,
  ⟨"PCD_SES_CTL", 0x1030, 0x200, 4, 0x100000, 1, 0x0, .wr, .none, 0x0, 0x0, 0x0, 0x3⟩,
  ⟨"PCD_RC_OVERSHOOT", 0x1038, 0x200, 4, 0x100000, 1, 0x0, .ro, .none, 0x0, 0x0, 0x0, 0x0⟩,
  ⟨"PCD_RC_LAST_BITS", 0x103c, 0x200, 4, 0x100000, 1, 0x0, .ro, .none, 0x0, 0x0, 0x0, 0x0⟩,
  ⟨"PCD_RC_DEBT", 0x1040, 0x200, 4, 0x100000, 1, 0x0, .ro, .none, 0x0, 0x0, 0x0, 0x0⟩,
  ⟨"PCD_SEI_UUID", 0x1044, 0x200, 4, 0x4, 4, 0x0, .rws, .frame, 0xffffffff, 0x0, 0x0, 0x0⟩,
  ⟨"PCD_FRAME_SEQ", 0x1054, 0x200, 6, 0x100000, 1, 0x0, .ro, .none, 0x0, 0x0, 0x0, 0x0⟩,
  ⟨"PCD_CNT_PIC", 0x1058, 0x200, 4, 0x100000, 1, 0x0, .ro, .none, 0x0, 0x0, 0x0, 0x0⟩,
  ⟨"PCD_CNT_EXHAUST", 0x105c, 0x200, 4, 0x100000, 1, 0x0, .ro, .none, 0x0, 0x0, 0x0, 0x0⟩,
  ⟨"PCD_CNT_GUARD", 0x1060, 0x200, 4, 0x100000, 1, 0x0, .ro, .none, 0x0, 0x0, 0x0, 0x0⟩,
  ⟨"PCD_CNT_BUF_OVER", 0x1064, 0x200, 4, 0x100000, 1, 0x0, .ro, .none, 0x0, 0x0, 0x0, 0x0⟩,
  ⟨"PCD_CNT_REF_INTRA", 0x1068, 0x200, 4, 0x100000, 1, 0x0, .ro, .none, 0x0, 0x0, 0x0, 0x0⟩,
  ⟨"PCD_CNT_PARITY", 0x106c, 0x200, 4, 0x100000, 1, 0x0, .ro, .none, 0x0, 0x0, 0x0, 0x0⟩,
  ⟨"PCD_DEC_TAKE", 0x1804, 0x200, 2, 0x100000, 1, 0x0, .rws, .frame, 0xffff, 0x0, 0x0, 0x0⟩,
  ⟨"PCD_DEC_START", 0x1808, 0x200, 2, 0x100000, 1, 0x0, .rws, .frame, 0xffffffff, 0x0, 0x0, 0x0⟩,
  ⟨"PCD_DEC_END", 0x180c, 0x200, 2, 0x100000, 1, 0x0, .rws, .frame, 0xffffffff, 0x0, 0x0, 0x0⟩]

def pcdRows1 : List RegRow := [
  ⟨"PCD_DEC_RATE", 0x1810, 0x200, 2, 0x100000, 1, 0x0, .rws, .frame, 0xffffffff, 0x0, 0x0, 0x0⟩,
  ⟨"PCD_DEC_MAX", 0x1814, 0x200, 2, 0x100000, 1, 0x0, .rws, .frame, 0x3fff3fff, 0x0, 0x0, 0x0⟩,
  ⟨"PCD_DEC_MAXAU", 0x1818, 0x200, 2, 0x100000, 1, 0x0, .rws, .frame, 0xffffffff, 0x0, 0x0, 0x0⟩,
  ⟨"PCD_DEC_OUT_LO", 0x181c, 0x200, 2, 0x100000, 1, 0x0, .rws, .frame, 0xffffffff, 0x0, 0x0, 0x0⟩,
  ⟨"PCD_DEC_OUT_HI", 0x1820, 0x200, 2, 0x100000, 1, 0x0, .rws, .frame, 0xff, 0x0, 0x0, 0x0⟩,
  ⟨"PCD_DEC_QUEUE", 0x1824, 0x200, 2, 0x100000, 1, 0x0, .rws, .frame, 0x3ff, 0x0, 0x0, 0x0⟩,
  ⟨"PCD_DCNT_MISSING_REF", 0x1858, 0x200, 2, 0x100000, 1, 0x0, .ro, .none, 0x0, 0x0, 0x0, 0x0⟩,
  ⟨"PCD_DCNT_DATA_ERR", 0x185c, 0x200, 2, 0x100000, 1, 0x0, .ro, .none, 0x0, 0x0, 0x0, 0x0⟩,
  ⟨"PCD_DCNT_UNSUPPORTED", 0x1860, 0x200, 2, 0x100000, 1, 0x0, .ro, .none, 0x0, 0x0, 0x0, 0x0⟩,
  ⟨"PCD_DCNT_HASH", 0x1864, 0x200, 2, 0x100000, 1, 0x0, .ro, .none, 0x0, 0x0, 0x0, 0x0⟩,
  ⟨"PCD_DCNT_PARITY", 0x1868, 0x200, 2, 0x100000, 1, 0x0, .ro, .none, 0x0, 0x0, 0x0, 0x0⟩]

/-- Register groups of the PCD window. -/
def pcdRows : List RegRow := pcdRows0 ++ pcdRows1

def rpkRows0 : List RegRow := [
  ⟨"RPK_ENG_CFG", 0x1000, 0x100, 4, 0x100000, 1, 0xe000000, .rws, .frame, 0xfff80000, 0x0, 0x0, 0x0⟩,
  ⟨"RPK_ENG_STATUS", 0x1004, 0x100, 4, 0x100000, 1, 0x0, .ro, .none, 0x0, 0x0, 0x0, 0x0⟩,
  ⟨"RPK_RING_BASE_LO", 0x1008, 0x100, 4, 0x100000, 1, 0x0, .rw, .none, 0xffffffff, 0x0, 0x0, 0x0⟩,
  ⟨"RPK_RING_BASE_HI", 0x100c, 0x100, 4, 0x100000, 1, 0x0, .rw, .none, 0xff, 0x0, 0x0, 0x0⟩,
  ⟨"RPK_RING_SIZE", 0x1010, 0x100, 4, 0x100000, 1, 0x0, .rw, .none, 0x1fff, 0x0, 0x0, 0x0⟩,
  ⟨"RPK_RING_TAIL", 0x1014, 0x100, 4, 0x100000, 1, 0x0, .rw, .none, 0xfff, 0x0, 0x0, 0x0⟩,
  ⟨"RPK_RING_HEAD", 0x1018, 0x100, 4, 0x100000, 1, 0x0, .ro, .none, 0x0, 0x0, 0x0, 0x0⟩,
  ⟨"RPK_CPL_BASE_LO", 0x101c, 0x100, 4, 0x100000, 1, 0x0, .rw, .none, 0xffffffff, 0x0, 0x0, 0x0⟩,
  ⟨"RPK_CPL_BASE_HI", 0x1020, 0x100, 4, 0x100000, 1, 0x0, .rw, .none, 0xff, 0x0, 0x0, 0x0⟩,
  ⟨"RPK_CPL_HEAD", 0x1024, 0x100, 4, 0x100000, 1, 0x0, .rw, .none, 0xfff, 0x0, 0x0, 0x0⟩,
  ⟨"RPK_CPL_TAIL", 0x1028, 0x100, 4, 0x100000, 1, 0x0, .ro, .none, 0x0, 0x0, 0x0, 0x0⟩,
  ⟨"RPK_ENG_CTL", 0x102c, 0x100, 4, 0x100000, 1, 0x0, .wr, .none, 0x0, 0x0, 0x0, 0x1⟩,
  ⟨"RPK_LAST_BYTES_LO", 0x1030, 0x100, 4, 0x100000, 1, 0x0, .ro, .none, 0x0, 0x0, 0x0, 0x0⟩,
  ⟨"RPK_LAST_BYTES_HI", 0x1034, 0x100, 4, 0x100000, 1, 0x0, .ro, .none, 0x0, 0x0, 0x0, 0x0⟩,
  ⟨"RPK_ERR_TILE", 0x1038, 0x100, 4, 0x100000, 1, 0x0, .ro, .none, 0x0, 0x0, 0x0, 0x0⟩,
  ⟨"RPK_ERR_BIT_LO", 0x103c, 0x100, 4, 0x100000, 1, 0x0, .ro, .none, 0x0, 0x0, 0x0, 0x0⟩,
  ⟨"RPK_ERR_BIT_HI", 0x1040, 0x100, 4, 0x100000, 1, 0x0, .ro, .none, 0x0, 0x0, 0x0, 0x0⟩,
  ⟨"RPK_FRAME_SEQ", 0x1044, 0x100, 4, 0x100000, 1, 0x0, .ro, .none, 0x0, 0x0, 0x0, 0x0⟩,
  ⟨"RPK_CNT_JOBS", 0x1048, 0x100, 4, 0x100000, 1, 0x0, .ro, .none, 0x0, 0x0, 0x0, 0x0⟩,
  ⟨"RPK_CNT_OUT_OF_SPACE", 0x104c, 0x100, 4, 0x100000, 1, 0x0, .ro, .none, 0x0, 0x0, 0x0, 0x0⟩,
  ⟨"RPK_CNT_STRUCT", 0x1050, 0x100, 4, 0x100000, 1, 0x0, .ro, .none, 0x0, 0x0, 0x0, 0x0⟩,
  ⟨"RPK_CNT_SYNTAX", 0x1054, 0x100, 4, 0x100000, 1, 0x0, .ro, .none, 0x0, 0x0, 0x0, 0x0⟩,
  ⟨"RPK_CNT_CHECK", 0x1058, 0x100, 4, 0x100000, 1, 0x0, .ro, .none, 0x0, 0x0, 0x0, 0x0⟩,
  ⟨"RPK_CNT_READ_FAIL", 0x105c, 0x100, 4, 0x100000, 1, 0x0, .ro, .none, 0x0, 0x0, 0x0, 0x0⟩,
  ⟨"RPK_CNT_CONCEAL", 0x1060, 0x100, 4, 0x100000, 1, 0x0, .ro, .none, 0x0, 0x0, 0x0, 0x0⟩,
  ⟨"RPK_CNT_RECOMPUTE", 0x1064, 0x100, 4, 0x100000, 1, 0x0, .ro, .none, 0x0, 0x0, 0x0, 0x0⟩,
  ⟨"RPK_CNT_PARITY", 0x1068, 0x100, 4, 0x100000, 1, 0x0, .ro, .none, 0x0, 0x0, 0x0, 0x0⟩,
  ⟨"RPK_CNT_FLUSHED", 0x106c, 0x100, 4, 0x100000, 1, 0x0, .ro, .none, 0x0, 0x0, 0x0, 0x0⟩]

/-- Register groups of the RPK window. -/
def rpkRows : List RegRow := rpkRows0

def oreRows0 : List RegRow := [
  ⟨"ORE_TG_CFG", 0x1000, 0x100, 8, 0x100000, 1, 0x200000, .rws, .blanking, 0xfff00000, 0x0, 0x0, 0x0⟩,
  ⟨"ORE_TG_STATUS", 0x1010, 0x100, 8, 0x100000, 1, 0x0, .ro, .none, 0x0, 0x0, 0x0, 0x0⟩,
  ⟨"ORE_PL_CFG", 0x4000, 0x40, 16, 0x100000, 1, 0x0, .rws, .blanking, 0xffff83ff, 0x0, 0x0, 0x0⟩,
  ⟨"ORE_PNL_CTL", 0x6004, 0x100, 2, 0x100000, 1, 0x0, .wr, .none, 0x0, 0x0, 0x0, 0x7⟩,
  ⟨"ORE_TG_H", 0x1004, 0x100, 8, 0x100000, 1, 0x0, .rws, .blanking, 0x3fff3fff, 0x0, 0x0, 0x0⟩,
  ⟨"ORE_TG_V", 0x1008, 0x100, 8, 0x100000, 1, 0x0, .rws, .blanking, 0x1fff1fff, 0x0, 0x0, 0x0⟩,
  ⟨"ORE_TG_RATE", 0x100c, 0x100, 8, 0x100000, 1, 0x0, .rws, .blanking, 0xffffffff, 0x0, 0x0, 0x0⟩,
  ⟨"ORE_TG_VOFS", 0x1014, 0x100, 8, 0x100000, 1, 0x0, .rws, .blanking, 0xffffffff, 0x0, 0x0, 0x0⟩,
  ⟨"ORE_TG_CTL", 0x1018, 0x100, 8, 0x100000, 1, 0x0, .wr, .none, 0x0, 0x0, 0x0, 0x80000001⟩,
  ⟨"ORE_CNT_FRAME_REPEAT", 0x101c, 0x100, 8, 0x100000, 1, 0x0, .ro, .none, 0x0, 0x0, 0x0, 0x0⟩,
  ⟨"ORE_CNT_FRAME_HOLD", 0x1020, 0x100, 8, 0x100000, 1, 0x0, .ro, .none, 0x0, 0x0, 0x0, 0x0⟩,
  ⟨"ORE_CNP_CFG", 0x2000, 0x100, 8, 0x100000, 1, 0x0, .rws, .blanking, 0x731f, 0x0, 0x0, 0x0⟩,
  ⟨"ORE_CNP_RET_SRC_XY", 0x2004, 0x100, 8, 0x100000, 1, 0x0, .rws, .blanking, 0x1fff1fff, 0x0, 0x0, 0x0⟩,
  ⟨"ORE_CNP_RET_WH", 0x2008, 0x100, 8, 0x100000, 1, 0x0, .rws, .blanking, 0x1fff1fff, 0x0, 0x0, 0x0⟩,
  ⟨"ORE_CNP_RET_POS", 0x200c, 0x100, 8, 0x100000, 1, 0x0, .rws, .blanking, 0x1fff1fff, 0x0, 0x0, 0x0⟩,
  ⟨"ORE_CNP_OVL_LO", 0x2010, 0x100, 8, 0x100000, 1, 0x0, .rws, .blanking, 0xffffffff, 0x0, 0x0, 0x0⟩,
  ⟨"ORE_CNP_OVL_HI", 0x2014, 0x100, 8, 0x100000, 1, 0x0, .rws, .blanking, 0xff, 0x0, 0x0, 0x0⟩,
  ⟨"ORE_CNP_ASSIST", 0x2018, 0x100, 8, 0x100000, 1, 0x0, .rws, .blanking, 0xfffff000, 0x0, 0x0, 0x0⟩,
  ⟨"ORE_CNP_ASSIST_IDX", 0x201c, 0x100, 8, 0x100000, 1, 0x0, .rws, .blanking, 0xffff, 0x0, 0x0, 0x0⟩,
  ⟨"ORE_CNP_FC", 0x2020, 0x100, 8, 0x4, 16, 0x0, .rws, .blanking, 0xff, 0x0, 0x0, 0x0⟩,
  ⟨"ORE_CNP_GUIDE_A", 0x2060, 0x100, 8, 0x8, 8, 0x0, .rws, .blanking, 0x1fff1fff, 0x0, 0x0, 0x0⟩,
  ⟨"ORE_CNP_GUIDE_B", 0x2064, 0x100, 8, 0x8, 8, 0x0, .rws, .blanking, 0x1fff1fff, 0x0, 0x0, 0x0⟩,
  ⟨"ORE_CNP_GUIDE_C", 0x20a0, 0x100, 8, 0x4, 8, 0x0, .rws, .blanking, 0x800700ff, 0x0, 0x0, 0x0⟩,
  ⟨"ORE_PL_STATUS", 0x4004, 0x40, 16, 0x100000, 1, 0x0, .ro, .none, 0x0, 0x0, 0x0, 0x0⟩,
  ⟨"ORE_PL_ST352", 0x4008, 0x40, 16, 0x100000, 1, 0x0, .ro, .none, 0x0, 0x0, 0x0, 0x0⟩,
  ⟨"ORE_CNT_UNDERRUN_PIX", 0x400c, 0x40, 16, 0x100000, 1, 0x0, .ro, .none, 0x0, 0x0, 0x0, 0x0⟩,
  ⟨"ORE_CNT_UNDERRUN_EVT", 0x4010, 0x40, 16, 0x100000, 1, 0x0, .ro, .none, 0x0, 0x0, 0x0, 0x0⟩,
  ⟨"ORE_CNT_CRC_Y", 0x4014, 0x40, 16, 0x100000, 1, 0x0, .ro, .none, 0x0, 0x0, 0x0, 0x0⟩,
  ⟨"ORE_CNT_CRC_C", 0x4018, 0x40, 16, 0x100000, 1, 0x0, .ro, .none, 0x0, 0x0, 0x0, 0x0⟩,
  ⟨"ORE_CNT_CRC_LINES", 0x401c, 0x40, 16, 0x100000, 1, 0x0, .ro, .none, 0x0, 0x0, 0x0, 0x0⟩]

def oreRows1 : List RegRow := [
  ⟨"ORE_CNT_AUD_UNDER", 0x4020, 0x40, 16, 0x100000, 1, 0x0, .ro, .none, 0x0, 0x0, 0x0, 0x0⟩,
  ⟨"ORE_RI_CFG", 0x5000, 0x80, 4, 0x100000, 1, 0x0, .rws, .frame, 0xff0f33ff, 0x0, 0x0, 0x0⟩,
  ⟨"ORE_RI_FMT", 0x5004, 0x80, 4, 0x100000, 1, 0x0, .rws, .frame, 0xfc000000, 0x0, 0x0, 0x0⟩,
  ⟨"ORE_RI_BASE_LO", 0x5008, 0x80, 4, 0x100000, 1, 0x0, .rws, .frame, 0xffffffff, 0x0, 0x0, 0x0⟩,
  ⟨"ORE_RI_BASE_HI", 0x500c, 0x80, 4, 0x100000, 1, 0x0, .rws, .frame, 0xff, 0x0, 0x0, 0x0⟩,
  ⟨"ORE_RI_STATUS", 0x5010, 0x80, 4, 0x100000, 1, 0x0, .ro, .none, 0x0, 0x0, 0x0, 0x0⟩,
  ⟨"ORE_CNT_FMT_MISMATCH", 0x5014, 0x80, 4, 0x100000, 1, 0x0, .ro, .none, 0x0, 0x0, 0x0, 0x0⟩,
  ⟨"ORE_CNT_INGEST_SKIP", 0x5018, 0x80, 4, 0x100000, 1, 0x0, .ro, .none, 0x0, 0x0, 0x0, 0x0⟩,
  ⟨"ORE_CNT_RI_INCOMPLETE", 0x501c, 0x80, 4, 0x100000, 1, 0x0, .ro, .none, 0x0, 0x0, 0x0, 0x0⟩,
  ⟨"ORE_RI_RATE", 0x5020, 0x80, 4, 0x100000, 1, 0x0, .rws, .frame, 0xffffffff, 0x0, 0x0, 0x0⟩,
  ⟨"ORE_PNL_CFG", 0x6000, 0x100, 2, 0x100000, 1, 0x0, .rws, .blanking, 0xff800000, 0x0, 0x0, 0x0⟩,
  ⟨"ORE_PNL_STATUS", 0x6008, 0x100, 2, 0x100000, 1, 0x0, .ro, .none, 0x0, 0x0, 0x0, 0x0⟩,
  ⟨"ORE_PNL_AUX_CMD", 0x6010, 0x100, 2, 0x100000, 1, 0x0, .wr, .none, 0x0, 0x0, 0x0, 0xffffffff⟩,
  ⟨"ORE_PNL_AUX_DATA", 0x6020, 0x100, 2, 0x4, 4, 0x0, .rw, .none, 0xffffffff, 0x0, 0x0, 0x0⟩,
  ⟨"ORE_ETH_CFG", 0x7000, 0x100, 2, 0x100000, 1, 0x0, .rws, .frame, 0x7, 0x0, 0x0, 0x0⟩,
  ⟨"ORE_CNT_TX_DROP", 0x7004, 0x100, 2, 0x100000, 1, 0x0, .ro, .none, 0x0, 0x0, 0x0, 0x0⟩,
  ⟨"ORE_TX_CFG", 0x7400, 0x80, 8, 0x100000, 1, 0x0, .rws, .blanking, 0xfffdffff, 0x0, 0x0, 0x0⟩,
  ⟨"ORE_TX_PKT", 0x7404, 0x80, 8, 0x100000, 1, 0x0, .rws, .blanking, 0x7ff3fff, 0x0, 0x0, 0x0⟩,
  ⟨"ORE_TX_SSRC", 0x7408, 0x80, 8, 0x100000, 1, 0x0, .rws, .blanking, 0xffffffff, 0x0, 0x0, 0x0⟩,
  ⟨"ORE_TX_DST_IP", 0x740c, 0x80, 8, 0x4, 2, 0x0, .rws, .blanking, 0xffffffff, 0x0, 0x0, 0x0⟩,
  ⟨"ORE_TX_PORTS", 0x7414, 0x80, 8, 0x100000, 1, 0x0, .rws, .blanking, 0xffffffff, 0x0, 0x0, 0x0⟩]

/-- Register groups of the ORE window. -/
def oreRows : List RegRow := oreRows0 ++ oreRows1

def apuRows0 : List RegRow := [
  ⟨"APU_PORT_CFG", 0x1000, 0x100, 8, 0x100000, 1, 0x2912000, .rws, .frame, 0xfffffb00, 0x0, 0x0, 0x0⟩,
  ⟨"APU_PORT_STATUS", 0x1014, 0x100, 8, 0x100000, 1, 0x0, .ro, .none, 0x0, 0x0, 0x0, 0x0⟩,
  ⟨"APU_START_MASK", 0x100, 0x100000, 1, 0x100000, 1, 0x0, .rw, .none, 0xff, 0x0, 0x0, 0x0⟩,
  ⟨"APU_START_S_HI", 0x104, 0x100000, 1, 0x100000, 1, 0x0, .rw, .none, 0xffff, 0x0, 0x0, 0x0⟩,
  ⟨"APU_START_S_LO", 0x108, 0x100000, 1, 0x100000, 1, 0x0, .rw, .none, 0xffffffff, 0x0, 0x0, 0x0⟩,
  ⟨"APU_START_NS", 0x10c, 0x100000, 1, 0x100000, 1, 0x0, .rw, .none, 0xffffffff, 0x0, 0x0, 0x0⟩,
  ⟨"APU_START_CTL", 0x110, 0x100000, 1, 0x100000, 1, 0x0, .wr, .none, 0x0, 0x0, 0x0, 0x1⟩,
  ⟨"APU_START_STATUS", 0x114, 0x100000, 1, 0x100000, 1, 0x0, .ro, .none, 0x0, 0x0, 0x0, 0x0⟩,
  ⟨"APU_PORT_ASSOC", 0x1004, 0x100, 8, 0x100000, 1, 0x0, .rws, .frame, 0xf000ffff, 0x0, 0x0, 0x0⟩,
  ⟨"APU_PORT_Q", 0x1008, 0x100, 8, 0x100000, 1, 0x0, .rws, .frame, 0x3ff03ff, 0x0, 0x0, 0x0⟩,
  ⟨"APU_PORT_RAMP", 0x100c, 0x100, 8, 0x100000, 1, 0x40, .rws, .frame, 0xffff, 0x0, 0x0, 0x0⟩,
  ⟨"APU_PORT_CTL", 0x1010, 0x100, 8, 0x100000, 1, 0x0, .wr, .none, 0x0, 0x0, 0x0, 0xf⟩,
  ⟨"APU_RATE_MEAS", 0x1018, 0x100, 8, 0x100000, 1, 0x0, .ro, .none, 0x0, 0x0, 0x0, 0x0⟩,
  ⟨"APU_RATE_REF", 0x101c, 0x100, 8, 0x100000, 1, 0x0, .ro, .none, 0x0, 0x0, 0x0, 0x0⟩,
  ⟨"APU_AFRAME_LO", 0x1020, 0x100, 8, 0x100000, 1, 0x0, .ro, .none, 0x0, 0x0, 0x0, 0x0⟩,
  ⟨"APU_AFRAME_HI", 0x1024, 0x100, 8, 0x100000, 1, 0x0, .ro, .none, 0x0, 0x0, 0x0, 0x0⟩,
  ⟨"APU_PORT_REC", 0x1028, 0x100, 8, 0x100000, 1, 0x0, .rws, .frame, 0xf00003ff, 0x0, 0x0, 0x0⟩,
  ⟨"APU_CNT_UNDER_FRAMES", 0x1030, 0x100, 8, 0x100000, 1, 0x0, .ro, .none, 0x0, 0x0, 0x0, 0x0⟩,
  ⟨"APU_CNT_TX_LATE", 0x1034, 0x100, 8, 0x100000, 1, 0x0, .ro, .none, 0x0, 0x0, 0x0, 0x0⟩,
  ⟨"APU_CNT_TX_BAD", 0x1038, 0x100, 8, 0x100000, 1, 0x0, .ro, .none, 0x0, 0x0, 0x0, 0x0⟩,
  ⟨"APU_CNT_RX_DROP", 0x103c, 0x100, 8, 0x100000, 1, 0x0, .ro, .none, 0x0, 0x0, 0x0, 0x0⟩,
  ⟨"APU_CNT_POISON", 0x1040, 0x100, 8, 0x100000, 1, 0x0, .ro, .none, 0x0, 0x0, 0x0, 0x0⟩,
  ⟨"APU_CNT_RATE_EVT", 0x1044, 0x100, 8, 0x100000, 1, 0x0, .ro, .none, 0x0, 0x0, 0x0, 0x0⟩]

/-- Register groups of the APU window. -/
def apuRows : List RegRow := apuRows0

def rtuRows0 : List RegRow := [
  ⟨"RTU_REF_CFG", 0x100, 0x100000, 1, 0x100000, 1, 0xaa40000, .rw, .none, 0x7fff01ff, 0x0, 0x0, 0x0⟩,
  ⟨"RTU_STATUS", 0x140, 0x100000, 1, 0x100000, 1, 0x0, .ro, .none, 0x0, 0x0, 0x0, 0x0⟩,
  ⟨"RTU_PTP_CFG", 0x200, 0x40, 2, 0x100000, 1, 0x7fd000, .rw, .none, 0xf0fff000, 0x0, 0x0, 0x0⟩,
  ⟨"RTU_REF_RATE", 0x104, 0x100000, 1, 0x100000, 1, 0x0, .rws, .accept, 0xffffffff, 0x0, 0x0, 0x0⟩,
  ⟨"RTU_REF_ALT", 0x108, 0x4, 3, 0x100000, 1, 0x0, .rws, .accept, 0xffffffff, 0x0, 0x0, 0x0⟩,
  ⟨"RTU_FOLLOW", 0x114, 0x100000, 1, 0x100000, 1, 0x0, .rws, .frame, 0xffffffff, 0x0, 0x0, 0x0⟩,
  ⟨"RTU_REF_OFS", 0x118, 0x100000, 1, 0x100000, 1, 0x0, .rw, .none, 0xffffffff, 0x0, 0x0, 0x0⟩,
  ⟨"RTU_REF_CLK", 0x11c, 0x100000, 1, 0x100000, 1, 0x0, .rw, .none, 0x7ffffff, 0x0, 0x0, 0x0⟩,
  ⟨"RTU_REF_CLK_DIV", 0x120, 0x100000, 1, 0x100000, 1, 0x0, .rw, .none, 0xfffff, 0x0, 0x0, 0x0⟩,
  ⟨"RTU_LOCK_THR", 0x124, 0x100000, 1, 0x100000, 1, 0x64, .rw, .none, 0xfffff, 0x0, 0x0, 0x0⟩,
  ⟨"RTU_TC_OFS", 0x128, 0x100000, 1, 0x100000, 1, 0x0, .rw, .none, 0xffffffff, 0x0, 0x0, 0x0⟩,
  ⟨"RTU_FREQ", 0x144, 0x100000, 1, 0x100000, 1, 0x0, .ro, .none, 0x0, 0x0, 0x0, 0x0⟩,
  ⟨"RTU_PHASE_ERR", 0x148, 0x100000, 1, 0x100000, 1, 0x0, .ro, .none, 0x0, 0x0, 0x0, 0x0⟩,
  ⟨"RTU_ANCHOR_S_HI", 0x14c, 0x100000, 1, 0x100000, 1, 0x0, .ro, .none, 0x0, 0x0, 0x0, 0x0⟩,
  ⟨"RTU_ANCHOR_S_LO", 0x150, 0x100000, 1, 0x100000, 1, 0x0, .ro, .none, 0x0, 0x0, 0x0, 0x0⟩,
  ⟨"RTU_ANCHOR_NS", 0x154, 0x100000, 1, 0x100000, 1, 0x0, .ro, .none, 0x0, 0x0, 0x0, 0x0⟩,
  ⟨"RTU_TIME_CTL", 0x160, 0x100000, 1, 0x100000, 1, 0x0, .wr, .none, 0x0, 0x0, 0x0, 0x3⟩,
  ⟨"RTU_TIME_SNAP_S_HI", 0x164, 0x100000, 1, 0x100000, 1, 0x0, .ro, .none, 0x0, 0x0, 0x0, 0x0⟩,
  ⟨"RTU_TIME_SNAP_S_LO", 0x168, 0x100000, 1, 0x100000, 1, 0x0, .ro, .none, 0x0, 0x0, 0x0, 0x0⟩,
  ⟨"RTU_TIME_SNAP_NS", 0x16c, 0x100000, 1, 0x100000, 1, 0x0, .ro, .none, 0x0, 0x0, 0x0, 0x0⟩,
  ⟨"RTU_TIME_SET_S_HI", 0x170, 0x100000, 1, 0x100000, 1, 0x0, .rw, .none, 0xffff, 0x0, 0x0, 0x0⟩,
  ⟨"RTU_TIME_SET_S_LO", 0x174, 0x100000, 1, 0x100000, 1, 0x0, .rw, .none, 0xffffffff, 0x0, 0x0, 0x0⟩,
  ⟨"RTU_TIME_SET_NS", 0x178, 0x100000, 1, 0x100000, 1, 0x0, .rw, .none, 0xffffffff, 0x0, 0x0, 0x0⟩,
  ⟨"RTU_DATE", 0x17c, 0x100000, 1, 0x100000, 1, 0x0, .rw, .none, 0xffffff, 0x0, 0x0, 0x0⟩,
  ⟨"RTU_CNT_GLITCH", 0x180, 0x100000, 1, 0x100000, 1, 0x0, .ro, .none, 0x0, 0x0, 0x0, 0x0⟩,
  ⟨"RTU_CNT_HOLDOVER", 0x184, 0x100000, 1, 0x100000, 1, 0x0, .ro, .none, 0x0, 0x0, 0x0, 0x0⟩,
  ⟨"RTU_CNT_RATE_CHANGE", 0x188, 0x100000, 1, 0x100000, 1, 0x0, .ro, .none, 0x0, 0x0, 0x0, 0x0⟩,
  ⟨"RTU_CNT_LTC_ERR", 0x18c, 0x100000, 1, 0x100000, 1, 0x0, .ro, .none, 0x0, 0x0, 0x0, 0x0⟩,
  ⟨"RTU_PTP_STATUS", 0x204, 0x40, 2, 0x100000, 1, 0x0, .ro, .none, 0x0, 0x0, 0x0, 0x0⟩,
  ⟨"RTU_PTP_GM_HI", 0x208, 0x40, 2, 0x100000, 1, 0x0, .ro, .none, 0x0, 0x0, 0x0, 0x0⟩]

def rtuRows1 : List RegRow := [
  ⟨"RTU_PTP_GM_LO", 0x20c, 0x40, 2, 0x100000, 1, 0x0, .ro, .none, 0x0, 0x0, 0x0, 0x0⟩,
  ⟨"RTU_PTP_OFS_HI", 0x210, 0x40, 2, 0x100000, 1, 0x0, .ro, .none, 0x0, 0x0, 0x0, 0x0⟩,
  ⟨"RTU_PTP_OFS_LO", 0x214, 0x40, 2, 0x100000, 1, 0x0, .ro, .none, 0x0, 0x0, 0x0, 0x0⟩,
  ⟨"RTU_PTP_FREQ", 0x218, 0x40, 2, 0x100000, 1, 0x0, .ro, .none, 0x0, 0x0, 0x0, 0x0⟩,
  ⟨"RTU_PTP_MPD", 0x21c, 0x40, 2, 0x100000, 1, 0x0, .ro, .none, 0x0, 0x0, 0x0, 0x0⟩,
  ⟨"RTU_CNT_SYNC_MISS", 0x220, 0x40, 2, 0x100000, 1, 0x0, .ro, .none, 0x0, 0x0, 0x0, 0x0⟩,
  ⟨"RTU_TS_STATUS", 0x300, 0x20, 2, 0x100000, 1, 0x0, .ro, .none, 0x0, 0x0, 0x0, 0x0⟩,
  ⟨"RTU_TS_S_HI", 0x304, 0x20, 2, 0x100000, 1, 0x0, .ro, .none, 0x0, 0x0, 0x0, 0x0⟩,
  ⟨"RTU_TS_S_LO", 0x308, 0x20, 2, 0x100000, 1, 0x0, .ro, .none, 0x0, 0x0, 0x0, 0x0⟩,
  ⟨"RTU_TS_NS", 0x30c, 0x20, 2, 0x100000, 1, 0x0, .ro, .none, 0x0, 0x0, 0x0, 0x0⟩,
  ⟨"RTU_TS_TAG", 0x310, 0x20, 2, 0x100000, 1, 0x0, .ro, .none, 0x0, 0x0, 0x0, 0x0⟩,
  ⟨"RTU_TS_POP", 0x314, 0x20, 2, 0x100000, 1, 0x0, .wr, .none, 0x0, 0x0, 0x0, 0x1⟩,
  ⟨"RTU_ETH_EVT_LAT", 0x318, 0x20, 2, 0x100000, 1, 0x0, .ro, .none, 0x0, 0x0, 0x0, 0x0⟩,
  ⟨"RTU_LTC_IN_TC", 0x400, 0x100000, 1, 0x100000, 1, 0x0, .ro, .none, 0x0, 0x0, 0x0, 0x0⟩,
  ⟨"RTU_LTC_IN_STATUS", 0x404, 0x100000, 1, 0x100000, 1, 0x0, .ro, .none, 0x0, 0x0, 0x0, 0x0⟩,
  ⟨"RTU_LTC_OUT_CFG", 0x408, 0x100000, 1, 0x100000, 1, 0x0, .rw, .none, 0x80000003, 0x0, 0x0, 0x0⟩,
  ⟨"RTU_LTC_OUT_UB", 0x40c, 0x100000, 1, 0x100000, 1, 0x0, .rw, .none, 0xffffffff, 0x0, 0x0, 0x0⟩]

/-- Register groups of the RTU window. -/
def rtuRows : List RegRow := rtuRows0 ++ rtuRows1

def mssRows0 : List RegRow := [
  ⟨"MSS_CFG", 0x100, 0x100000, 1, 0x100000, 1, 0x0, .ro, .none, 0x0, 0x0, 0x0, 0x0⟩,
  ⟨"MSS_ARB_CFG", 0x104, 0x100000, 1, 0x100000, 1, 0x100100, .rw, .wrap, 0x803f0fff, 0x0, 0x0, 0x0⟩,
  ⟨"MSS_NREF_CFG", 0x108, 0x100000, 1, 0x100000, 1, 0xb, .rw, .none, 0x11f, 0x0, 0x0, 0x0⟩,
  ⟨"MSS_CH_STATUS", 0x1000, 0x100, 16, 0x100000, 1, 0x0, .ro, .none, 0x0, 0x0, 0x0, 0x0⟩,
  ⟨"MSS_REF_STATUS", 0x10c, 0x100000, 1, 0x100000, 1, 0x0, .ro, .none, 0x0, 0x0, 0x0, 0x0⟩,
  ⟨"MSS_CRC_TEST_DATA", 0x200, 0x4, 16, 0x100000, 1, 0x0, .rw, .none, 0xffffffff, 0x0, 0x0, 0x0⟩,
  ⟨"MSS_CRC_TEST_ADDR_LO", 0x240, 0x100000, 1, 0x100000, 1, 0x0, .rw, .none, 0xffffffff, 0x0, 0x0, 0x0⟩,
  ⟨"MSS_CRC_TEST_ADDR_HI", 0x244, 0x100000, 1, 0x100000, 1, 0x0, .rw, .none, 0xff, 0x0, 0x0, 0x0⟩,
  ⟨"MSS_CRC_TEST_CTL", 0x248, 0x100000, 1, 0x100000, 1, 0x0, .wr, .none, 0x0, 0x0, 0x0, 0x1⟩,
  ⟨"MSS_CRC_TEST_RESULT_LO", 0x24c, 0x100000, 1, 0x100000, 1, 0x0, .ro, .none, 0x0, 0x0, 0x0, 0x0⟩,
  ⟨"MSS_CRC_TEST_RESULT_HI", 0x250, 0x100000, 1, 0x100000, 1, 0x0, .ro, .none, 0x0, 0x0, 0x0, 0x0⟩,
  ⟨"MSS_LIN_BASE_LO", 0x300, 0x100000, 1, 0x100000, 1, 0x0, .ro, .none, 0x0, 0x0, 0x0, 0x0⟩,
  ⟨"MSS_LIN_BASE_HI", 0x304, 0x100000, 1, 0x100000, 1, 0x0, .ro, .none, 0x0, 0x0, 0x0, 0x0⟩,
  ⟨"MSS_CNT_LIN_HIT", 0x308, 0x100000, 1, 0x100000, 1, 0x0, .ro, .none, 0x0, 0x0, 0x0, 0x0⟩,
  ⟨"MSS_CNT_LIN_MISS", 0x30c, 0x100000, 1, 0x100000, 1, 0x0, .ro, .none, 0x0, 0x0, 0x0, 0x0⟩,
  ⟨"MSS_CLIP_BASE_LO", 0x700, 0x100000, 1, 0x100000, 1, 0x0, .ro, .none, 0x0, 0x0, 0x0, 0x0⟩,
  ⟨"MSS_CLIP_BASE_HI", 0x704, 0x100000, 1, 0x100000, 1, 0x0, .ro, .none, 0x0, 0x0, 0x0, 0x0⟩,
  ⟨"MSS_CLIP_BLOCKS_LO", 0x708, 0x100000, 1, 0x100000, 1, 0x0, .ro, .none, 0x0, 0x0, 0x0, 0x0⟩,
  ⟨"MSS_CLIP_BLOCKS_HI", 0x70c, 0x100000, 1, 0x100000, 1, 0x0, .ro, .none, 0x0, 0x0, 0x0, 0x0⟩,
  ⟨"MSS_CLIP_STATE", 0x710, 0x100000, 1, 0x100000, 1, 0x0, .ro, .none, 0x0, 0x0, 0x0, 0x0⟩,
  ⟨"MSS_REEL_CTL", 0x800, 0x20, 8, 0x100000, 1, 0x0, .rw, .none, 0x1, 0x0, 0x0, 0x0⟩,
  ⟨"MSS_REEL_STATUS", 0x804, 0x20, 8, 0x100000, 1, 0x0, .ro, .none, 0x0, 0x0, 0x0, 0x0⟩,
  ⟨"MSS_REEL_FREE", 0x808, 0x20, 8, 0x100000, 1, 0x0, .ro, .none, 0x0, 0x0, 0x0, 0x0⟩,
  ⟨"MSS_CNT_REC_LATE", 0x80c, 0x20, 8, 0x100000, 1, 0x0, .ro, .none, 0x0, 0x0, 0x0, 0x0⟩,
  ⟨"MSS_CNT_REC_IDLE", 0x810, 0x20, 8, 0x100000, 1, 0x0, .ro, .none, 0x0, 0x0, 0x0, 0x0⟩,
  ⟨"MSS_SLOT_STATUS", 0x1004, 0x100, 16, 0x100000, 1, 0x0, .ro, .none, 0x0, 0x0, 0x0, 0x0⟩,
  ⟨"MSS_SLOT_CTL", 0x1008, 0x100, 16, 0x100000, 1, 0x0, .wr, .none, 0x0, 0x0, 0x0, 0x3⟩,
  ⟨"MSS_CNT_DETECT", 0x1020, 0x100, 16, 0x100000, 1, 0x0, .ro, .none, 0x0, 0x0, 0x0, 0x0⟩,
  ⟨"MSS_CNT_RETRY_OK", 0x1024, 0x100, 16, 0x100000, 1, 0x0, .ro, .none, 0x0, 0x0, 0x0, 0x0⟩,
  ⟨"MSS_CNT_POISON_READ", 0x1028, 0x100, 16, 0x100000, 1, 0x0, .ro, .none, 0x0, 0x0, 0x0, 0x0⟩]

def mssRows1 : List RegRow := [
  ⟨"MSS_CNT_RECOMPUTE", 0x102c, 0x100, 16, 0x100000, 1, 0x0, .ro, .none, 0x0, 0x0, 0x0, 0x0⟩,
  ⟨"MSS_CNT_CONCEAL", 0x1030, 0x100, 16, 0x100000, 1, 0x0, .ro, .none, 0x0, 0x0, 0x0, 0x0⟩,
  ⟨"MSS_CNT_COP_BUDGET", 0x1034, 0x100, 16, 0x100000, 1, 0x0, .ro, .none, 0x0, 0x0, 0x0, 0x0⟩,
  ⟨"MSS_CNT_COP_UNAVAIL", 0x1038, 0x100, 16, 0x100000, 1, 0x0, .ro, .none, 0x0, 0x0, 0x0, 0x0⟩,
  ⟨"MSS_CNT_DATA_ERR", 0x103c, 0x100, 16, 0x100000, 1, 0x0, .ro, .none, 0x0, 0x0, 0x0, 0x0⟩,
  ⟨"MSS_CNT_FWD", 0x1040, 0x100, 16, 0x100000, 1, 0x0, .ro, .none, 0x0, 0x0, 0x0, 0x0⟩,
  ⟨"MSS_CNT_MERGE", 0x1044, 0x100, 16, 0x100000, 1, 0x0, .ro, .none, 0x0, 0x0, 0x0, 0x0⟩,
  ⟨"MSS_CNT_RMW_POISON", 0x1048, 0x100, 16, 0x100000, 1, 0x0, .ro, .none, 0x0, 0x0, 0x0, 0x0⟩,
  ⟨"MSS_CNT_NREF", 0x104c, 0x100, 16, 0x100000, 1, 0x0, .ro, .none, 0x0, 0x0, 0x0, 0x0⟩,
  ⟨"MSS_CNT_REPLY_DROP", 0x1050, 0x100, 16, 0x100000, 1, 0x0, .ro, .none, 0x0, 0x0, 0x0, 0x0⟩]

/-- Register groups of the MSS window. -/
def mssRows : List RegRow := mssRows0 ++ mssRows1

def hifRows0 : List RegRow := [
  ⟨"HIF_LINK_STATUS", 0x100, 0x100000, 1, 0x100000, 1, 0x0, .ro, .none, 0x0, 0x0, 0x0, 0x0⟩,
  ⟨"HIF_QP_CFG", 0x1000, 0x40, 64, 0x100000, 1, 0x0, .rw, .none, 0x8fff07ff, 0x0, 0x0, 0x0⟩,
  ⟨"HIF_QP_STATUS", 0x1014, 0x40, 64, 0x100000, 1, 0x0, .ro, .none, 0x0, 0x0, 0x0, 0x0⟩,
  ⟨"HIF_APT_BASE_LO", 0x110, 0x100000, 1, 0x100000, 1, 0x0, .rw, .none, 0xffffffff, 0x0, 0x0, 0x0⟩,
  ⟨"HIF_APT_BASE_HI", 0x114, 0x100000, 1, 0x100000, 1, 0x0, .rw, .none, 0xff, 0x0, 0x0, 0x0⟩,
  ⟨"HIF_WBUF_BYTES", 0x120, 0x100000, 1, 0x100000, 1, 0x0, .ro, .none, 0x0, 0x0, 0x0, 0x0⟩,
  ⟨"HIF_WBUF_USED", 0x124, 0x100000, 1, 0x100000, 1, 0x0, .ro, .none, 0x0, 0x0, 0x0, 0x0⟩,
  ⟨"HIF_CNT_CMD", 0x140, 0x100000, 1, 0x100000, 1, 0x0, .ro, .none, 0x0, 0x0, 0x0, 0x0⟩,
  ⟨"HIF_CNT_DATA_ERR", 0x144, 0x100000, 1, 0x100000, 1, 0x0, .ro, .none, 0x0, 0x0, 0x0, 0x0⟩,
  ⟨"HIF_CNT_WRITE_FAULT", 0x148, 0x100000, 1, 0x100000, 1, 0x0, .ro, .none, 0x0, 0x0, 0x0, 0x0⟩,
  ⟨"HIF_CNT_ABORTED", 0x14c, 0x100000, 1, 0x100000, 1, 0x0, .ro, .none, 0x0, 0x0, 0x0, 0x0⟩,
  ⟨"HIF_CNT_AEV_DROP", 0x150, 0x100000, 1, 0x100000, 1, 0x0, .ro, .none, 0x0, 0x0, 0x0, 0x0⟩,
  ⟨"HIF_CNT_MGMT_ERR", 0x154, 0x100000, 1, 0x100000, 1, 0x0, .ro, .none, 0x0, 0x0, 0x0, 0x0⟩,
  ⟨"HIF_SQ_BASE_LO", 0x1004, 0x40, 64, 0x100000, 1, 0x0, .rw, .none, 0xffffffff, 0x0, 0x0, 0x0⟩,
  ⟨"HIF_SQ_BASE_HI", 0x1008, 0x40, 64, 0x100000, 1, 0x0, .rw, .none, 0xffffffff, 0x0, 0x0, 0x0⟩,
  ⟨"HIF_CQ_BASE_LO", 0x100c, 0x40, 64, 0x100000, 1, 0x0, .rw, .none, 0xffffffff, 0x0, 0x0, 0x0⟩,
  ⟨"HIF_CQ_BASE_HI", 0x1010, 0x40, 64, 0x100000, 1, 0x0, .rw, .none, 0xffffffff, 0x0, 0x0, 0x0⟩,
  ⟨"HIF_SQ_TAIL", 0x1018, 0x40, 64, 0x100000, 1, 0x0, .ro, .none, 0x0, 0x0, 0x0, 0x0⟩,
  ⟨"HIF_CQ_HEAD", 0x101c, 0x40, 64, 0x100000, 1, 0x0, .ro, .none, 0x0, 0x0, 0x0, 0x0⟩,
  ⟨"HIF_CQ_TAIL", 0x1020, 0x40, 64, 0x100000, 1, 0x0, .ro, .none, 0x0, 0x0, 0x0, 0x0⟩,
  ⟨"HIF_MSIX_TABLE", 0x10000, 0x10, 2048, 0x4, 3, 0x0, .rw, .none, 0xffffffff, 0x0, 0x0, 0x0⟩,
  ⟨"HIF_MSIX_VCTL", 0x1000c, 0x10, 2048, 0x100000, 1, 0x1, .rw, .none, 0x1, 0x0, 0x0, 0x0⟩,
  ⟨"HIF_MSIX_PBA", 0x18000, 0x4, 64, 0x100000, 1, 0x0, .ro, .none, 0x0, 0x0, 0x0, 0x0⟩]

/-- Register groups of the HIF window. -/
def hifRows : List RegRow := hifRows0

def sccRows0 : List RegRow := [
  ⟨"SCC_CPQ_CFG", 0x40000, 0x20, 1024, 0x100000, 1, 0x0, .rws, .none, 0xff, 0x0, 0x0, 0x0⟩,
  ⟨"SCC_CPQ_STATUS", 0x40008, 0x20, 1024, 0x100000, 1, 0x0, .ro, .none, 0x0, 0x0, 0x0, 0x0⟩,
  ⟨"SCC_CPQ_CTL", 0x40010, 0x20, 1024, 0x100000, 1, 0x0, .wr, .none, 0x0, 0x0, 0x0, 0x7⟩,
  ⟨"SCC_LOCK", 0x50000, 0x4, 256, 0x100000, 1, 0x0, .rw, .none, 0x0, 0x0, 0x0, 0x0⟩,
  ⟨"SCC_BOOT_STATUS", 0x100, 0x100000, 1, 0x100000, 1, 0x0, .ro, .none, 0x0, 0x0, 0x0, 0x0⟩,
  ⟨"SCC_BOOT_CTL", 0x104, 0x100000, 1, 0x100000, 1, 0x0, .wr, .none, 0x0, 0x0, 0x0, 0x3⟩,
  ⟨"SCC_CPQ_LIM", 0x40004, 0x20, 1024, 0x100000, 1, 0x0, .rws, .accept, 0xffffffff, 0x0, 0x0, 0x0⟩,
  ⟨"SCC_CPQ_TIMEOUT", 0x4000c, 0x20, 1024, 0x100000, 1, 0x0, .rws, .accept, 0xffffff, 0x0, 0x0, 0x0⟩,
  ⟨"SCC_CPQ_ITEMS", 0x40014, 0x20, 1024, 0x100000, 1, 0x0, .ro, .none, 0x0, 0x0, 0x0, 0x0⟩,
  ⟨"SCC_CPQ_LOST", 0x40018, 0x20, 1024, 0x100000, 1, 0x0, .ro, .none, 0x0, 0x0, 0x0, 0x0⟩,
  ⟨"SCC_CNT_POST_FAIL", 0x4001c, 0x20, 1024, 0x100000, 1, 0x0, .ro, .none, 0x0, 0x0, 0x0, 0x0⟩,
  ⟨"SCC_CP_FREE", 0x30000, 0x100000, 1, 0x100000, 1, 0x10000, .ro, .none, 0x0, 0x0, 0x0, 0x0⟩,
  ⟨"SCC_CNT_ABANDONED", 0x30010, 0x100000, 1, 0x100000, 1, 0x0, .ro, .none, 0x0, 0x0, 0x0, 0x0⟩,
  ⟨"SCC_CNT_PARTIAL_DROP", 0x30014, 0x100000, 1, 0x100000, 1, 0x0, .ro, .none, 0x0, 0x0, 0x0, 0x0⟩,
  ⟨"SCC_CNT_FB_REJECT", 0x30018, 0x100000, 1, 0x100000, 1, 0x0, .ro, .none, 0x0, 0x0, 0x0, 0x0⟩,
  ⟨"SCC_CNT_POISON", 0x3001c, 0x100000, 1, 0x100000, 1, 0x0, .ro, .none, 0x0, 0x0, 0x0, 0x0⟩,
  ⟨"SCC_CNT_FREE_REBUILD", 0x30020, 0x100000, 1, 0x100000, 1, 0x0, .ro, .none, 0x0, 0x0, 0x0, 0x0⟩,
  ⟨"SCC_CP_NOTIFY", 0x30100, 0x4, 32, 0x100000, 1, 0x0, .w1c, .none, 0x0, 0xffffffff, 0x0, 0x0⟩,
  ⟨"SCC_CP_WR_CFG", 0x31000, 0x200, 8, 0x100000, 1, 0x0, .rw, .none, 0x800003ff, 0x0, 0x0, 0x0⟩,
  ⟨"SCC_CP_WR_CTL", 0x31004, 0x200, 8, 0x100000, 1, 0x0, .wr, .none, 0x0, 0x0, 0x0, 0x103⟩,
  ⟨"SCC_CP_WR_STATUS", 0x31008, 0x200, 8, 0x100000, 1, 0x0, .ro, .none, 0x0, 0x0, 0x0, 0x0⟩,
  ⟨"SCC_CP_WR_DATA", 0x31100, 0x200, 8, 0x4, 64, 0x0, .rw, .none, 0xffffffff, 0x0, 0x0, 0x0⟩,
  ⟨"SCC_CP_RD_CFG", 0x32000, 0x100, 8, 0x100000, 1, 0x0, .rw, .none, 0x800003ff, 0x0, 0x0, 0x0⟩,
  ⟨"SCC_CP_RD_CTL", 0x32004, 0x100, 8, 0x100000, 1, 0x0, .wr, .none, 0x0, 0x0, 0x0, 0x1⟩,
  ⟨"SCC_CP_RD_STATUS", 0x32008, 0x100, 8, 0x100000, 1, 0x0, .ro, .none, 0x0, 0x0, 0x0, 0x0⟩,
  ⟨"SCC_CP_RD_DATA", 0x32040, 0x100, 8, 0x4, 16, 0x0, .ro, .none, 0x0, 0x0, 0x0, 0x0⟩,
  ⟨"SCC_LOCK_PEEK", 0x50400, 0x4, 256, 0x100000, 1, 0x0, .ro, .none, 0x0, 0x0, 0x0, 0x0⟩,
  ⟨"SCC_LOCK_CTL", 0x50800, 0x100000, 1, 0x100000, 1, 0x0, .wr, .none, 0x0, 0x0, 0x0, 0x800000ff⟩,
  ⟨"SCC_BOOT_SEQ", 0x108, 0x100000, 1, 0x100000, 1, 0x0, .ro, .none, 0x0, 0x0, 0x0, 0x0⟩,
  ⟨"SCC_BOOT_TIME", 0x10c, 0x100000, 1, 0x100000, 1, 0x0, .ro, .none, 0x0, 0x0, 0x0, 0x0⟩]

def sccRows1 : List RegRow := [
  ⟨"SCC_IMAGE_DIGEST", 0x110, 0x4, 16, 0x100000, 1, 0x0, .ro, .none, 0x0, 0x0, 0x0, 0x0⟩,
  ⟨"SCC_FUSE_STATE", 0x150, 0x100000, 1, 0x100000, 1, 0x0, .ro, .none, 0x0, 0x0, 0x0, 0x0⟩,
  ⟨"SCC_FUSE_DATA", 0x160, 0x4, 16, 0x100000, 1, 0x0, .rw, .none, 0xffffffff, 0x0, 0x0, 0x0⟩,
  ⟨"SCC_FUSE_CTL", 0x1a0, 0x100000, 1, 0x100000, 1, 0x0, .wr, .none, 0x0, 0x0, 0x0, 0xf0000003⟩,
  ⟨"SCC_FUSE_STATUS", 0x1a4, 0x100000, 1, 0x100000, 1, 0x0, .ro, .none, 0x0, 0x0, 0x0, 0x0⟩,
  ⟨"SCC_FLASH_ADDR", 0x200, 0x100000, 1, 0x100000, 1, 0x0, .rw, .none, 0xffffffff, 0x0, 0x0, 0x0⟩,
  ⟨"SCC_FLASH_CTL", 0x204, 0x100000, 1, 0x100000, 1, 0x0, .wr, .none, 0x0, 0x0, 0x0, 0x3⟩,
  ⟨"SCC_FLASH_STATUS", 0x208, 0x100000, 1, 0x100000, 1, 0x0, .ro, .none, 0x0, 0x0, 0x0, 0x0⟩,
  ⟨"SCC_FLASH_BUF", 0x280, 0x4, 64, 0x100000, 1, 0x0, .rw, .none, 0xffffffff, 0x0, 0x0, 0x0⟩]

/-- Register groups of the SCC window. -/
def sccRows : List RegRow := sccRows0 ++ sccRows1

def htpRows0 : List RegRow := [
  ⟨"HTP_ZONE", 0x100, 0x4, 9, 0x100000, 1, 0x0, .ro, .none, 0x0, 0x0, 0x0, 0x0⟩,
  ⟨"HTP_POLLARD_CFG", 0x1a0, 0x100000, 1, 0x100000, 1, 0xa030000, .rw, .none, 0xff0f0000, 0x0, 0x0, 0x0⟩,
  ⟨"HTP_PWR_CTL", 0x200, 0x100000, 1, 0x100000, 1, 0x0, .wr, .none, 0x0, 0x0, 0x0, 0x80000007⟩,
  ⟨"HTP_GAUGE_CFG", 0x2000, 0x200, 32, 0x100000, 1, 0x0, .rw, .none, 0xf3ff8000, 0x0, 0x0, 0x0⟩,
  ⟨"HTP_ZONE_RAW", 0x140, 0x4, 9, 0x100000, 1, 0x0, .ro, .none, 0x0, 0x0, 0x0, 0x0⟩,
  ⟨"HTP_ZONE_CTL", 0x180, 0x100000, 1, 0x100000, 1, 0x0, .wr, .none, 0x0, 0x0, 0x0, 0x1ff⟩,
  ⟨"HTP_THR_LOW", 0x190, 0x100000, 1, 0x100000, 1, 0xfdd0fd30, .rw, .none, 0xffffffff, 0x0, 0x0, 0x0⟩,
  ⟨"HTP_THR_HIGH", 0x194, 0x100000, 1, 0x100000, 1, 0x6600620, .rw, .none, 0xffffffff, 0x0, 0x0, 0x0⟩,
  ⟨"HTP_THR_CRIT", 0x198, 0x100000, 1, 0x100000, 1, 0x700, .rw, .none, 0xffff, 0x0, 0x0, 0x0⟩,
  ⟨"HTP_POLLARD_STATUS", 0x1a4, 0x100000, 1, 0x100000, 1, 0x0, .ro, .none, 0x0, 0x0, 0x0, 0x0⟩,
  ⟨"HTP_SHUTDOWN_STATUS", 0x1b0, 0x100000, 1, 0x100000, 1, 0x0, .ro, .none, 0x0, 0x0, 0x0, 0x0⟩,
  ⟨"HTP_PWR_STATUS", 0x204, 0x100000, 1, 0x100000, 1, 0x0, .ro, .none, 0x0, 0x0, 0x0, 0x0⟩,
  ⟨"HTP_LIFE_USED_LO", 0x300, 0x100000, 1, 0x100000, 1, 0x0, .ro, .none, 0x0, 0x0, 0x0, 0x0⟩,
  ⟨"HTP_LIFE_USED_HI", 0x304, 0x100000, 1, 0x100000, 1, 0x0, .ro, .none, 0x0, 0x0, 0x0, 0x0⟩,
  ⟨"HTP_AGE", 0x320, 0x4, 9, 0x100000, 1, 0x0, .ro, .none, 0x0, 0x0, 0x0, 0x0⟩,
  ⟨"HTP_VMON", 0x380, 0x4, 11, 0x100000, 1, 0x0, .ro, .none, 0x0, 0x0, 0x0, 0x0⟩,
  ⟨"HTP_GAUGE_CTL", 0x400, 0x100000, 1, 0x100000, 1, 0x0, .wr, .none, 0x0, 0x0, 0x0, 0x80000000⟩,
  ⟨"HTP_GAUGE_MASK", 0x404, 0x100000, 1, 0x100000, 1, 0x0, .rw, .none, 0xffffffff, 0x0, 0x0, 0x0⟩,
  ⟨"HTP_GAUGE_ORIGIN", 0x2004, 0x200, 32, 0x100000, 1, 0x0, .rw, .none, 0xffffffff, 0x0, 0x0, 0x0⟩,
  ⟨"HTP_GAUGE_WIDTH", 0x2008, 0x200, 32, 0x100000, 1, 0x0, .rw, .none, 0xffffffff, 0x0, 0x0, 0x0⟩,
  ⟨"HTP_GAUGE_MIN", 0x2010, 0x200, 32, 0x100000, 1, 0x0, .ro, .none, 0x0, 0x0, 0x0, 0x0⟩,
  ⟨"HTP_GAUGE_MAX", 0x2014, 0x200, 32, 0x100000, 1, 0x0, .ro, .none, 0x0, 0x0, 0x0, 0x0⟩,
  ⟨"HTP_GAUGE_SUM_LO", 0x2018, 0x200, 32, 0x100000, 1, 0x0, .ro, .none, 0x0, 0x0, 0x0, 0x0⟩,
  ⟨"HTP_GAUGE_SUM_HI", 0x201c, 0x200, 32, 0x100000, 1, 0x0, .ro, .none, 0x0, 0x0, 0x0, 0x0⟩,
  ⟨"HTP_GAUGE_COUNT_LO", 0x2020, 0x200, 32, 0x100000, 1, 0x0, .ro, .none, 0x0, 0x0, 0x0, 0x0⟩,
  ⟨"HTP_GAUGE_COUNT_HI", 0x2024, 0x200, 32, 0x100000, 1, 0x0, .ro, .none, 0x0, 0x0, 0x0, 0x0⟩,
  ⟨"HTP_GAUGE_BIN", 0x2100, 0x200, 32, 0x4, 64, 0x0, .ro, .none, 0x0, 0x0, 0x0, 0x0⟩,
  ⟨"HTP_KPR_RET", 0x1000, 0x4, 64, 0x100000, 1, 0x0, .rw, .none, 0xffffffff, 0x0, 0x0, 0x0⟩,
  ⟨"HTP_KPR_EVT", 0x1800, 0x20, 64, 0x4, 8, 0x0, .ro, .none, 0x0, 0x0, 0x0, 0x0⟩]

/-- Register groups of the HTP window. -/
def htpRows : List RegRow := htpRows0

/-- The groups of the window of unit `u` (0: the device-common window). -/
def ofUnit (u : Nat) : List RegRow :=
  match u with
  | 0 => devRows | 1 => slrRows | 2 => rfeRows | 3 => cseRows | 4 => pcdRows | 5 => rpkRows | 6 => oreRows
  | 7 => apuRows | 8 => rtuRows | 9 => mssRows | 10 => hifRows | 11 => sccRows | 12 => htpRows
  | _ => []

/-- The register group that a BAR0 byte offset belongs to (R469). The first 0x100 bytes of a unit window are the
common unit block (R14). -/
def find (ofs : Nat) : Option RegRow :=
  if 1 ≤ ofs / 0x100000 ∧ ofs % 0x100000 < 0x100 then
    if ofs / 0x100000 ≤ 12 then unitRows.find? (·.covers (ofs % 0x100000)) else none
  else (ofUnit (ofs / 0x100000)).find? (·.covers (ofs % 0x100000))

/-- What a register reads at reset: the value its heading or table gives; 0 at an offset that no register has
(R469). -/
def resetOf (ofs : Nat) : Word :=
  match find ofs with
  | some r => BitVec.ofNat 32 r.reset
  | none => 0

end Regs

end Sys2Proof.Machine
end

