-- ==== Sys2Proof/Machine/State.lean ====
section
/-!
DEFINITION. The machine's state, its faults and refusals, and the state after reset.
-/

namespace Sys2Proof.Machine

/-- Why the machine stops. -/
inductive Fault
  /-- An access of a unit to a DRAM address at or above the capacity of the part, which the spec gives no meaning
  (R333: the DRAM occupies system addresses 0 to capacity − 1). Safe. -/
  | dramAddressAbsent (addr : Nat)
  deriving DecidableEq, Repr

/-- Why a command is not run. -/
inductive Refusal
  /-- The command has no meaning in the model yet. Safe. -/
  | notModelled (mnemonic : String)
  deriving DecidableEq, Repr

/-- The state of the part. -/
structure State where
  /-- commands that wait, first in, first out (the model's queue) -/
  pending : List Instr
  /-- the variant fitted -/
  variant : Variant
  /-- CLK_CTL cycles since the model's start -/
  now : Nat
  /-- media time, in 1 ÷ 131,072,000,000 ns -/
  media : Nat
  /-- registers, by BAR0 byte offset: the stored value, or of an RWS register the copy in effect; unlisted: reset -/
  regs : SMap Word
  /-- shadow copies of RWS registers -/
  shadow : SMap Word
  /-- (requester code, unit) pairs whose UNIT_VIEW or DEV_VIEW reads 1 (R472) -/
  views : List (Nat × Nat)
  /-- owners of registers that are idle because two frame periods passed (R23) -/
  idle : List Bnd
  checks : List CheckReq
  cs : Option PendingCs
  plan : Plan
  planSeq : Nat
  paths : Vector PathSt 64
  units : Vector UnitSt 13
  evt : EvtWriter
  snap : SnapSt
  pool : PoolSt
  locks : Vector LockSt 256
  mss : MssSt
  clip : ClipSt
  slr : SlrSt
  rfe : RfeSt
  cal : CalSt
  cse : CseSt
  pcd : PcdSt
  rpk : RpkSt
  apu : ApuSt
  rtu : RtuSt
  ore : OreSt
  hif : HifSt
  htp : HtpSt
  boot : BootSt
  /-- flash bytes written or erased since the model's start; unlisted: what the board's flash holds -/
  flash : SMap Byte
  /-- fuse bits blown since the model's start -/
  fuses : SMap Unit
  /-- cycle in which each bit of an interrupt status register was last set, by 32 × unit + bit (R470) -/
  intAt : SMap Nat
  /-- GPIO balls that a pulse function holds high (R468), and the level each driven ball shows -/
  gpioPulse : List Nat
  gpioOut : Vector Bool 32
  /-- DRAM: bytes written, by system address -/
  mem : List Host.Cell
  /-- what left the part, newest first -/
  outbox : List Out
  /-- number of free values used -/
  freeCtr : Nat
  deriving DecidableEq, Repr

/-- The part before the release of SYS_RST_N (R405): every register at its reset value, no command accepted yet. The variant is the
EL9640 (notes/assumptions/3.md). -/
def State.reset : State :=
  { pending := []
    variant := .el9640
    now := 0
    media := 0
    regs := []
    shadow := []
    views := []
    idle := []
    checks := []
    cs := none
    plan := Plan.empty
    planSeq := 0
    paths := Vector.replicate 64 PathSt.reset
    units := Vector.replicate 13 UnitSt.reset
    evt := { queue := [], lost := false }
    snap := { writing := none, waiting := [] }
    pool := { queues := [], waiting := [], hidden := 0, notified := [] }
    locks := Vector.replicate 256 { st := .free, owner := 0 }
    mss := { ch := Vector.replicate 16 ChSt.reset, arbEff := Regs.resetOf Reg.MSS_ARB_CFG.ofs, slotsWait := none, masked := [], hotLowSince := 0, lin := [],
             coppice := [], held := [], poisoned := [], epoch := 0, capacity := 0 }
    clip := ClipSt.reset
    slr := SlrSt.reset
    rfe := RfeSt.reset
    cal := CalSt.reset
    cse := CseSt.reset
    pcd := PcdSt.reset
    rpk := RpkSt.reset
    apu := ApuSt.reset
    rtu := RtuSt.reset
    ore := OreSt.reset
    hif := HifSt.reset
    htp := HtpSt.reset
    boot := BootSt.reset
    flash := []
    fuses := []
    intAt := []
    gpioPulse := []
    gpioOut := Vector.replicate 32 false
    mem := []
    outbox := []
    freeCtr := 0 }

end Sys2Proof.Machine
end

