-- ==== Sys2Proof/Machine/Ops.lean ====
section
/-!
DEFINITION. The shared operations: clock, registers and their copies (R11, R21, R22, R37, R472), refusals (R15, R471),
interrupts (R451, R470, R473), the event writer (R449, R483), DRAM bytes, and free values.
-/

namespace Sys2Proof.Machine

/-! ### Clock -/

/-- Units of `State.media` in one nanosecond. -/
def mediaUnit : Nat := 131072000000

/-- Media time in nanoseconds. -/
def State.mediaNs (s : State) : Nat := s.media / mediaUnit

/-- Seconds of a media time. -/
def secOf (ns : Nat) : Nat := ns / 1000000000 % 2 ^ 48

/-- Nanoseconds of a media time within its second. -/
def nsecOf (ns : Nat) : Nat := ns % 1000000000

/-! ### Free values -/

/-- A free value, and the state that has used it up. -/
def State.fresh (s : State) : Nat × State := (Config.free s.freeCtr, { s with freeCtr := s.freeCtr + 1 })

/-- Record something that leaves the part. -/
def State.out (s : State) (o : Out) : State := { s with outbox := o :: s.outbox }

/-! ### Registers -/

/-- The stored value of a register, or the copy in effect of an RWS register. -/
def State.reg (s : State) (ofs : Nat) : Word := SMap.getD s.regs (Regs.resetOf ofs) ofs

/-- The shadow copy of an RWS register. -/
def State.shadowReg (s : State) (ofs : Nat) : Word := SMap.getD s.shadow (Regs.resetOf ofs) ofs

/-- A field of a register. -/
def State.get (s : State) (f : Fld) : Nat := bits (s.reg f.ofs).toNat f.hi f.lo

/-- A one-bit field. -/
def State.flag (s : State) (f : Fld) : Bool := s.get f != 0

/-- A field of a shadow copy. -/
def State.getShadow (s : State) (f : Fld) : Nat := bits (s.shadowReg f.ofs).toNat f.hi f.lo

/-- Store a register. -/
def State.setReg (s : State) (ofs : Nat) (w : Word) : State :=
  { s with regs := SMap.setD s.regs (Regs.resetOf ofs) ofs w }

/-- Store a shadow copy. -/
def State.setShadow (s : State) (ofs : Nat) (w : Word) : State :=
  { s with shadow := SMap.setD s.shadow (Regs.resetOf ofs) ofs w }

/-- Store a field of a register. -/
def State.put (s : State) (f : Fld) (v : Nat) : State :=
  s.setReg f.ofs (BitVec.ofNat 32 (setBits (s.reg f.ofs).toNat f.hi f.lo v))

/-- Store a one-bit field. -/
def State.putB (s : State) (f : Fld) (b : Bool) : State := s.put f (b2n b)

/-- Store several fields. -/
def State.puts (s : State) (l : List (Fld × Nat)) : State := l.foldl (fun s e => s.put e.1 e.2) s

/-- Add to a saturating 32-bit counter. -/
def State.count (s : State) (f : Fld) (n : Nat) : State := s.put f (sat32 (s.get f + n))

/-- Count for a counter that updates when its frame ends: the counts wait in a map by register. -/
def addLate (l : SMap Nat) (f : Fld) (n : Nat) : SMap Nat := if n = 0 then l else SMap.insert l f.ofs (SMap.getD l 0 f.ofs + n)

/-- Counters take the counts that wait for them. -/
def State.takeLate (s : State) (l : SMap Nat) (fs : List Fld) : State := fs.foldl (fun s f => s.count f (SMap.getD l 0 f.ofs)) s

/-- The counts that wait for other counters. -/
def dropLate (l : SMap Nat) (fs : List Fld) : SMap Nat := SMap.keep l (fun k => !fs.any (fun f => f.ofs == k))

/-- Add 1 to a counter that wraps at the width of its field. -/
def State.bump (s : State) (f : Fld) : State := s.put f (s.get f + 1)

/-- A 40-bit address held in two registers. -/
def State.addr40 (s : State) (lo hi : Fld) : Nat := s.get lo + 2 ^ 32 * (s.get hi % 256)

/-- Store a media time in an S_HI, S_LO, NS triple. -/
def State.putTime (s : State) (hi lo ns : Fld) (t : Nat) : State :=
  s.puts [(hi, secOf t / 2 ^ 32), (lo, secOf t % 2 ^ 32), (ns, nsecOf t)]

/-- A media time held in an S_HI, S_LO, NS triple. -/
def State.getTime (s : State) (hi lo ns : Fld) : Nat := (s.get hi * 2 ^ 32 + s.get lo) * 1000000000 + s.get ns

/-! ### The clock moves -/

/-- Media units per CLK_CTL cycle: 2.5 ns, corrected by RTU_FREQ in 1 ÷ 65,536 ppm. -/
def State.mediaRate (s : State) : Nat :=
  ((327680000000 : Int) + 5 * toSigned 32 (s.get Reg.RTU_FREQ)).toNat

/-- Move a frequency toward a value by at most `d`. -/
def toward (f target d : Int) : Int := if f + d < target then f + d else if target < f - d then f - d else target

/-- In HOLDOVER the media clock moves to the holdover value at no more than SLEW ppm/s (R314); the unit of RTU_FREQ is
1 ÷ 65,536 ppm, and a second has 4 × 10^8 cycles. -/
def State.holdoverSlew (s : State) : State :=
  match s.get Reg.RTU_STATUS_STATE, s.rtu.holdover with
  | 4, some h =>
    let f := toSigned 32 (s.get Reg.RTU_FREQ)
    let d := s.get Reg.RTU_REF_CFG_SLEW * 65536 * (s.now - s.rtu.slewAt) / 400000000
    if f = h then s
    else if d = 0 then s
    else ({ s with rtu := { s.rtu with slewAt := s.now } }).put Reg.RTU_FREQ (ofSigned 32 (toward f h d))
  | _, _ => s

/-! ### Gauges (R433, Table HTP-5) -/

/-- Bin of a sample: linear or log2. -/
def gaugeBin (log2 : Bool) (origin width v : Int) : Nat :=
  let d := v - origin
  if log2 then (if d < 1 then 0 else min 63 (Nat.log2 d.toNat + 1)) else (clampI 0 63 (d / width)).toNat

/-- A sample of a gauge (R433). -/
def GaugeSt.add (g : GaugeSt) (bin : Nat) (v : Int) : GaugeSt :=
  { min := if g.count = 0 ∨ v < g.min then v else g.min, max := if g.count = 0 ∨ g.max < v then v else g.max
    sum := toSigned 64 (ofSigned 64 (g.sum + v)), count := (g.count + 1) % 2 ^ 48
    bins := SMap.insert g.bins bin (sat32 (SMap.getD g.bins 0 bin + 1)) }

/-- A source of Table HTP-5 gives a sample: every gauge configured for it takes it. -/
def State.gauge (s : State) (kind index : Nat) (v : Int) : State :=
  (List.range 32).foldl (fun (s : State) g =>
    if s.get (Reg.HTP_GAUGE_CFG_SRC_KIND g) = kind ∧ s.get (Reg.HTP_GAUGE_CFG_INDEX g) = index then
      let b := gaugeBin (s.flag (Reg.HTP_GAUGE_CFG_LOG2 g)) (toSigned 32 (s.get (Reg.HTP_GAUGE_ORIGIN g)))
        (s.get (Reg.HTP_GAUGE_WIDTH g)) v
      { s with htp := { s.htp with gauges := updN s.htp.gauges g (fun x => x.add b v) } }
    else s) s

/-- Several samples of one source. -/
def State.gaugeAll (s : State) (kind index : Nat) (vs : List Int) : State :=
  if (List.range 32).any (fun g => s.get (Reg.HTP_GAUGE_CFG_SRC_KIND g) == kind && s.get (Reg.HTP_GAUGE_CFG_INDEX g) == index) then
    vs.foldl (fun (s : State) v => s.gauge kind index v) s
  else s

/-! ### Units -/

/-- Whether a unit is present in the variant (Table SCOPE-2). -/
def Variant.has (v : Variant) (u : UnitId) : Bool :=
  match v, u with
  | .el9640, _ => true
  | .el9630, .pcd => false
  | .el9630, _ => true
  | .el9620, .pcd => false
  | .el9620, .rpk => false
  | .el9620, _ => true

/-- DEV_UNITS_PRESENT (R6). -/
def Variant.unitsPresent : Variant → Nat
  | .el9640 => 0x1FFF | .el9630 => 0x1FEF | .el9620 => 0x1FCF

/-- DEV_VARIANT (R5). -/
def Variant.code : Variant → Nat
  | .el9640 => 0x9640 | .el9630 => 0x9630 | .el9620 => 0x9620

/-- Receive lanes, render paths, program lanes, Ethernet ports and DRAM channels present (Table SCOPE-2). -/
def Variant.lanes : Variant → Nat
  | .el9620 => 16 | _ => 32
def Variant.renderPaths : Variant → Nat
  | .el9620 => 4 | _ => 8
def Variant.programLanes : Variant → Nat
  | .el9620 => 8 | _ => 16
def Variant.ethPorts : Variant → Nat
  | .el9620 => 1 | _ => 2
def Variant.channels : Variant → Nat
  | .el9620 => 8 | _ => 16

/-- An accepted enable of the unit is in effect. -/
def State.enabled (s : State) (u : UnitId) : Bool := s.flag (Reg.UNIT_STATUS_ENABLED u.id)

/-- PHASE of UNIT_STATE: 0 RUN, 1 DRAINING, 2 RESETTING, 3 GRAFTING, 4 FROZEN, 5 LATCHED_OFF, 6 GATED. -/
def State.phase (s : State) (u : UnitId) : Nat := s.get (Reg.UNIT_STATE_PHASE u.id)

/-- The core clocks run: reset is released, and no stop of the part holds them. -/
def State.clocked (s : State) : Bool := s.boot.stage != .held && s.boot.stage != .stopped

/-- The unit's state machines run: it is present, clocked, not removed and not frozen. -/
def State.live (s : State) (u : UnitId) : Bool :=
  s.variant.has u && s.clocked && s.phase u == 0 && !s.flag (Reg.UNIT_CTL_FREEZE u.id)

/-- The unit runs and is enabled. -/
def State.on (s : State) (u : UnitId) : Bool := s.live u && s.enabled u

/-- The unit's sideband is asserted (R439). -/
def State.removed (s : State) (u : UnitId) : Bool :=
  s.phase u == 1 || s.phase u == 2 || s.phase u == 3 || s.phase u == 5 || s.phase u == 6

/-! ### Event messages -/

/-- Set bits of DEV_EVT_STATUS; the summary of bit 0 of DEV_INT_STATUS follows (R473). -/
def State.devSummary (s : State) : Bool :=
  (s.get Reg.DEV_EVT_STATUS &&& s.get Reg.DEV_EVT_ENABLE) != 0

/-- Summary of a unit (R451). -/
def State.summary (s : State) (u : Nat) : Bool :=
  if u = 0 then s.devSummary else (s.get (Reg.UNIT_INT_STATUS u) &&& s.get (Reg.UNIT_INT_ENABLE u)) != 0

/-- Whether the MSI-X vector can be sent now: the link is up and the vector is not masked (R379). -/
def State.vectorOpen (s : State) (v : Nat) : Bool :=
  !s.flag (Reg.HIF_MSIX_VCTL_MASK v) && !s.hif.fnMask && decide (2 ≤ s.get Reg.HIF_LINK_STATUS_STATE)

/-- Send an MSI-X vector, or set its pending bit (R379). -/
def State.sendVector (s : State) (v : Nat) : State :=
  if s.vectorOpen v then
    s.out (.msix v (s.get (Reg.HIF_MSIX_TABLE v 0) + 2 ^ 32 * s.get (Reg.HIF_MSIX_TABLE v 1)) (s.get (Reg.HIF_MSIX_TABLE v 2)))
  else
    s.put ⟨(Reg.HIF_MSIX_PBA (v / 32)).ofs, v % 32, v % 32⟩ 1

/-- The Sapwood cores of DEV_INT_VEC.CORES that the summary goes to. -/
def State.coresOut (s : State) (u : Nat) : State :=
  (List.range 4).foldl (fun s c => if bitAt (s.get (Reg.DEV_INT_VEC_CORES u)) c then s.out (.coreInt c u) else s) s

/-- Announce a unit's summary where DEV_INT_VEC routes it (R451). -/
def State.announce (s : State) (u : Nat) : State :=
  let s := if s.flag (Reg.DEV_INT_VEC_MSIX_EN u) then s.sendVector (s.get (Reg.DEV_INT_VEC_VECTOR u)) else s
  let s := s.coresOut u
  if s.flag (Reg.DEV_INT_VEC_MGMT u) then s.out (.mgmtInt true) else s

/-- Bring DEV_INT_STATUS bit u in line with the summary; announce it where it rises. -/
def State.refreshSummary (s : State) (u : Nat) : State :=
  let was := bitAt (s.get Reg.DEV_INT_STATUS) u
  let is := s.summary u
  let s := s.put ⟨Reg.DEV_INT_STATUS.ofs, u, u⟩ (b2n is)
  if is && !was then s.announce u
  else if was && !is && s.flag (Reg.DEV_INT_VEC_MGMT u) &&
      !(List.range 13).any (fun v => s.flag (Reg.DEV_INT_VEC_MGMT v) && s.summary v) then s.out (.mgmtInt false)
  else s

/-- Set bit `n` of a unit's UNIT_INT_STATUS (R451). -/
def State.raise (s : State) (u : UnitId) (n : Nat) : State :=
  (({ s with intAt := SMap.insert s.intAt (32 * u.id + n) s.now }).put ⟨(Reg.UNIT_INT_STATUS u.id).ofs, n, n⟩ 1).refreshSummary u.id

/-- Set bit `n` of DEV_EVT_STATUS (R473). -/
def State.devRaise (s : State) (n : Nat) : State :=
  (({ s with intAt := SMap.insert s.intAt n s.now }).put ⟨Reg.DEV_EVT_STATUS.ofs, n, n⟩ 1).refreshSummary 0

/-- A message to the event writer; a full writer drops it and counts it (R449). -/
def State.message (s : State) (m : EvtMsg) : State :=
  if s.evt.queue.length < 256 then
    { s with evt := { s.evt with queue := s.evt.queue ++ [m] } }
  else
    ({ s with evt := { s.evt with lost := true } }.count Reg.DEV_CNT_EVT_DROP 1).devRaise 6

/-- Log an event of a unit: instance, lower byte of CODE, CLASS, FRAME, ARG0, ARG1 (R449, R483). -/
def State.logEvt (s : State) (u : UnitId) (inst code cls frame arg0 arg1 : Nat) : State :=
  s.message { timeNs := s.mediaNs, unit := u.id, inst := inst, code := u.id * 256 + code, cls := cls, flags := 0,
              frame := frame, arg0 := arg0, arg1 := arg1 }

/-- Log an event whose ARG0 and ARG1 the spec does not state: they are free values. -/
def State.logFree (s : State) (u : UnitId) (inst code cls frame : Nat) : State :=
  let (a, s) := s.fresh
  let (b, s) := s.fresh
  s.logEvt u inst code cls frame (a % 2 ^ 16) (b % 2 ^ 32)

/-- Log an event whose CLASS, FRAME and arguments the spec does not state: they are free values. -/
def State.logOpen (s : State) (u : UnitId) (inst code : Nat) : State :=
  let (c, s) := s.fresh
  let (f, s) := s.fresh
  s.logFree u inst code (c % 256) (f % 2 ^ 48)

/-- Raise an interrupt bit and log its event with the class of Table FLT-5. -/
def State.fault (s : State) (u : UnitId) (n inst cls frame arg0 arg1 : Nat) : State :=
  (s.raise u n).logEvt u inst n cls frame arg0 arg1

/-! ### Disabling (R24, R35, R92) -/

/-- A unit's instances stop: its ENABLED clears, and what it holds of frames that no path accepted is gone. The SLR follows R92
instead. -/
def State.unitOff (s : State) (u : UnitId) : State :=
  let s := ({ s with units := updN s.units u.id (fun (x : UnitSt) => { x with leaving := false }) }).put (Reg.UNIT_STATUS_ENABLED u.id) 0
  match u with
  | .rfe => { s with rfe := { s.rfe with frame := none } }
  | .cse => { s with cse := { s.cse with scene := none, mfs := [] } }
  | .pcd => { s with pcd := PcdSt.reset }
  | .ore =>
    let s := { s with ore := { s.ore with
      tgs := s.ore.tgs.map (fun (x : TgSt) => { TgSt.reset with pal := x.pal, palActive := x.palActive }), ris := Vector.replicate 4 RiSt.reset,
      txs := Vector.replicate 8 TxSt.reset, pnls := s.ore.pnls.map (fun _ => { exitQueued := false, retrain := false }) } }
    let s := (List.range 8).foldl (fun (s : State) g => s.put (Reg.ORE_TG_STATUS g) 0) s
    let s := (List.range 4).foldl (fun (s : State) i =>
      if s.get (Reg.ORE_RI_STATUS_STATE i) = 0 then s else (s.put (Reg.ORE_RI_STATUS_STATE i) 0).raise .ore 10) s
    (List.range 2).foldl (fun (s : State) k =>
      if s.get (Reg.ORE_PNL_STATUS_STATE k) = 0 then s else (s.put (Reg.ORE_PNL_STATUS_STATE k) 0).raise .ore 13) s
  | .apu =>
    let s := { s with apu := { s.apu with going := [] } }.put Reg.APU_START_STATUS_PENDING 0
    (List.range 8).foldl (fun (s : State) p => { s.put (Reg.APU_PORT_STATUS_STATE p) 0 with apu := { s.apu with ports := updN s.apu.ports p (fun x =>
      { x with start := none, lead := 0, stopReq := false, rx := none, tx := none, nextFlags := 0, lostByClass := false, resume := false }) } }) s
  | _ => s

/-- Paths that leave and have delivered their accepted frames go; a unit that leaves and whose last such path has gone stops. -/
def State.settleLeaving (s : State) : State :=
  let gone := fun (b : Booking) => b.leaving && (getN s.paths b.path PathSt.reset).inFlight.isEmpty
  let s := if s.plan.bookings.any gone then
      let l := s.plan.bookings.filter (fun b => !gone b)
      { s with plan := { s.plan with bookings := l, bufs := if l.any (fun b => b.leaving) then s.plan.bufs else s.plan.bufs.take s.plan.own } }
    else s
  UnitId.all.foldl (fun (s : State) u =>
    if u != .slr && (getN s.units u.id UnitSt.reset).leaving && !s.plan.bookings.any (fun b => b.leaving && b.units.contains u.id) then s.unitOff u
    else s) s

/-! ### The clock moves on -/

/-- Advance to CLK_CTL cycle `t`; the clock never goes back. -/
def State.clock (s : State) (t : Nat) : State :=
  if t ≤ s.now then s else ({ s with now := t, media := s.media + (t - s.now) * s.mediaRate }).holdoverSlew

/-- What a command begins with: the clock stands at its cycle, and units that were disabled have stopped if they hold no frame. -/
def State.tick (s : State) (t : Nat) : State := (s.clock t).settleLeaving

/-! ### Refusals -/

/-- Write UNIT_REFUSE and UNIT_REFUSE_OFS of a unit together (R471). `ofs` is the byte offset in its window. -/
def State.setRefuse (s : State) (u code ofs : Nat) : State :=
  s.puts [(Reg.UNIT_REFUSE_REASON u, code), (Reg.UNIT_REFUSE_OFFSET u, bits ofs 17 2), (Reg.UNIT_REFUSE_OFS_OFS u, ofs)]

/-- A refusal that a unit records: UNIT_REFUSE, and an event record of class 0x00 whose CODE is the reason code
(R15, R471, R483); FRAME is 0 and the arguments are free. -/
def State.refuse (s : State) (u : UnitId) (code : Nat) (f : Fld) : State :=
  let s := s.setRefuse u.id code (f.ofs % 0x100000)
  let (a, s) := s.fresh
  let (b, s) := s.fresh
  s.message { timeNs := s.mediaNs, unit := u.id, inst := 0, code := code, cls := 0, flags := 0, frame := 0,
              arg0 := a % 2 ^ 16, arg1 := b % 2 ^ 32 }

/-- The register bus is released and no shutdown has latched (R381, R430). -/
def State.busOpen (s : State) : Bool := s.boot.busOpen && !s.flag Reg.HTP_SHUTDOWN_STATUS_SHUTDOWN

/-- A write to a command register of a unit: no requester reaches it before the register bus is released (R381), a
shutdown refuses it (R430), it is ignored where the unit or the instance is absent (R7, R8) and refused with 0x0D0E while
the unit is removed (R440); otherwise it acts. -/
def State.ctl (s : State) (u : UnitId) (here : Bool) (f : Fld) (k : State → State) : State :=
  if !s.boot.busOpen then s
  else if s.flag Reg.HTP_SHUTDOWN_STATUS_SHUTDOWN then s.refuse .htp 0x0C05 f
  else if !s.variant.has u || !here then s else if s.removed u then s.refuse u 0x0D0E f else k s

/-- A command written to a WR register, which keeps the last value written for reads (R11, Table SCOPE-5). -/
def State.cmd (s : State) (u : UnitId) (here : Bool) (f : Fld) (v : Nat) (k : State → State) : State :=
  s.ctl u here f (fun s => k (s.setReg f.ofs (BitVec.ofNat 32 v)))

/-! ### DRAM bytes -/

/-- One byte of DRAM: what was written, or what the devices hold (R479). -/
def State.readByte (s : State) (a : Nat) : Byte := (SMap.lookup s.mem a).getD (Config.unwrittenDram s.mss.epoch a)

/-- n bytes of DRAM. -/
def State.read (s : State) (a n : Nat) : List Byte := (List.range n).map (fun i => s.readByte (a + i))

/-- Store one byte of DRAM. -/
def State.writeByte (s : State) (a : Nat) (b : Byte) : State := { s with mem := SMap.setD s.mem (Config.unwrittenDram s.mss.epoch a) a b }

/-- Bursts that a write of n bytes at `a` rewrites whole or in part: their poison is gone (R345). -/
def State.unpoison (s : State) (a n : Nat) : State :=
  { s with mss := { s.mss with poisoned := SMap.keep s.mss.poisoned (fun k => decide (k < a / 64 ∨ (a + n + 63) / 64 ≤ k)) } }

/-- Store bytes from an address on; a byte equal to what the devices hold there needs no entry. -/
def writeBytes (epoch : Nat) (m : List Host.Cell) (a : Nat) (b : List Byte) : List Host.Cell :=
  match b with
  | [] => m
  | x :: t => writeBytes epoch (SMap.setD m (Config.unwrittenDram epoch a) a x) (a + 1) t

/-- Write bytes to DRAM. -/
def State.write (s : State) (a : Nat) (b : List Byte) : State :=
  { s.unpoison a b.length with mem := writeBytes s.mss.epoch s.mem a b }

/-- A little-endian number in DRAM. -/
def State.readLe (s : State) (a n : Nat) : Nat := leVal (s.read a n)

/-- A burst holds the poison code. -/
def State.burstPoisoned (s : State) (a : Nat) : Bool := (SMap.lookup s.mss.poisoned (a / 64)).isSome

/-- Mark the bursts of n bytes at `a` poisoned. -/
def State.poisonBursts (s : State) (a n : Nat) : State :=
  { s with mss := { s.mss with poisoned :=
      (List.range ((a % 64 + n + 63) / 64)).foldl (fun m i => SMap.insert m (a / 64 + i) ()) s.mss.poisoned } }

/-- An address range lies in the DRAM of the part (R333). -/
def State.inDram (s : State) (a n : Nat) : Bool := decide (a + n ≤ s.mss.capacity)

/-- The scratch space of R331: the top 64 KiB of every channel. -/
def State.inScratch (s : State) (a : Nat) : Bool :=
  decide (s.mss.capacity - 0x10000 * s.variant.channels ≤ a ∧ a < s.mss.capacity)

/-! ### Frame boundaries and committed values -/

/-- The instance whose boundary applies an RWS register (Table JRN-3), from its offset. -/
def bndOf (s : State) (ofs : Nat) : Bnd :=
  let w := ofs % 0x100000
  match ofs / 0x100000 with
  | 1 =>
    if 0x100 ≤ w ∧ w < 0x200 then .link ((w - 0x100) / 0x80)
    else if 0x300 ≤ w ∧ w < 0x340 then
      match s.get (Reg.SLR_TRIG_CFG_LINK ((w - 0x300) / 0x10)) with
      | 1 => .link 0 | 2 => .link 1 | _ => .none
    else if 0x400 ≤ w ∧ w < 0x500 then
      if s.flag (Reg.SLR_LINK_CFG_SOURCE 1) then .link 1 else .link 0
    else if 0x1000 ≤ w then
      match s.get (Reg.SLR_LANE_CFG_LINK ((w - 0x1000) / 0x40)) with
      | 1 => .link 0 | 2 => .link 1 | _ => .none
    else .none
  | 2 => .rfe
  | 3 => .scene
  | 4 => .pcd ((w - 0x1000) / 0x200)
  | 5 => .rpk ((w - 0x1000) / 0x100)
  | 6 =>
    if w < 0x2000 then .tg ((w - 0x1000) / 0x100)
    else if w < 0x4000 then .tg ((w - 0x2000) / 0x100)
    else if w < 0x5000 then .tg (s.get (Reg.ORE_PL_CFG_TG ((w - 0x4000) / 0x40)))
    else if w < 0x6000 then .ri ((w - 0x5000) / 0x80)
    else if w < 0x7000 then .tg (s.get (Reg.ORE_PNL_CFG_TG ((w - 0x6000) / 0x100)))
    else if 0x7400 ≤ w then .tg (s.get (Reg.ORE_TX_CFG_TG ((w - 0x7400) / 0x80)))
    else .none
  | 7 => .apu ((w - 0x1000) / 0x100)
  | _ => .none

/-- The instance that a bit of RTU_FOLLOW names (Table RTU-6). -/
def followBnd (bit : Nat) : Bnd :=
  if bit < 2 then .link bit else if bit < 10 then .tg (bit - 2) else if bit < 12 then .pcd (bit - 6) else .none

/-- The instance whose boundary applies an accepted value. -/
def Accepted.bnd (s : State) (a : Accepted) : Bnd :=
  if a.ofs = Reg.RTU_FOLLOW.ofs then
    match (List.range 12).find? (fun k => bitAt a.mask.toNat k) with
    | some k => followBnd k
    | none => .none
  else bndOf s a.ofs

/-- CLK_CTL cycle rule of R22: a value accepted in the boundary's own cycle waits for the next boundary. -/
def Accepted.due (a : Accepted) (now : Nat) : Bool := decide (a.since < now)

/-- Apply the values of the pending Change Set that pass a test; with the last of them it is applied (R42, R44). -/
def State.applyCs (s : State) (p : Accepted → Bool) : State :=
  match s.cs with
  | none => s
  | some c =>
    let s := c.vals.foldl (fun s a => if p a then s.setReg a.ofs ((a.val &&& a.mask) ||| (s.reg a.ofs &&& ~~~a.mask)) else s) s
    let rest := c.vals.filter (fun a => !p a)
    if rest.isEmpty then
      (({ s with cs := none }).put Reg.CS_STATUS_STATE 0).devRaise 2
    else { s with cs := some { c with vals := rest } }

/-- The owner's boundary with a frame of it: without ALIGN every value of the owner applies at its own boundary; with
ALIGN those of the instances that frame FRAME of PATH passes, at the point of Table LDG-2 (R42). `src` says that this
boundary is the frame's source boundary, where every value without such an instance applies too. -/
def State.boundary (s : State) (b : Bnd) (frames : List (Nat × Nat)) (src : Bool) : State :=
  let s := { s with idle := s.idle.filter (fun x => x != b) }
  match s.cs with
  | none => s
  | some c =>
    if c.align then
      if frames.any (fun f => f.1 == c.path && f.2 % 2 ^ 24 == c.frame) then
        let chain := (s.plan.bookings.find? (fun k => k.path == c.path)).elim [] (·.chain)
        s.applyCs (fun a => a.due s.now &&
          (a.bnd s == b || (src && !chain.contains (a.bnd s))))
      else s
    else s.applyCs (fun a => a.due s.now && a.bnd s == b)

end Sys2Proof.Machine
end

