-- ==== Sys2Proof/Machine/HifCore.lean ====
section
/-!
DEFINITION. Completion queues and asynchronous events (R384, R385, R392, R398).
-/

namespace Sys2Proof.Machine

/-- A queue pair. -/
def State.qp (s : State) (q : Nat) : QpSt := getN s.hif.qps q QpSt.reset

/-- Replace a queue pair. -/
def State.setQp (s : State) (q : Nat) (f : QpSt → QpSt) : State := { s with hif := { s.hif with qps := updN s.hif.qps q f } }

/-- STATE of a pair: 0 DISABLED, 1 RUNNING, 2 ERROR, 3 HELD. -/
def State.qpState (s : State) (q : Nat) : Nat := s.get (Reg.HIF_QP_STATUS_STATE q)

/-- DEPTH of a pair. -/
def State.qpDepth (s : State) (q : Nat) : Nat := s.get (Reg.HIF_QP_CFG_DEPTH_M1 q) + 1

/-- A 64-bit host address held in two registers. -/
def State.addr64 (s : State) (lo hi : Fld) : Nat := s.get lo + 2 ^ 32 * s.get hi

/-- The pair is enabled and the CQ has a free entry (R384); a pair in ERROR fetches nothing more but still posts (R383). -/
def State.cqRoom (s : State) (q : Nat) : Bool :=
  s.qpState q != 0 && (s.get (Reg.HIF_CQ_TAIL_TAIL q) + 1) % s.qpDepth q != s.get (Reg.HIF_CQ_HEAD q)

/-- The vector of a CQ is due (R385): at once without coalescing, else with its count reached. -/
def State.cqVector (s : State) (q : Nat) : State :=
  let n := s.hif.feature1 % 256
  let x := s.qp q
  let vec := if q = 0 then 0 else s.get (Reg.HIF_QP_CFG_VECTOR q)
  if s.hif.feature1 = 0 ∨ n ≤ x.coalesced + 1 then
    (s.setQp q (fun x => { x with coalesced := 0 })).sendVector vec
  else
    s.setQp q (fun y => { y with
      coalesced := y.coalesced + 1, coalescedAt := if y.coalesced = 0 then s.mediaNs else y.coalescedAt })

/-- Write one entry to a CQ that has room (Table HIF-4, R385): with the phase of the pass, and DEFERRED_ERROR where a
copy failed (R392). -/
def State.cqWrite (s : State) (q result sqHead cid status : Nat) : State :=
  let tail := s.get (Reg.HIF_CQ_TAIL_TAIL q)
  let phase := s.get (Reg.HIF_CQ_TAIL_PHASE q)
  let entry := leBytes 8 result ++ leBytes 2 sqHead ++ leBytes 1 q ++ leBytes 1 (b2n (s.qp q).deferred) ++
    leBytes 2 cid ++ leBytes 2 (status * 2 + phase)
  let s := s.out (.hostWrite (s.addr64 (Reg.HIF_CQ_BASE_LO q) (Reg.HIF_CQ_BASE_HI q) + 16 * tail) entry)
  let s := s.setQp q (fun x => { x with deferred := false })
  let s := if tail + 1 = s.qpDepth q then s.puts [(Reg.HIF_CQ_TAIL_TAIL q, 0), (Reg.HIF_CQ_TAIL_PHASE q, 1 - phase)]
    else s.put (Reg.HIF_CQ_TAIL_TAIL q) (tail + 1)
  s.cqVector q

/-- Post the held asynchronous events that the admin CQ has room for (R398). -/
def State.flushAev (s : State) : State :=
  s.hif.aev.foldl (fun s _ =>
    match s.hif.aev with
    | r :: rest =>
      if s.cqRoom 0 then
        ({ s with hif := { s.hif with aev := rest } }).cqWrite 0 r (s.get (Reg.HIF_QP_STATUS_SQ_HEAD 0)) 0xFFFF 0x0F
      else s
    | [] => s) s

/-- An asynchronous event of a type: posted where its type is enabled, held where the admin CQ is full, counted
where 16 are held (R398). -/
def State.asyncEvent (s : State) (typ page info : Nat) : State :=
  if s.qpState 0 = 0 then s
  else if typ = 1 ∨ typ = 4 ∨ bitAt s.hif.feature2 typ then
    let r := typ + 256 * (page % 256) + 65536 * (info % 65536)
    if s.cqRoom 0 ∨ s.hif.aev.length < 16 then ({ s with hif := { s.hif with aev := s.hif.aev ++ [r] } }).flushAev
    else s.count Reg.HIF_CNT_AEV_DROP 1
  else s

/-- An asynchronous event whose log page the spec does not name: the page is free. -/
def State.asyncFree (s : State) (typ info : Nat) : State :=
  let (p, s) := s.fresh
  s.asyncEvent typ p info

/-- A pair enters ERROR (R383). -/
def State.qpError (s : State) (q : Nat) : State :=
  ((s.put (Reg.HIF_QP_STATUS_STATE q) 2).raise .hif 2).asyncFree 5 q

/-- A fetched command of a pair. -/
def State.hostCmd (s : State) (q cid : Nat) : Option HostCmd := (s.qp q).outstanding.find? (fun c => c.cid == cid)

/-- The completion of a command becomes ready to post (R384). `after` names a completion that comes first (R396). -/
def State.completeAfter (s : State) (q cid sqHead status result : Nat) (after : Option (Nat × Nat)) : State :=
  s.setQp q (fun x => { x with
    ready := x.ready ++ [{ cid := cid, sqHead := sqHead, status := status, result := result, after := after }] })

/-- An outstanding command ends with a status and a RESULT. -/
def State.complete (s : State) (q cid status result : Nat) : State :=
  match s.hostCmd q cid with
  | none => s
  | some c =>
    (s.setQp q (fun x => { x with outstanding := x.outstanding.erase c })).completeAfter q cid c.sqHead status result none

/-- An entry of log page 0x01, of which the newest 256 stay (Table HIF-8). -/
def State.logError (s : State) (q cid status slba nblk : Nat) : State :=
  let e : ErrEntry := { sq := q, cid := cid, status := status, slba := slba, nblk := nblk, timeNs := s.mediaNs }
  { s with hif := { s.hif with errLog := (e :: s.hif.errLog).take 256 } }

/-- Bytes that fill the pages of a host buffer, first page first: each page's address and what is written there
(R386). -/
def pageWrites (fuel first : Nat) (pages : List Nat) (data : List Byte) : List (Nat × List Byte) :=
  match fuel with
  | 0 => []
  | k + 1 =>
    if data.isEmpty then []
    else
      let n := 4096 - first % 4096
      (first, data.take n) :: (match pages with
        | [] => []
        | p :: rest => pageWrites k p rest (data.drop n))

/-- Data goes to a host buffer whose further pages are `pages`. -/
def State.toHost (s : State) (first : Nat) (pages : List Nat) (data : List Byte) : State :=
  (pageWrites (data.length + 1) first pages data).foldl (fun (s : State) w => s.out (.hostWrite w.1 w.2)) s

end Sys2Proof.Machine
end

