-- ==== Sys2Proof/Machine/Pool.lean ====
section
/-!
DEFINITION. The Cell Pool: posts, reads, notification, queue reset, fallback banks and software ports
(14_cell_pool_and_locks.md, R356 to R370, R484).
-/

namespace Sys2Proof.Machine

/-- One naming of a queue by a unit register field or a software port (R357). -/
structure QUse where
  queue : Nat
  producer : Bool
  unit : Nat
  inst : Nat
  ofs : Nat
  /-- a software port of the SCC -/
  port : Bool
  deriving DecidableEq, Repr

/-- A link has a lane or the Pattern Source (R60). -/
def State.linkUsed (s : State) (l : Nat) : Bool :=
  s.flag (Reg.SLR_LINK_CFG_SOURCE l) ||
    (List.range s.variant.lanes).any (fun n => s.get (Reg.SLR_LANE_CFG_LINK n) == l + 1)

/-- A queue named by a field, where the unit is enabled and the function that uses the queue is on; 0 names none
(R484). -/
def qUse (c : Bool) (f : Fld) (s : State) (producer : Bool) (unit inst : Nat) : List QUse :=
  if c && s.get f != 0 then
    [{ queue := s.get f, producer := producer, unit := unit, inst := inst, ofs := f.ofs % 0x100000, port := false }]
  else []

/-- Every queue that an enabled unit instance or an enabled software port names (R357, R358). -/
def State.queueUses (s : State) : List QUse :=
  (List.range 2).flatMap (fun l => qUse (s.enabled .slr && s.linkUsed l) (Reg.SLR_LINK_CFG_META_QUEUE l) s true 1 l)
  ++ qUse (s.enabled .cse && s.get Reg.CSE_TNR_CFG_MODE == 2) Reg.CSE_TNR_CFG_MF_QUEUE s false 3 0
  ++ (List.range 4).flatMap (fun i =>
      qUse (s.enabled .pcd && s.flag (Reg.PCD_SES_CFG_EN i) && s.flag (Reg.PCD_MF_CFG_EN i)) (Reg.PCD_MF_CFG_QUEUE i) s true 4 i)
  ++ (List.range 2).flatMap (fun i =>
      qUse (s.enabled .pcd && s.flag (Reg.PCD_DEC_CFG_EN i)) (Reg.PCD_DEC_QUEUE_QUEUE i) s true 4 (4 + i))
  ++ (List.range 16).flatMap (fun i =>
      qUse (s.enabled .ore && s.flag (Reg.ORE_PL_CFG_AUD_EN i)) (Reg.ORE_PL_CFG_AUD_QUEUE i) s false 6 i)
  ++ (List.range 4).flatMap (fun i =>
      qUse (s.enabled .ore && s.flag (Reg.ORE_RI_CFG_EN i)) (Reg.ORE_RI_CFG_ANC_QUEUE i) s true 6 (0x20 + i))
  ++ (List.range 8).flatMap (fun i =>
      qUse (s.enabled .ore && s.flag (Reg.ORE_TX_CFG_EN i) && decide (2 ≤ i % 4)) (Reg.ORE_TX_CFG_AUD_QUEUE i) s
        false 6 (0x30 + i))
  ++ (List.range 8).flatMap (fun i => qUse (s.enabled .apu) (Reg.APU_PORT_Q_RX i) s true 7 i)
  ++ (List.range 8).flatMap (fun i => qUse (s.enabled .apu) (Reg.APU_PORT_Q_TX i) s false 7 i)
  ++ (List.range 8).flatMap (fun i =>
      qUse (s.enabled .apu && s.flag (Reg.APU_PORT_REC_REC i)) (Reg.APU_PORT_REC_QUEUE i) s true 7 i
      ++ qUse (s.enabled .apu && s.flag (Reg.APU_PORT_REC_REC i)) (Reg.APU_PORT_REC_QUEUE i) s false 9 i)
  ++ (List.range 8).flatMap (fun k =>
      if s.flag (Reg.SCC_CP_WR_CFG_EN k) then
        [{ queue := s.get (Reg.SCC_CP_WR_CFG_QUEUE k), producer := true, unit := 11, inst := k,
           ofs := (Reg.SCC_CP_WR_CFG k).ofs % 0x100000, port := true }] else [])
  ++ (List.range 8).flatMap (fun k =>
      if s.flag (Reg.SCC_CP_RD_CFG_EN k) then
        [{ queue := s.get (Reg.SCC_CP_RD_CFG_QUEUE k), producer := false, unit := 11, inst := 8 + k,
           ofs := (Reg.SCC_CP_RD_CFG k).ofs % 0x100000, port := true }] else [])

/-- Queues in use (R358). -/
def State.queuesInUse (s : State) : List Nat := dedup (s.queueUses.map (·.queue))

/-- A queue's state. -/
def State.queue (s : State) (q : Nat) : QueueSt := SMap.getD s.pool.queues QueueSt.empty q

/-- Items of a queue in the order in which its consumer meets them. -/
def QueueSt.items (q : QueueSt) : List Item := q.drain ++ q.fill ++ q.list

/-- Cells of a list of items. -/
def cellsOf (l : List Item) : Nat := sumN (l.map List.length)

/-- Cells of the pool that hold a queue's list. -/
def State.poolCells (s : State) : Nat := sumN (s.pool.queues.map (fun e => cellsOf e.2.list))

/-- Store a queue and bring SCC_CPQ_STATUS, SCC_CPQ_ITEMS and SCC_CP_FREE in line with it. -/
def State.setQueue (s : State) (q : Nat) (x : QueueSt) : State :=
  let s := { s with pool := { s.pool with queues := SMap.setD s.pool.queues QueueSt.empty q x } }
  s.puts [(Reg.SCC_CPQ_STATUS_MODE q, x.mode.code), (Reg.SCC_CPQ_STATUS_IDLE_FIRED q, b2n x.idleFired),
    (Reg.SCC_CPQ_STATUS_CELLS q, cellsOf x.items), (Reg.SCC_CPQ_ITEMS_N q, x.items.length),
    (Reg.SCC_CP_FREE_N, 65536 - s.poolCells)]

/-- Cell numbers of the pool in use. -/
def State.usedCells (s : State) : List Nat :=
  (s.pool.queues.map (fun e => (e.2.list.flatten).map (·.num))).flatten

/-- The first number from n on that is not in use. -/
def pickCell (used : List Nat) (n fuel : Nat) : Nat :=
  match fuel with
  | 0 => n % 65536
  | k + 1 => if used.contains (n % 65536) then pickCell used (n + 1) k else n % 65536

/-- Take cells from the free list for an item. Which free cells the pool takes is a free choice. -/
def State.takeCells (s : State) (used : List Nat) (l : List (List Byte × Nat)) : List PCell × State :=
  match l with
  | [] => ([], s)
  | (d, p) :: t =>
    let (v, s) := s.fresh
    let n := pickCell used v 65536
    let (r, s) := s.takeCells (n :: used) t
    ({ data := bytesAt d 0 64, poison := p, num := n } :: r, s)

/-- The outcome of a post. -/
inductive PostRes
  | ok | refused | fallbackReject | waits
  deriving DecidableEq, Repr

/-- R358: whether a queue may take n more cells. -/
def State.postFits (s : State) (q n : Nat) : Bool :=
  let cells := cellsOf (s.queue q).list
  let lim := Reg.SCC_CPQ_LIM_MIN q
  let mn := s.get lim
  let mx := s.get (Reg.SCC_CPQ_LIM_MAX q)
  let unused := sumN (s.queuesInUse.map (fun r => s.get (Reg.SCC_CPQ_LIM_MIN r) - cellsOf (s.queue r).list))
  decide (cells + n ≤ mn) ||
    (decide (cells + n ≤ mx) && decide ((cells + n - max mn cells) + unused ≤ 65536 - s.poolCells))

/-- Whether the queue's consumer is a software read port. -/
def State.swConsumer (s : State) (q : Nat) : Bool :=
  s.queueUses.any (fun u => u.queue == q && !u.producer && u.port)

/-- Notify a queue's consumer (R360). -/
def State.notify (s : State) (q : Nat) : State :=
  if s.swConsumer q then
    (s.put ⟨(Reg.SCC_CP_NOTIFY (q / 32)).ofs, q % 32, q % 32⟩ 1).raise .scc 18
  else { s with pool := { s.pool with notified := q :: s.pool.notified } }

/-- Count a refused post (R358). -/
def State.postFail (s : State) (q : Nat) : State :=
  (s.count (Reg.SCC_CNT_POST_FAIL q) 1).raise .scc 19

/-- After a commit: the idle timer restarts on a commit into the empty queue and is armed again; a count that rises to
NOTIFY_DEPTH notifies (R360). -/
def State.committed (s : State) (q : Nat) (before : QueueSt) (x : QueueSt) : State :=
  let x := { x with idleFired := false, idleFrom := if before.items.isEmpty then s.mediaNs else x.idleFrom }
  let s := s.setQueue q x
  let d := s.get (Reg.SCC_CPQ_CFG_NOTIFY_DEPTH q)
  if d != 0 && decide (before.items.length < d) && decide (d ≤ x.items.length) then s.notify q else s

/-- Put a committed item into the pool list. -/
def State.linkItem (s : State) (q : Nat) (cells : List (List Byte × Nat)) : State :=
  let (item, s) := s.takeCells s.usedCells cells
  let x := s.queue q
  s.committed q x { x with list := x.list ++ [item] }

/-- A queue reset starts: the queue is SWEEPING (R362, R363). -/
def State.startSweep (s : State) (q : Nat) (bySw : Bool) : State :=
  let x := s.queue q
  let lostBanks := if bySw || x.mode == .reinstating then x.drain.length + x.fill.length else 0
  let x := { x with mode := .sweeping, bySw := bySw,
                    partRead := x.partRead && (x.mode == .pool || (x.mode == .reinstating && x.drain.isEmpty && x.fill.isEmpty)),
                    drain := if lostBanks = 0 then x.drain else [], fill := if lostBanks = 0 then x.fill else [] }
  (s.setQueue q x).count (Reg.SCC_CPQ_LOST q) lostBanks

/-- Empty both banks and count their items as lost (R364, R365). -/
def State.dropBanks (s : State) (q : Nat) : State :=
  let x := s.queue q
  let n := x.drain.length + x.fill.length
  (s.setQueue q { x with drain := [], fill := [], mode := if x.mode == .reinstating then .pool else x.mode }).count
    (Reg.SCC_CPQ_LOST q) n

/-- Commit into the fallback banks (R364): the filling bank holds 4 cells. -/
def State.postBank (s : State) (q : Nat) (cells : List (List Byte × Nat)) : PostRes × State :=
  let x := s.queue q
  if cellsOf x.fill + cells.length ≤ 4 then
    let item : Item := cells.map (fun c => { data := bytesAt c.1 0 64, poison := c.2, num := 0 })
    let y := { x with fill := x.fill ++ [item] }
    let y := if y.drain.isEmpty then { y with drain := y.fill, fill := [] } else y
    (.ok, s.committed q x y)
  else (.fallbackReject, (s.postFail q).count Reg.SCC_CNT_FB_REJECT 1)

/-- A producer commits an item of 1 to 4,096 cells to a queue (R356, R358, R361 to R366). -/
def State.post (s : State) (q : Nat) (cells : List (List Byte × Nat)) (flt : PtrFault) : PostRes × State :=
  let x := s.queue q
  match x.mode with
  | .sweeping => s.postBank q cells
  | .fallback =>
    let s := if flt = .bankMismatch then s.dropBanks q else s
    s.postBank q cells
  | _ =>
    if flt = .listMismatch ∨ flt = .linkParity then
      (s.startSweep q false).postBank q cells
    else
      let s := if flt = .bankMismatch ∧ x.mode = .reinstating then s.dropBanks q else s
      let s : State := match flt with
        | .freeParity n => { s with pool := { s.pool with hidden := n } }
        | _ => s
      if cells.length = 0 ∨ 4096 < cells.length ∨ !s.postFits q cells.length then (.refused, s.postFail q)
      else if 65536 - s.poolCells < cells.length + s.pool.hidden then
        (.waits, { s with pool := { s.pool with waiting := s.pool.waiting ++
            [(q, cells.map (fun c => { data := c.1, poison := c.2, num := 0 }))] } })
      else (.ok, s.linkItem q cells)

/-- A unit posts an item to the queue its register names; queue 0 names none and the item is discarded (R484). -/
def State.unitPost (s : State) (q : Nat) (bytes : List Byte) : State :=
  if q = 0 then s
  else (s.post q ((chunks 64 bytes).map (fun c => (c, 0))) .ok).2

/-- What a read of a queue shows: the head cell, whether it is the first and the last of its item. -/
structure Head where
  cell : PCell
  first : Bool
  last : Bool
  deriving DecidableEq, Repr

/-- The item list the consumer reads from, in the queue's mode (R362, R364, R365). -/
def QueueSt.front (x : QueueSt) : List Item :=
  match x.mode with
  | .sweeping => []
  | .pool => x.list
  | .fallback => x.drain
  | .reinstating => x.drain ++ x.fill ++ x.list

/-- The head cell of a queue. -/
def QueueSt.head (x : QueueSt) : Option Head :=
  match x.front with
  | (c :: rest) :: _ => some { cell := c, first := !x.partRead, last := rest.isEmpty }
  | _ => none

/-- Drop the head cell of a list of items. -/
def dropHead (l : List Item) : List Item :=
  match l with
  | (_ :: rest) :: t => if rest.isEmpty then t else rest :: t
  | [] :: t => t
  | [] => []

/-- Remove the head cell (R356, R364, R365). -/
def QueueSt.pop (x : QueueSt) : QueueSt :=
  match x.head with
  | none => x
  | some h =>
    let x := { x with partRead := !h.last }
    match x.mode with
    | .sweeping => x
    | .pool => { x with list := dropHead x.list }
    | .fallback =>
      let d := dropHead x.drain
      if d.isEmpty then { x with drain := x.fill, fill := [] } else { x with drain := d }
    | .reinstating =>
      if !x.drain.isEmpty then { x with drain := dropHead x.drain }
      else if !x.fill.isEmpty then { x with fill := dropHead x.fill }
      else { x with list := dropHead x.list }

/-- A REINSTATING queue whose banks are empty enters POOL (R365). -/
def QueueSt.settle (x : QueueSt) : QueueSt :=
  if x.mode = .reinstating ∧ x.drain.isEmpty ∧ x.fill.isEmpty then { x with mode := .pool } else x

/-- Read the next cell of a queue: the cell as delivered, with the words that fail parity added to its poison tag
(R361, R364, R365, R367). -/
def State.readQueue (s : State) (q : Nat) (flt : PtrFault) (parity : Nat) : Option Head × State :=
  let x := s.queue q
  if x.mode = .sweeping then (none, s)
  else if (flt = .listMismatch ∨ flt = .linkParity) ∧ x.mode ≠ .fallback then (none, s.startSweep q false)
  else
    let s := if flt = .bankMismatch ∧ (x.mode = .fallback ∨ x.mode = .reinstating) then s.dropBanks q else s
    let x := s.queue q
    match x.head with
    | none => (none, s)
    | some h =>
      let p := (h.cell.poison ||| parity) % 256
      let y := { x.pop.settle with idleFrom := s.mediaNs, idleFired := false }
      let s := s.setQueue q y
      let s := if p != 0 then (s.count Reg.SCC_CNT_POISON 1).raise .scc 17 else s
      (some { h with cell := { h.cell with poison := p } }, s)

/-- Read a whole item from a queue for a hardware consumer: its cells, and the poison bits of its first poisoned
cell (0: none). -/
def State.readItem (s : State) (q fuel : Nat) : List PCell × State :=
  match fuel with
  | 0 => ([], s)
  | k + 1 =>
    match s.readQueue q .ok 0 with
    | (none, s) => ([], s)
    | (some h, s) =>
      if h.last then ([h.cell], s)
      else
        let (r, s) := s.readItem q k
        (h.cell :: r, s)

/-- Poison bits of the first poisoned cell of an item. -/
def itemPoison (l : List PCell) : Nat := ((l.find? (fun c => c.poison != 0)).map (·.poison)).getD 0

/-- The sweep of a queue ends (steps 2 to 4 of R362, R363): every cell of its list is freed, and each
item whose FIRST cell is among them is lost. -/
def State.sweepDone (s : State) (q : Nat) : State :=
  let x := s.queue q
  if x.mode ≠ .sweeping then s
  else
    let lost := x.list.length - b2n x.partRead
    let y := { x with list := [], partRead := false, mode := if x.bySw then .reinstating else .fallback }
    let y := { y.settle with bySw := false }
    let s := (s.setQueue q y).count (Reg.SCC_CPQ_LOST q) lost
    let s := s.fault .scc 16 0 0x08 0 q lost
    s.notify q

/-- A limit or a port check of R358, on the configuration in `s`: the code of the refusal and the field at fault. -/
def State.queueLimits (s : State) : Option (Nat × Fld) :=
  let used := s.queuesInUse
  match used.find? (fun q => decide (s.get (Reg.SCC_CPQ_LIM_MAX q) < s.get (Reg.SCC_CPQ_LIM_MIN q)) ||
      s.get (Reg.SCC_CPQ_LIM_MAX q) == 0) with
  | some q => some (0x0B30, Reg.SCC_CPQ_LIM q)
  | none =>
    if 65536 < sumN (used.map (fun q => s.get (Reg.SCC_CPQ_LIM_MIN q))) then
      some (0x0B30, Reg.SCC_CPQ_LIM (used.headD 0))
    else none

/-- A second consumer of a queue (R357): the holder and the claimant. -/
def State.consumerConflict (s : State) : Option (QUse × QUse) :=
  let l := s.queueUses.filter (fun u => !u.producer)
  (l.findSome? (fun u => (l.find? (fun v => v.queue == u.queue && (v.unit, v.inst, v.ofs) != (u.unit, u.inst, u.ofs))).map
    (fun v => (u, v))))

/-- Name a conflict in the conflict registers (R38). -/
def State.setConflict (s : State) (kind index hu hi ho cu ci co : Nat) : State :=
  s.puts [(Reg.DEV_CONFLICT_RES_KIND, kind), (Reg.DEV_CONFLICT_RES_INDEX, index),
    (Reg.DEV_CONFLICT_HOLDER_UNIT, hu), (Reg.DEV_CONFLICT_HOLDER_INST, hi), (Reg.DEV_CONFLICT_HOLDER_WORD, ho / 4),
    (Reg.DEV_CONFLICT_CLAIMANT_UNIT, cu), (Reg.DEV_CONFLICT_CLAIMANT_INST, ci), (Reg.DEV_CONFLICT_CLAIMANT_WORD, co / 4)]

/-- A producer conflict of a software write port (R369): the claim of resource 0x06. -/
def State.producerConflict (s : State) (k : Nat) : Option QUse :=
  let q := s.get (Reg.SCC_CP_WR_CFG_QUEUE k)
  s.queueUses.find? (fun u => u.producer && u.queue == q && (u.unit, u.inst) != (11, k))

/-- A software port check refuses: the SCC records the code, and so does LAST_REASON (R369). -/
def State.portRefuse (s : State) (code : Nat) (f : Fld) : State :=
  ((s.refuse .scc code f).put Reg.DEV_LDG_STATUS_LAST_REASON code)

/-- A write to SCC_CP_WR_CFG(k): the resource claim and the limit test, then the value (R369). -/
def State.writePortCfg (s : State) (k : Nat) (v : Word) : State :=
  let f := Reg.SCC_CP_WR_CFG k
  let t := s.setReg f.ofs (v &&& 0x800003FF)
  if !bitAt v.toNat 31 then t
  else
    match t.producerConflict k with
    | some h =>
      (s.setConflict 0x06 h.queue h.unit h.inst h.ofs 11 k (f.ofs % 0x100000)).portRefuse 0x0D02 f
    | none =>
      match t.queueLimits with
      | some (code, g) => s.portRefuse code g
      | none => t

/-- A write to SCC_CP_RD_CFG(k): a second consumer is refused, and the limit test holds (R357, R370). -/
def State.readPortCfg (s : State) (k : Nat) (v : Word) : State :=
  let f := Reg.SCC_CP_RD_CFG k
  let t := s.setReg f.ofs (v &&& 0x800003FF)
  if !bitAt v.toNat 31 then t
  else
    let q := v.toNat % 1024
    match t.queueUses.find? (fun u => !u.producer && u.queue == q && (u.unit, u.inst) != (11, 8 + k)) with
    | some h =>
      (s.setConflict 0x06 q h.unit h.inst h.ofs 11 (8 + k) (f.ofs % 0x100000)).portRefuse 0x0B32 f
    | none =>
      match t.queueLimits with
      | some (code, g) => s.portRefuse code g
      | none => t

/-- The cells of a write port's data window (Table CPL-5). -/
def State.portCells (s : State) (k n : Nat) : List (List Byte × Nat) :=
  (List.range n).map (fun c =>
    ((List.range 16).flatMap (fun i => leBytes 4 (s.get (Reg.SCC_CP_WR_DATA k (16 * c + i)))), 0))

/-- PUSH of write port k (R369). -/
def State.push (s : State) (k cells : Nat) (flt : PtrFault) : State :=
  if s.flag (Reg.SCC_CP_WR_STATUS_BUSY k) then s.refuse .scc 0x0B35 (Reg.SCC_CP_WR_CTL k)
  else if !s.flag (Reg.SCC_CP_WR_CFG_EN k) then s.put (Reg.SCC_CP_WR_STATUS_RESULT k) 1
  else
    match s.post (s.get (Reg.SCC_CP_WR_CFG_QUEUE k)) (s.portCells k cells) flt with
    | (.ok, s) => s.put (Reg.SCC_CP_WR_STATUS_RESULT k) 0
    | (.refused, s) => s.put (Reg.SCC_CP_WR_STATUS_RESULT k) 1
    | (.fallbackReject, s) => s.put (Reg.SCC_CP_WR_STATUS_RESULT k) 2
    | (.waits, s) => s.put (Reg.SCC_CP_WR_STATUS_BUSY k) 1

/-- POP of read port k (R370). -/
def State.popPort (s : State) (k : Nat) (flt : PtrFault) (parity : Nat) : State :=
  if s.flag (Reg.SCC_CP_RD_CFG_EN k) then (s.readQueue (s.get (Reg.SCC_CP_RD_CFG_QUEUE k)) flt parity).2 else s

/-- SCC_CP_RD_STATUS(k): the head cell of the port's queue (R370). -/
def State.readPortStatus (s : State) (k : Nat) : Nat :=
  if s.flag (Reg.SCC_CP_RD_CFG_EN k) then
    match (s.queue (s.get (Reg.SCC_CP_RD_CFG_QUEUE k))).head with
    | none => 0
    | some h => 2 ^ 31 + b2n h.first * 2 ^ 30 + b2n h.last * 2 ^ 29 + h.cell.poison % 256 * 256
  else 0

/-- SCC_CP_RD_DATA(k, i). -/
def State.readPortData (s : State) (k i : Nat) : Nat :=
  if s.flag (Reg.SCC_CP_RD_CFG_EN k) then
    match (s.queue (s.get (Reg.SCC_CP_RD_CFG_QUEUE k))).head with
    | none => 0
    | some h => leVal (bytesAt h.cell.data (4 * i) 4)
  else 0

/-- The waiting posts proceed when the rebuild of the free list has ended (R366). -/
def State.rebuildDone (s : State) : State :=
  let w := s.pool.waiting
  let s := ({ s with pool := { s.pool with waiting := [], hidden := 0 } }).count Reg.SCC_CNT_FREE_REBUILD 1
  let s := w.foldl (fun s e => s.linkItem e.1 (e.2.map (fun c => (c.data, c.poison)))) s
  (List.range 8).foldl (fun s k =>
    if s.flag (Reg.SCC_CP_WR_STATUS_BUSY k) && w.any (fun e => e.1 == s.get (Reg.SCC_CP_WR_CFG_QUEUE k)) then
      s.puts [(Reg.SCC_CP_WR_STATUS_BUSY k, 0), (Reg.SCC_CP_WR_STATUS_RESULT k, 0)] else s) s

/-- R359 for a unit whose sideband asserts: the cells of items it began are freed and counted; the rest of an item it
read in part is discarded and counted. -/
def State.poolRemoval (s : State) (u : UnitId) (begun : Nat) : State :=
  let s := s.count Reg.SCC_CNT_ABANDONED begun
  let mine := dedup ((s.queueUses.filter (fun x => x.unit == u.id && !x.producer)).map (·.queue))
  mine.foldl (fun s q =>
    let x := s.queue q
    if x.partRead then
      let y : QueueSt := match x.mode with
        | .pool => { x with list := x.list.tail, partRead := false }
        | .fallback => { x with drain := x.drain.tail, partRead := false }
        | .reinstating =>
          if !x.drain.isEmpty then { x with drain := x.drain.tail, partRead := false }
          else if !x.fill.isEmpty then { x with fill := x.fill.tail, partRead := false }
          else { x with list := x.list.tail, partRead := false }
        | .sweeping => { x with partRead := false }
      (s.setQueue q y.settle).count Reg.SCC_CNT_PARTIAL_DROP 1
    else s) s

end Sys2Proof.Machine
end

