-- ==== Sys2Proof/Machine/Lock.lean ====
section
/-!
DEFINITION. The 256 hardware locks (14_cell_pool_and_locks.md, R371 to R373, Tables CPL-2 and CPL-3).
-/

namespace Sys2Proof.Machine

/-- Store a lock. -/
def State.setLock (s : State) (n : Fin 256) (l : LockSt) : State := { s with locks := s.locks.set n.val l n.isLt }

/-- An acquiring read of SCC_LOCK(n) (R371): the word read and the state. RESULT is 1 GRANTED, 2 BUSY, 3
BROKEN_GRANTED; OWNER is the owner after the read. -/
def State.acquire (s : State) (n : Fin 256) (r : Nat) : Nat × State :=
  let l := s.locks[n]
  match l.st with
  | .free => (2 ^ 30 + r, s.setLock n { st := .held, owner := r })
  | .held => if l.owner = r then (2 ^ 30 + r, s) else (2 * 2 ^ 30 + l.owner, s)
  | .broken => (3 * 2 ^ 30 + r, s.setLock n { st := .held, owner := r })

/-- A write to SCC_LOCK(n): its owner releases it, any other writer is refused (R372). -/
def State.release (s : State) (n : Fin 256) (r : Nat) : State :=
  let l := s.locks[n]
  if l.st = .held ∧ l.owner = r then s.setLock n { st := .free, owner := 0 }
  else s.refuse .scc 0x0B34 (Reg.SCC_LOCK n.val)

/-- A HELD lock becomes BROKEN: the event record names the lock, the old owner and, for a BREAK, the writer (R373). -/
def State.breakLock (s : State) (n : Fin 256) (writer : Nat) : State :=
  let l := s.locks[n]
  if l.st = .held then
    (s.setLock n { st := .broken, owner := l.owner }).fault .scc 20 0 0x09 0 n.val (writer * 2 ^ 16 + l.owner)
  else s

/-- Break every lock whose owner passes a test (a sideband, a link-down, a port reset: R373). -/
def State.breakLocksOf (s : State) (p : Nat → Bool) : State :=
  (List.finRange 256).foldl (fun s n => if p (s.locks[n]).owner && (s.locks[n]).st == .held then s.breakLock n 0 else s) s

/-- SCC_LOCK_PEEK(n): state and owner, without acquiring (R372). -/
def State.peek (s : State) (n : Fin 256) : Nat := (s.locks[n]).st.code * 2 ^ 30 + (s.locks[n]).owner

end Sys2Proof.Machine
end

