-- ==== Sys2Proof/Machine/Mem.lean ====
section
/-!
DEFINITION. The DRAM channels: address map, slot tables, arbitration, refresh, neighbour refresh, and the Lineage Table
(13_memory_subsystem.md, R328 to R349).
-/

namespace Sys2Proof.Machine

/-! ### Address interleave and mapping (R333, Table MSS-3) -/

/-- XOR of the n-bit fields of a number (at most ten fields: 40-bit addresses). -/
def xorFields (n g fuel : Nat) : Nat :=
  match fuel with
  | 0 => 0
  | k + 1 => (g % 2 ^ n) ^^^ xorFields n (g / 2 ^ n) k

/-- Bits of a channel number. -/
def State.chBits (s : State) : Nat := if s.variant.channels = 8 then 3 else 4

/-- The channel of a system address. -/
def State.channelOf (s : State) (a : Nat) : Nat := xorFields s.chBits (a / 4096 % 2 ^ 28) 10

/-- The channel-local address of a system address. -/
def State.localOf (s : State) (a : Nat) : Nat := a / 4096 / 2 ^ s.chBits * 4096 + a % 4096

/-- Where a channel-local address lies (Table MSS-3). -/
structure DramLoc where
  rank : Nat
  bankGroup : Nat
  bank : Nat
  row : Nat
  burst : Nat
  deriving DecidableEq, Repr

/-- Table MSS-3. -/
def dramLoc (twoRanks : Bool) (l : Nat) : DramLoc :=
  let row := if twoRanks then l / 2 ^ 18 else l / 2 ^ 17
  { rank := if twoRanks then bits l 17 17 else 0
    bankGroup := bits l 13 12 ^^^ bits row 1 0
    bank := bits l 15 14 ^^^ bits row 3 2
    row := row
    burst := bits l 11 6 + 64 * bits l 16 16 }

/-- Key of a bank among the open rows of a channel. -/
def DramLoc.key (d : DramLoc) : Nat := d.rank * 16 + d.bankGroup * 4 + d.bank

/-- tRFC in nanoseconds (R338). -/
def State.tRfc (s : State) : Nat := if s.flag Reg.MSS_CFG_DENSITY then 550 else 350

/-- Cycles of CLK_CTL in a number of nanoseconds. -/
def cyclesOf (ns : Nat) : Nat := ceilDiv (ns * 2) 5

/-! ### Slot tables (R340, R341) -/

/-- Place one requester's s entries from slot 0 of a table of 512, each at floor(512·i ÷ s) or the next FREE entry. -/
def nextFree (t : SMap Nat) (n fuel : Nat) : Nat :=
  match fuel with
  | 0 => n % 512
  | k + 1 => if (SMap.lookup t (n % 512)).isSome then nextFree t (n + 1) k else n % 512

/-- Entries of one requester (R341). -/
def placeRequester (t : SMap Nat) (id n : Nat) : SMap Nat :=
  (List.range n).foldl (fun t i => SMap.insert t (nextFree t (512 * i / n) 512) (0x40 + id)) t

/-- Insert a pair so that slot counts fall; equal counts keep the order of their IDs. -/
def insertBySlots (x : Nat × Nat) : List (Nat × Nat) → List (Nat × Nat)
  | [] => [x]
  | y :: t => if x.2 ≤ y.2 then y :: insertBySlots x t else x :: y :: t

/-- The slot table of a plan: CONTROL at 0, 128, 256, 384, then requesters in descending order of slot count. -/
def slotTable (slots : List (Nat × Nat)) : SMap Nat :=
  let ctl : SMap Nat := [(0, 0x80), (128, 0x80), (256, 0x80), (384, 0x80)]
  (slots.foldl (fun acc x => insertBySlots x acc) []).foldl (fun t x => placeRequester t x.1 x.2) ctl

/-- The active copy of a channel's slot table. -/
def State.activeCopy (s : State) (c : Nat) : Nat := s.get (Reg.MSS_SLOT_STATUS_ACTIVE c)

/-- Replace a channel. -/
def State.setCh (s : State) (c : Nat) (f : ChSt → ChSt) : State := { s with mss := { s.mss with ch := updN s.mss.ch c f } }

/-- A channel. -/
def State.chan (s : State) (c : Nat) : ChSt := getN s.mss.ch c ChSt.reset

/-- Write the plan in force into the inactive copy of every channel and set PENDING (R36, R341). -/
def State.writeSlotTables (s : State) (slots : List (Nat × Nat)) : State :=
  let t := slotTable slots
  (List.range s.variant.channels).foldl (fun s c =>
    let k := 1 - s.activeCopy c
    (s.setCh c (fun x => { x with tables := updN x.tables k (fun _ => t) })).put (Reg.MSS_SLOT_STATUS_PENDING c) 1) s

/-- The wrap of a channel's 512-slot cycle (R21, R340, R341, R342): a PENDING copy exchanges, MSS_ARB_CFG takes
effect, the Coppice allowance starts again, and paths waiting for the channel need wait no more (R36). -/
def State.wrapChannel (s : State) (c : Nat) : State :=
  let s := s.setCh c (fun x => { x with turn := 0, copUsed := 0 })
  let s := { s with mss := { s.mss with arbEff := s.reg Reg.MSS_ARB_CFG.ofs } }
  if s.flag (Reg.MSS_SLOT_STATUS_PENDING c) then
    let s := s.puts [(Reg.MSS_SLOT_STATUS_ACTIVE c, 1 - s.activeCopy c), (Reg.MSS_SLOT_STATUS_PENDING c, 0)]
    let s := { s with paths := s.paths.map (fun (p : PathSt) => { p with waitWrap := p.waitWrap.erase c }) }
    s.raise .mss 6
  else s

/-- A write through the slot table window: entries 4·i to 4·i + 3 of copy k of channel c (R342, Table REG-5). -/
def State.slotWrite (s : State) (ofs c k i : Nat) (v : Word) : State :=
  let f : Fld := ⟨ofs, 31, 0⟩
  if k = s.activeCopy c then s.refuse .mss 0x0901 f
  else if s.flag (Reg.MSS_SLOT_STATUS_PENDING c) then s.refuse .mss 0x0902 f
  else if !s.flag Reg.MSS_ARB_CFG_MANUAL then s.refuse .mss 0x0903 f
  else
    s.setCh c (fun x => { x with tables := updN x.tables k (fun t =>
      (List.range 4).foldl (fun t b => SMap.setD t 0 (4 * i + b) (bits v.toNat (8 * b + 7) (8 * b))) t) })

/-- A read of the slot table window. -/
def State.slotRead (s : State) (c k i : Nat) : Nat :=
  sumN ((List.range 4).map (fun b => SMap.getD (getN (s.chan c).tables k []) 0 (4 * i + b) * 2 ^ (8 * b)))

/-- A write to MSS_ARB_CFG, checked when it completes (R342). -/
def State.arbWrite (s : State) (v : Word) : State :=
  let f := Reg.MSS_ARB_CFG
  let lw := bits v.toNat 21 16
  let age := bits v.toNat 11 0
  if bitAt v.toNat 31 && s.plan.bookings.any (fun b => !b.leaving) then s.refuse .mss 0x0904 f
  else if (lw != 0 && decide (lw < 4)) || decide (age < 64) then s.refuse .mss 0x0908 f
  else s.setReg f.ofs (v &&& 0x803F0FFF)

/-- A write to MSS_NREF_CFG (R339): rows × 2^(12 − P) must not exceed COP_DRAM. -/
def State.nrefWrite (s : State) (v : Word) : State :=
  let f := Reg.MSS_NREF_CFG
  let p := bits v.toNat 4 0
  let rows := if bitAt v.toNat 8 then 4 else 2
  if p < 8 ∨ 16 < p ∨ s.get Reg.DEV_LDG_CTL_COP_DRAM * 2 ^ p < rows * 4096 then s.refuse .mss 0x0905 f
  else s.setReg f.ofs (v &&& 0x0000011F)

/-- SWAP in MSS_SLOT_CTL(c): PENDING in MANUAL mode (R342); outside it the ledger owns the tables. -/
def State.slotSwap (s : State) (c : Nat) : State :=
  if s.flag Reg.MSS_ARB_CFG_MANUAL then s.put (Reg.MSS_SLOT_STATUS_PENDING c) 1
  else s.refuse .mss 0x0903 (Reg.MSS_SLOT_CTL c)

/-- CLR in MSS_SLOT_CTL(c): the channel's counters and maxima (Table MSS-10). -/
def State.slotClr (s : State) (c : Nat) : State :=
  s.puts ([(Reg.MSS_CH_STATUS_RDQ_MAX c, 0), (Reg.MSS_CH_STATUS_WRQ_MAX c, 0)] ++
    [Reg.MSS_CNT_DETECT c, Reg.MSS_CNT_RETRY_OK c, Reg.MSS_CNT_POISON_READ c, Reg.MSS_CNT_RECOMPUTE c,
     Reg.MSS_CNT_CONCEAL c, Reg.MSS_CNT_COP_BUDGET c, Reg.MSS_CNT_COP_UNAVAIL c, Reg.MSS_CNT_DATA_ERR c,
     Reg.MSS_CNT_FWD c, Reg.MSS_CNT_MERGE c, Reg.MSS_CNT_RMW_POISON c, Reg.MSS_CNT_NREF c,
     Reg.MSS_CNT_REPLY_DROP c].map (fun f => (f, 0)))

/-! ### Arbitration (R334 to R337, R339, R340) -/

/-- The channel's 32-bit LFSR, x^32 + x^22 + x^2 + x + 1, advanced once (R339). -/
def lfsrStep (v : Nat) : Nat :=
  let fb := (bitAt v 31 != bitAt v 21) != (bitAt v 1 != bitAt v 0)
  v * 2 % 2 ^ 32 + b2n fb

/-- An ACT of a row: the LFSR advances, and a draw of zero refreshes the neighbours (R339). -/
def State.activate (s : State) (c : Nat) (d : DramLoc) : State :=
  let x := s.chan c
  let p := s.get Reg.MSS_NREF_CFG_P
  let hit := x.lfsr % 2 ^ p == 0
  let rows := if s.flag Reg.MSS_NREF_CFG_SPAN2 then 4 else 2
  let s := s.setCh c (fun x => { x with lfsr := lfsrStep x.lfsr, openRows := SMap.insert x.openRows d.key d.row,
                                        nref := if hit then x.nref + rows else x.nref })
  if hit then
    let s := s.count (Reg.MSS_CNT_NREF c) rows
    s.out (.memCommand c 1 d.row)
  else s

/-- Whether a request is a row hit. -/
def State.rowHit (s : State) (c : Nat) (r : MemReq) : Bool :=
  let d := dramLoc (s.flag Reg.MSS_CFG_RANKS) (s.localOf r.addr)
  SMap.lookup (s.chan c).openRows d.key == some d.row

/-- Record the highest queue occupancies since CLR. -/
def State.noteOccupancy (s : State) (c : Nat) : State :=
  let x := s.chan c
  s.puts [(Reg.MSS_CH_STATUS_RDQ_MAX c, max (s.get (Reg.MSS_CH_STATUS_RDQ_MAX c)) x.rdq.length),
          (Reg.MSS_CH_STATUS_WRQ_MAX c, max (s.get (Reg.MSS_CH_STATUS_WRQ_MAX c)) x.wrq.length)]

/-- Merge a later write into an earlier one to the same burst: the later one's enabled bytes stand (R336). -/
def mergeWrite (old new : MemReq) : MemReq :=
  { old with
    enables := List.zipWith (fun a b => a || b) old.enables new.enables
    data := (List.range 64).map (fun i => if new.enables.getD i false then new.data.getD i 0 else old.data.getD i 0) }

/-- Whether a read of the burst was granted after the youngest queued write to it. -/
def State.readSince (s : State) (c : Nat) (r : MemReq) (w : MemReq) : Bool :=
  (s.chan c).rdq.any (fun q => q.addr / 64 == r.addr / 64 && decide (w.since ≤ q.since))

/-- Grant a request: it enters its queue; a write may merge into a queued write to its burst, and a read of a burst
with queued writes is served by forwarding from the youngest of them (R336). -/
def State.grant (s : State) (c : Nat) (r : MemReq) : State :=
  let r := { r with since := s.now }
  let s := s.setCh c (fun x => { x with waiting := x.waiting.erase (x.waiting.find? (fun q => q.port == r.port && q.addr == r.addr && q.write == r.write) |>.getD r) })
  let x := s.chan c
  let young := (x.wrq.filter (fun w => w.addr / 64 == r.addr / 64)).getLast?
  match r.write, young with
  | true, some w =>
    if s.readSince c r w then s.setCh c (fun x => { x with wrq := x.wrq ++ [r] })
    else
      (s.setCh c (fun x => { x with wrq := x.wrq.map (fun q => if q == w then mergeWrite q r else q) })).count
        (Reg.MSS_CNT_MERGE c) 1
  | true, none => s.setCh c (fun x => { x with wrq := x.wrq ++ [r] })
  | false, some w =>
    -- forwarded: the enabled bytes of the write over what DRAM holds
    let d := (List.range 64).map (fun i => if w.enables.getD i false then w.data.getD i 0 else s.readByte (r.addr / 64 * 64 + i))
    (s.count (Reg.MSS_CNT_FWD c) 1).out (.memReply r.port r.addr 0 d)
  | false, none => s.setCh c (fun x => { x with rdq := x.rdq ++ [r] })

/-- R334: room in the queue of a request; an unreserved grant leaves eight entries free. -/
def ChSt.room (x : ChSt) (r : MemReq) (reserved : Bool) : Bool :=
  let n := if r.write then x.wrq.length else x.rdq.length
  if reserved then decide (n < 64) else decide (n + 8 < 64)

/-- The arbiter's choice in one turn (rules 1 to 5 of R340): the request and the rule. `copMax` is the Coppice
allowance per cycle, `lwN` is LW_N. -/
def ChSt.choose (x : ChSt) (table : SMap Nat) (masked : List Nat) (copMax lwN : Nat) : Option (MemReq × Nat) :=
  let reqs := x.waiting.filter (fun r => !masked.contains r.port)
  let e := SMap.getD table 0 x.turn
  let res := if e / 64 = 1 then reqs.find? (fun r => r.port == e % 64 && x.room r true) else none
  match res with
  | some r => some (r, 1)
  | none =>
    let ctl := if e / 64 = 2 then
        let l := reqs.filter (fun r => (r.control || r.port == 0x2D || r.port == 0x2E) && x.room r true)
        (l.find? (fun r => decide (x.lastControl < r.port))).orElse (fun _ => l.head?)
      else none
    match ctl with
    | some r => some (r, 2)
    | none =>
      match (if x.copUsed < copMax then reqs.find? (fun r => r.coppice && x.room r false) else none) with
      | some r => some (r, 3)
      | none =>
        let l := reqs.filter (fun r => !r.coppice && x.room r false)
        if lwN ≤ x.lwCount + 1 then
          (l.foldl (fun (acc : Option MemReq) r => match acc with
            | none => some r
            | some b => if r.since < b.since then some r else some b) none).map (fun r => (r, 4))
        else (x.rank.findSome? (fun p => l.find? (fun r => r.port == p))).map (fun r => (r, 5))

/-- The request a controller issues next from a queue (R335): the oldest past AGE_CAP, else a row hit, else the
oldest. -/
def State.issuePick (s : State) (c ageCycles : Nat) (q : List MemReq) : Option MemReq :=
  (q.find? (fun r => decide (r.since + ageCycles < s.now))).orElse (fun _ =>
    (q.find? (fun r => s.rowHit c r)).orElse (fun _ => q.head?))

/-- A write issues to DRAM: whole bursts are written; a partial write is a read-modify-write, whose read part carries
a poisoned burst's poison on (R337, R345). -/
def State.issueWrite (s : State) (c : Nat) (r : MemReq) : State :=
  let a := r.addr / 64 * 64
  let whole := r.enables.all id
  let bad := !whole && s.burstPoisoned a
  let d := (List.range 64).map (fun i => if r.enables.getD i false then r.data.getD i 0 else s.readByte (a + i))
  let s := s.write a d
  if bad then (s.poisonBursts a 64).count (Reg.MSS_CNT_RMW_POISON c) 1 else s

/-- The controller issues one queued request (R335, R336): it turns to writes at 48 queued or with no read waiting,
and back at 16 or when a read has waited AGE_CAP. A read leaves the queue and its data returns later
(DRAM_READ_RETURN). -/
def State.issue (s : State) (c : Nat) : State :=
  let x := s.chan c
  let age := s.mss.arbEff.toNat % 4096 / 2
  let aged := x.rdq.any (fun r => decide (r.since + age < s.now))
  let writing :=
    if x.writing then !(decide (x.wrq.length ≤ 16) || aged) && !x.wrq.isEmpty
    else (decide (48 ≤ x.wrq.length) || x.rdq.isEmpty) && !x.wrq.isEmpty
  let s := s.setCh c (fun x => { x with writing := writing })
  let touch := fun (s : State) (r : MemReq) =>
    if s.rowHit c r then s else s.activate c (dramLoc (s.flag Reg.MSS_CFG_RANKS) (s.localOf r.addr))
  if writing then
    match s.issuePick c age (x.wrq.filter (fun w =>
        !x.rdq.any (fun r => r.addr / 64 == w.addr / 64 && decide (r.since < w.since)))) with
    | none => s
    | some r => (touch (s.setCh c (fun x => { x with wrq := x.wrq.erase r })) r).issueWrite c r
  else
    match s.issuePick c age x.rdq with
    | none => s
    | some r => (touch (s.setCh c (fun x => { x with rdq := x.rdq.erase r })) r).out (.memCommand c 2 r.addr)

/-- Requests of the scratch space are answered DATA_ERROR and logged, without reaching DRAM (R331, Table FLT-9). -/
def State.scratchRequest (s : State) (r : MemReq) : State :=
  (s.logEvt .mss 0 0x84 0x13 r.addr r.port 0).out (.memReply r.port r.addr 2 [])

/-- One burst turn of a channel (R340): requests arrive, the arbiter grants, the controller issues. A turn inside a
refresh stall grants nothing. -/
def State.arbTurn (s : State) (c : Nat) (arrivals : List MemReq) : State :=
  let scratch := arrivals.filter (fun r => s.inScratch r.addr)
  let ok := arrivals.filter (fun r => !s.inScratch r.addr)
  let s := scratch.foldl (fun s r => s.scratchRequest r) s
  let s := s.setCh c (fun x => { x with waiting := x.waiting ++ ok.map (fun r => { r with since := s.now }) })
  let x := s.chan c
  let lw := bits s.mss.arbEff.toNat 21 16
  let lwN := if lw = 0 then 64 else lw
  let copMax := ceilDiv (512 * s.get Reg.DEV_LDG_CTL_COP_DRAM) 100
  let s :=
    if s.now < x.stallUntil then s
    else
      match x.choose (getN x.tables (s.activeCopy c) []) s.mss.masked copMax lwN with
      | none => s
      | some (r, rule) =>
        let s := s.setCh c (fun x => { x with
          copUsed := if rule = 3 then x.copUsed + 1 else x.copUsed
          lwCount := if rule = 4 then 0 else if rule = 5 then x.lwCount + 1 else x.lwCount
          rank := if rule = 5 then x.rank.filter (fun p => p != r.port) ++ [r.port] else x.rank
          lastControl := if rule = 2 then r.port else x.lastControl })
        s.grant c r
  let s := if s.now < x.stallUntil then s else s.issue c
  (s.noteOccupancy c).setCh c (fun x => { x with turn := (x.turn + 1) % 512 })

/-! ### Refresh (R332, R338) -/

/-- The refresh interval in force, in nanoseconds. -/
def State.tRefi (s : State) : Nat := if s.flag Reg.MSS_REF_STATUS_FAST then 3900 else 7800

/-- An all-bank refresh of a channel: rows close and the channel stalls for tRFC (R338). A rise of DDR_HOT selects the
short interval from the first refresh due after it. -/
def State.refresh (s : State) (c : Nat) : State :=
  let s := if s.flag Reg.MSS_REF_STATUS_DDR_HOT && !s.flag Reg.MSS_REF_STATUS_FAST then
      (s.put Reg.MSS_REF_STATUS_FAST 1).raise .mss 4 else s
  (s.setCh c (fun x => { x with openRows := [], stallUntil := s.now + cyclesOf s.tRfc })).out (.memCommand c 3 s.tRefi)

/-- DDR_HOT changes (R338). -/
def State.ddrHot (s : State) (high : Bool) : State :=
  let s := s.putB Reg.MSS_REF_STATUS_DDR_HOT high
  if high then s else { s with mss := { s.mss with hotLowSince := s.mediaNs } }

/-- After 1 s low the 7.8 µs interval returns (R338). -/
def State.ddrCool (s : State) : State :=
  if s.flag Reg.MSS_REF_STATUS_FAST && !s.flag Reg.MSS_REF_STATUS_DDR_HOT &&
      decide (s.mss.hotLowSince + 1000000000 ≤ s.mediaNs) then
    (s.put Reg.MSS_REF_STATUS_FAST 0).raise .mss 4
  else s

/-! ### The Lineage Table (R346, R347, R349) -/

/-- Bytes of a lineage page. -/
def pageBytes : Nat := 0x200000

/-- KIND codes of Table MSS-5. -/
def BufKind.code : BufKind → Nat
  | .corrRaw => 1 | .origRaw => 1 | .history => 2 | .render => 3 | .pcdRef => 4 | .motion => 5 | .packed => 6
  | .table => 7 | .eventLog => 9 | .lineage => 9 | .sapwood => 9

/-- The plan buffer that holds an address. -/
def State.bufAt (s : State) (a : Nat) : Option PlanBuf :=
  s.plan.bufs.find? (fun b => decide (b.base ≤ a ∧ a < b.base + ceilDiv b.bytes pageBytes * pageBytes))

/-- The static and dynamic fields of a buffer's Lineage Table entry (Table MSS-5). -/
def State.lineageEntry (s : State) (b : PlanBuf) : List Byte :=
  let d := SMap.getD s.mss.lin { frame := 0, retain := 0, recomputed := 0 } b.base
  leBytes 1 b.kind.code ++ leBytes 1 b.unit ++ leBytes 1 b.inst ++
    leBytes 1 (b2n b.recomputable + (if b.planar = 1 then 2 else if b.planar = 2 then 4 else 0)) ++
    leBytes 6 d.frame ++ leBytes 4 (b.base / pageBytes) ++ leBytes 2 (b.stride / 64) ++ leBytes 2 b.width ++
    leBytes 2 b.height ++ leBytes 1 b.bpp ++ [0] ++ leBytes 2 d.retain ++ zeros 8

/-- The Lineage Table's base, from the plan. -/
def State.linBase (s : State) : Nat := s.addr40 Reg.MSS_LIN_BASE_LO Reg.MSS_LIN_BASE_HI

/-- Write the entries of every page of a buffer (R346). -/
def State.writeLineage (s : State) (b : PlanBuf) : State :=
  if s.mss.capacity = 0 then s
  else
    (List.range (ceilDiv b.bytes pageBytes)).foldl
      (fun s i => s.write (s.linBase + 32 * (b.base / pageBytes + i)) (s.lineageEntry b)) s

/-- A producer starts a job into a buffer: FRAME and RETAIN (R346). -/
def State.startBuffer (s : State) (b : PlanBuf) (frame retain : Nat) : State :=
  let s := { s with mss := { s.mss with lin := SMap.insert s.mss.lin b.base { frame := frame, retain := retain, recomputed := 0 } } }
  s.writeLineage b

/-- A consumer has finished reading a buffer (R349). -/
def State.releaseBuffer (s : State) (base : Nat) : State :=
  match s.plan.bufs.find? (fun b => b.base == base), SMap.lookup s.mss.lin base with
  | some b, some d =>
    ({ s with mss := { s.mss with lin := SMap.insert s.mss.lin base { d with retain := d.retain - 1 } } }).writeLineage b
  | _, _ => s

/-- The buffer of a kind, instance and slot. -/
def State.buf (s : State) (k : BufKind) (inst slot : Nat) : Option PlanBuf :=
  s.plan.bufs.find? (fun b => b.kind == k && b.inst == inst && b.slot == slot)

/-- Number of buffers of a kind and instance. -/
def State.bufCount (s : State) (k : BufKind) (inst : Nat) : Nat :=
  (s.plan.bufs.filter (fun b => b.kind == k && b.inst == inst)).length

/-- Tiles across a buffer (R25). -/
def PlanBuf.across (b : PlanBuf) : Nat := ceilDiv b.width 256

/-- Tiles of a buffer. -/
def PlanBuf.tiles (b : PlanBuf) : Nat := b.across * ceilDiv b.height 64

/-- The tile of an address of a buffer (R25, R347): row from offset and STRIDE; the second plane of a planar buffer
stands below the first. -/
def PlanBuf.tileOf (b : PlanBuf) (a : Nat) : Nat :=
  let o := a - b.base
  let r := o / b.stride
  let row := if r < b.height then r else if b.planar = 1 then 2 * (r - b.height) else r - b.height
  let col := (o % b.stride) / b.bpp
  row / 64 * b.across + min col (b.width - 1) / 256

end Sys2Proof.Machine
end

