-- ==== Sys2Proof/Machine/Clip.lean ====
section
/-!
DEFINITION. The clip store: layout and its check, reels, takes, the reservation walk, the index writer, pins and trims
(13_memory_subsystem.md, R350 to R355, R480 to R482, R486, Tables MSS-7, MSS-8, MSS-13 to MSS-15).
-/

namespace Sys2Proof.Machine

/-- A reel. -/
def State.reel (s : State) (r : Nat) : ReelSt := getN s.clip.reels r ReelSt.reset

/-- Replace a reel. -/
def State.setReel (s : State) (r : Nat) (f : ReelSt → ReelSt) : State :=
  { s with clip := { s.clip with reels := updN s.clip.reels r f } }

/-- System address of a store block. -/
def State.blockAddr (s : State) (b : Nat) : Nat := s.clip.base + 4096 * b

/-- Bytes with their CRC-32 (R72) appended. -/
def withCrc (b : List Byte) : List Byte := b ++ leBytes 4 (crc32 b)

/-! ### Structures in the store -/

/-- The store header (Table MSS-13). -/
def storeHeader (c : ClipSt) : List Byte :=
  withCrc (leBytes 4 0x50494C43 ++ leBytes 2 0x0100 ++ zeros 2 ++ leBytes 4 c.generation ++ zeros 4 ++ leBytes 8 c.base ++
    leBytes 8 c.blocks ++ leBytes 8 c.metaStart ++ leBytes 8 c.metaBlocks ++ leBytes 8 c.userStart ++
    leBytes 8 c.userBlocks ++ zeros 4028)

/-- A reel descriptor (Table MSS-14). -/
def reelDescriptor (r : Nat) (x : ReelSt) : List Byte :=
  withCrc (leBytes 4 0x4C454552 ++ leBytes 1 r ++ zeros 3 ++ leBytes 8 x.indexStart ++ leBytes 4 x.indexEntries ++ zeros 4 ++
    leBytes 8 x.dataStart ++ leBytes 8 x.dataBlocks ++ zeros 4052)

/-- A take table entry (Table MSS-15). -/
def takeEntry (t : TakeInfo) : List Byte :=
  withCrc (leBytes 2 t.take ++ leBytes 1 t.st ++ leBytes 1 (b2n t.pinned) ++ leBytes 4 t.openSeq ++ leBytes 4 t.closeSeq ++
    zeros 16)

/-- A clip index entry (Table MSS-8). -/
structure IndexEntry where
  typ : Nat
  kind : Nat
  flags : Nat
  take : Nat
  path : Nat
  frame : Nat
  timeNs : Nat
  block : Nat
  bytes : Nat
  inTake : Nat
  seq : Nat
  deriving DecidableEq, Repr

/-- The 64 bytes of an index entry. -/
def IndexEntry.encode (e : IndexEntry) : List Byte :=
  withCrc (leBytes 1 e.typ ++ leBytes 1 e.kind ++ leBytes 2 e.flags ++ leBytes 2 e.take ++ leBytes 1 e.path ++ [0] ++
    leBytes 6 e.frame ++ zeros 2 ++ leBytes 6 (secOf e.timeNs) ++ leBytes 4 (nsecOf e.timeNs) ++ zeros 6 ++
    leBytes 8 e.block ++ leBytes 8 e.bytes ++ leBytes 4 e.inTake ++ leBytes 4 e.seq ++ zeros 4)

/-- An index entry read back; `none` where its CRC is wrong or its TYPE is free. -/
def IndexEntry.decode (b : List Byte) : Option IndexEntry :=
  if leVal (bytesAt b 60 4) = crc32 (bytesAt b 0 60) ∧ leVal (bytesAt b 0 1) ≠ 0 then
    some { typ := leVal (bytesAt b 0 1), kind := leVal (bytesAt b 1 1), flags := leVal (bytesAt b 2 2),
           take := leVal (bytesAt b 4 2), path := leVal (bytesAt b 6 1), frame := leVal (bytesAt b 8 6),
           timeNs := leVal (bytesAt b 16 6) * 1000000000 + leVal (bytesAt b 22 4), block := leVal (bytesAt b 32 8),
           bytes := leVal (bytesAt b 40 8), inTake := leVal (bytesAt b 48 4), seq := leVal (bytesAt b 52 4) }
  else none

/-- Address of index ring slot i of reel r. -/
def State.slotAddr (s : State) (r i : Nat) : Nat := s.blockAddr (s.reel r).indexStart + 64 * i

/-- Address of take table entry e of reel r. -/
def State.takeAddr (s : State) (r e : Nat) : Nat := s.blockAddr (16 + 8 * r) + 32 * e

/-- Write take table entry e of reel r. -/
def State.writeTake (s : State) (r e : Nat) (t : TakeInfo) : State :=
  (s.setReel r (fun x => { x with takes := SMap.insert x.takes e t })).write (s.takeAddr r e) (takeEntry t)

/-- Whether the store's data of a reel may be reused: a closed, unpinned take whose close is complete (R352). -/
def ReelSt.erasable (x : ReelSt) (take : Nat) : Bool :=
  take != x.openTake && !x.closing.any (fun c => c.take == take) &&
    x.takes.any (fun e => e.2.take == take && e.2.st == 2 && !e.2.pinned)

/-- Erase a take: its table entry is freed first, then its index entries (R352, R353). -/
def State.eraseTake (s : State) (r take : Nat) : State :=
  let x := s.reel r
  let es := (x.takes.filter (fun e => e.2.take == take)).map (·.1)
  let s := es.foldl (fun s e => (s.setReel r (fun x => { x with takes := SMap.erase x.takes e })).write (s.takeAddr r e) (zeros 32)) s
  let is := (x.idx.filter (fun e => e.2.take == take)).map (·.1)
  is.foldl (fun s i => (s.setReel r (fun x => { x with idx := SMap.erase x.idx i })).write (s.slotAddr r i) (zeros 64)) s

/-! ### The walk (R352) -/

/-- An occupied range of the data ring: start, blocks, take. -/
def ReelSt.ranges (x : ReelSt) : List (Nat × Nat × Nat) :=
  (x.idx.filter (fun e => e.2.blocks != 0)).map (fun e => (e.2.block - x.dataStart, e.2.blocks, e.2.take))

/-- Walk forward from p for n contiguous blocks; `left` is how far the walk may still go before it is back at its
start, where it fails (notes/assumptions/105.md). Ranges of erasable takes count as free; others are stepped past; the ring's end is skipped. -/
def ReelSt.walkData (x : ReelSt) (used : List (Nat × Nat)) (n p left fuel : Nat) : Option (Nat × List Nat) :=
  match fuel with
  | 0 => none
  | k + 1 =>
    if left = 0 ∨ x.dataBlocks < n then none
    else if x.dataBlocks < p + n then x.walkData used n 0 (left - (x.dataBlocks - p)) k
    else
      let hit := x.ranges.filter (fun g => decide (g.1 < p + n ∧ p < g.1 + g.2.1))
      let stop := hit.filter (fun g => !x.erasable g.2.2)
      let mine := used.filter (fun g => decide (g.1 < p + n ∧ p < g.1 + g.2))
      let far := max (maxN (stop.map (fun g => g.1 + g.2.1))) (maxN (mine.map (fun g => g.1 + g.2)))
      if stop.isEmpty ∧ mine.isEmpty then some (p, dedup (hit.map (·.2.2)))
      else x.walkData used n far (left - (far - p)) k

/-- Walk the index ring from p for n slots. -/
def ReelSt.walkIdx (x : ReelSt) (n p left : Nat) : Option (List Nat × List Nat) :=
  match n, left with
  | 0, _ => some ([], [])
  | _ + 1, 0 => none
  | m + 1, k + 1 =>
    match SMap.lookup x.idx (p % x.indexEntries) with
    | none => (x.walkIdx m ((p + 1) % x.indexEntries) k).map (fun r => (p % x.indexEntries :: r.1, r.2))
    | some e =>
      if x.erasable e.take then
        (x.walkIdx m ((p + 1) % x.indexEntries) k).map (fun r => (p % x.indexEntries :: r.1, e.take :: r.2))
      else x.walkIdx (m + 1) ((p + 1) % x.indexEntries) k

/-- Walk for several single areas of data one after the other. -/
def ReelSt.walkAreas (x : ReelSt) (areas : List Nat) (used : List (Nat × Nat)) (p : Nat) : Option (List Nat × List Nat) :=
  match areas with
  | [] => some ([], [])
  | n :: t =>
    match x.walkData used n p x.dataBlocks (2 * (x.idx.length + used.length) + 4) with
    | none => none
    | some (q, takes) =>
      (x.walkAreas t ((q, n) :: used) (q + n)).map (fun r => (q :: r.1, takes ++ r.2))

/-- The first part of a reservation: where the data areas and the index slots would be, and the takes to erase. -/
def ReelSt.find (x : ReelSt) (areas : List Nat) (slots : Nat) : Option (List Nat × List Nat × List Nat) :=
  if x.dataBlocks = 0 ∨ x.indexEntries = 0 then none
  else
    match x.walkAreas areas [] x.headData, x.walkIdx slots x.headIdx x.indexEntries with
    | some (ps, t1), some (is, t2) => some (ps, is, dedup (t1 ++ t2))
    | _, _ => none

/-- The walk fails: FULL, CLIP_STORE_FULL, an event that names the reel and the path, and the host's asynchronous
event (R352, R398). -/
def State.storeFull (s : State) (r path : Nat) : State :=
  ((s.put (Reg.MSS_REEL_STATUS_FULL r) 1).fault .mss 3 r 0x0B 0 path 0).asyncFree 2 r

/-- Bring MSS_REEL_FREE in line: data blocks free without erasure. -/
def State.noteFree (s : State) (r : Nat) : State :=
  let x := s.reel r
  s.put (Reg.MSS_REEL_FREE r) (x.dataBlocks - sumN (x.ranges.map (·.2.1)))

/-- Reserve data areas and index slots for a take: the takes counted as free are erased once space for the whole
reservation is found (R351, R352). Each slot holds one area, slots beyond the areas none. -/
def State.reserve (s : State) (r take path : Nat) (areas : List Nat) (slots : Nat) : Option (List (Nat × Nat) × State) :=
  match (s.reel r).find areas slots with
  | none => none
  | some (ps, is, erase) =>
    let s := erase.foldl (fun s t => s.eraseTake r t) s
    let base := (s.reel r).dataStart
    let pairs := (List.range slots).map (fun k => (is.getD k 0, if k < areas.length then base + ps.getD k 0 else 0))
    let s := (List.range slots).foldl (fun s k =>
      s.setReel r (fun x => { x with
        idx := SMap.insert x.idx (is.getD k 0) { take := take, path := path, block := (pairs.getD k (0, 0)).2, blocks := areas.getD k 0, seq := 0, written := false } })) s
    let s := s.setReel r (fun x => { x with
      headIdx := match is.getLast? with
        | some i => (i + 1) % x.indexEntries
        | none => x.headIdx
      headData := match ps.getLast?, areas.getLast? with
        | some p, some n => (p + n) % x.dataBlocks
        | _, _ => x.headData })
    some (pairs, (s.put (Reg.MSS_REEL_STATUS_FULL r) 0).noteFree r)

/-- Write an index entry with the reel's next SEQ into a reserved slot (R351); blocks beyond BYTES return to the
ring. -/
def State.writeIndex (s : State) (r slot : Nat) (e : IndexEntry) : State :=
  let x := s.reel r
  let e := { e with seq := x.nextSeq }
  let s := s.setReel r (fun x => { x with
    nextSeq := (x.nextSeq + 1) % 2 ^ 32
    idx := SMap.insert x.idx slot { take := e.take, path := e.path, block := e.block, blocks := ceilDiv e.bytes 4096,
                                    seq := e.seq, written := true } })
  (s.write (s.slotAddr r slot) e.encode).noteFree r

/-! ### Frames of recording paths -/

/-- The reel a recording path writes to (R119, R355 and the chapters of the sinks). -/
def State.reelOf (s : State) (kind idx : Nat) : Option Nat :=
  match kind with
  | 3 => some (s.get (Reg.PCD_SES_OUT_REEL idx))
  | 4 => some (s.get (Reg.RPK_ENG_CFG_REEL idx))
  | 5 => some (if idx = 0 then s.get Reg.RFE_REC_CFG_REEL_CORR else s.get Reg.RFE_REC_CFG_REEL_ORIG)
  | 6 => some (s.get (Reg.ORE_RI_CFG_REEL idx))
  | 7 => some (s.get (Reg.APU_PORT_REC_REEL idx))
  | _ => none

/-- The open take that counts at a boundary of this cycle, 0 for none (R22, R355, R486): one that opened in an earlier
cycle, and one that closes in this cycle. -/
def State.takeAt (s : State) (r : Nat) : Nat :=
  let x := s.reel r
  if x.openTake != 0 && decide (x.openedAt < s.now) then x.openTake
  else ((x.closing.find? (fun c => c.countsAt == some s.now)).map (·.take)).getD 0

/-- The reel has an open take that counts at this boundary. -/
def State.takeOpenNow (s : State) (r : Nat) : Bool := s.takeAt r != 0

/-- Reserve the space of a frame on its reel (R242, R351); a failed walk is reported (R352). -/
def State.reserveFrame (s : State) (r path frame bytes stamp : Nat) : Bool × State :=
  let take := s.takeAt r
  match s.reserve r take path [max 1 (ceilDiv bytes 4096)] 1 with
  | none => (false, s.storeFull r path)
  | some (pairs, s) =>
    let p := pairs.headD (0, 0)
    (true, s.setReel r (fun x => { x with reservations := x.reservations ++
      [{ path := path, frame := frame, stamp := stamp, take := take, slot := p.1, block := p.2, blocks := max 1 (ceilDiv bytes 4096) }] }))

/-- The reservation of a frame. -/
def State.reservation (s : State) (r path frame : Nat) : Option Reservation :=
  (s.reel r).reservations.find? (fun v => v.path == path && v.frame == frame)

/-- A frame is delivered on its path; its latency from the source time stamp is a gauge sample, in µs (R17, R433). -/
def State.deliver (s : State) (path frame stamp : Nat) : State :=
  let s := s.gauge 1 path (((s.mediaNs : Int) - stamp) / 1000)
  ({ s with paths := updN s.paths path (fun p => { p with lastDel := frame, inFlight := p.inFlight.filter (fun x => x != frame) }) }).out
    (.delivered path frame)

/-- The clip writer writes a frame's index entry, which delivers it (R351, Table JRN-2). FLAGS are POISON and
INCOMPLETE. -/
def State.indexFrame (s : State) (r path frame kind flags bytes timeNs : Nat) : State :=
  match s.reservation r path frame with
  | none => s
  | some v =>
    let n := SMap.getD (s.reel r).frameInTake 0 (256 * v.take + path)
    let s := s.writeIndex r v.slot {
      typ := if kind = 5 then 2 else 1, kind := kind, flags := flags, take := v.take, path := path,
      frame := frame, timeNs := timeNs, block := v.block, bytes := bytes, inTake := n, seq := 0 }
    let s := s.setReel r (fun x => { x with reservations := x.reservations.filter (fun w => w != v),
                                            frameInTake := SMap.insert x.frameInTake (256 * v.take + path) (n + 1) })
    if kind = 5 then s else s.deliver path frame timeNs

/-- Give a reservation back without an entry (R253). -/
def State.returnSpace (s : State) (r path frame : Nat) : State :=
  match s.reservation r path frame with
  | none => s
  | some v =>
    (s.setReel r (fun x => { x with reservations := x.reservations.filter (fun w => w != v), idx := SMap.erase x.idx v.slot })).noteFree r

/-! ### Takes (R354, R481, R482, R486) -/

/-- Packed raw paths that record to a reel, in ascending path number. -/
def State.packedPaths (s : State) (r : Nat) : List Nat :=
  sortBy id ((s.plan.bookings.filter (fun b => b.kind == 4 && s.get (Reg.RPK_ENG_CFG_REEL b.idx) == r)).map (·.path))

/-- The next take number whose table entry is not pinned, from n on (R481). -/
def ReelSt.freeTake (x : ReelSt) (n fuel : Nat) : Option Nat :=
  match fuel with
  | 0 => none
  | k + 1 =>
    match SMap.lookup x.takes ((n - 1) % 1024) with
    | none => some n
    | some t =>
      if t.pinned || !x.erasable t.take then x.freeTake (if n = 65535 then 1 else n + 1) k else some n

/-- Try to open the take that REC requested: the walk, then the table entry, TAKE_OPEN and the ERP_FILE entries, whose
64-byte file headers are `headers` (path, bytes) (R354, R482). -/
def State.tryOpen (s : State) (r : Nat) (headers : List (Nat × List Byte)) : State :=
  let x := s.reel r
  if !x.requested ∨ x.openTake ≠ 0 then s
  else
    let packed := s.packedPaths r
    match x.freeTake x.nextTake 1024 with
    | none => s.storeFull r 0xFF
    | some take =>
      let e := (take - 1) % 1024
      let s0 := match SMap.lookup x.takes e with
        | some old => s.eraseTake r old.take
        | none => s
      match s0.reserve r take 0xFF (packed.map (fun _ => 1)) (packed.length + 2) with
      | none => s.storeFull r 0xFF
      | some (pairs, s) =>
        let t := s.mediaNs
        let openSlot := (pairs.getD packed.length (0, 0)).1
        let closeSlot := (pairs.getD (packed.length + 1) (0, 0)).1
        let seq := (s.reel r).nextSeq
        let s := s.writeTake r e { take := take, st := 1, pinned := false, openSeq := seq, closeSeq := 0 }
        let s := s.writeIndex r openSlot { typ := 3, kind := 0, flags := 0, take := take, path := 0xFF, frame := 0, timeNs := t,
                                           block := 0, bytes := 0, inTake := 0, seq := 0 }
        let s := (List.range packed.length).foldl (fun s k =>
          let p := packed.getD k 0
          let pr := pairs.getD k (0, 0)
          let s := s.write (s.blockAddr pr.2) (((headers.find? (fun h => h.1 == p)).map (·.2)).getD (zeros 64))
          s.writeIndex r pr.1 { typ := 5, kind := 0, flags := 0, take := take, path := p, frame := 0, timeNs := t, block := pr.2,
                                bytes := 64, inTake := 0, seq := 0 }) s
        let s := s.setReel r (fun x => { x with
          openTake := take, closeSlot := closeSlot, openedAt := s.now, requested := false,
          nextTake := if take = 65535 then 1 else take + 1
          frameInTake := x.frameInTake.filter (fun e => x.closing.any (fun c => c.take == e.1 / 256)) })
        s.puts [(Reg.MSS_REEL_STATUS_OPEN r, 1), (Reg.MSS_REEL_STATUS_TAKE r, take)]

/-- A write of REC in MSS_REEL_CTL(r) (R354, R486); on an absent reel it is refused with 0x0907. -/
def State.recWrite (s : State) (r : Nat) (rec : Bool) : State :=
  let x := s.reel r
  if rec && x.dataBlocks == 0 then s.refuse .mss 0x0907 (Reg.MSS_REEL_CTL r)
  else
    let s := s.putB (Reg.MSS_REEL_CTL_REC r) rec
    if rec then
      if x.openTake != 0 || x.requested then s
      else
        let s := s.setReel r (fun x => { x with requested := true })
        match x.freeTake x.nextTake 1024, x.find ((s.packedPaths r).map (fun _ => 1)) ((s.packedPaths r).length + 2) with
        | some _, some _ => s
        | _, _ => s.storeFull r 0xFF
    else if x.openTake != 0 then
      (s.setReel r (fun x => { x with
        requested := false, openTake := 0
        closing := x.closing ++ [{ take := x.openTake, timeNs := s.mediaNs, slot := x.closeSlot,
                                   countsAt := if x.openedAt < s.now then some s.now else none }] })).puts
        [(Reg.MSS_REEL_STATUS_OPEN r, 0), (Reg.MSS_REEL_STATUS_TAKE r, 0)]
    else s.setReel r (fun x => { x with requested := false })

/-- TAKE_CLOSE: once the last frame accepted before the close is delivered, the entry reserved at the opening is
written and the take reads CLOSED (R486). A boundary in the cycle of the close can still accept a frame. -/
def State.takeClose (s : State) (r : Nat) : State :=
  let x := s.reel r
  match x.closing with
  | [] => s
  | c :: rest =>
    if x.reservations.any (fun v => v.take == c.take) ∨ c.countsAt = some s.now then s
    else
      let seq := x.nextSeq
      let s := s.writeIndex r c.slot { typ := 4, kind := 0, flags := 0, take := c.take, path := 0xFF, frame := 0, timeNs := c.timeNs,
                                       block := 0, bytes := 0, inTake := 0, seq := 0 }
      let e := (c.take - 1) % 1024
      let s := match SMap.lookup (s.reel r).takes e with
        | some t => s.writeTake r e { t with st := 2, closeSeq := seq }
        | none => s
      s.setReel r (fun x => { x with closing := rest })

/-- The table entry number of a take. -/
def ReelSt.takeSlot (x : ReelSt) (take : Nat) : Option (Nat × TakeInfo) := x.takes.find? (fun e => e.2.take == take)

/-- PIN or UNPIN of a take by the reel controller (R353); whether the take exists, and whether it was pinned. -/
def State.pinTake (s : State) (r take : Nat) (pin : Bool) : (Bool × Bool) × State :=
  match (s.reel r).takeSlot take with
  | none => ((false, false), s)
  | some (e, t) => ((true, t.pinned), s.writeTake r e { t with pinned := pin })

/-! ### Creation, validation and reopening (R350, R460, R480, R481) -/

/-- An area of the store: first block and number of blocks. -/
def overlaps (a b : Nat × Nat) : Bool := decide (a.1 < b.1 + b.2 ∧ b.1 < a.1 + a.2 ∧ a.2 ≠ 0 ∧ b.2 ≠ 0)

/-- The areas of a store beyond its fixed head of 256 blocks. -/
def ClipSt.areas (c : ClipSt) : List (Nat × Nat) :=
  (0, 256) :: (c.metaStart, c.metaBlocks) :: (c.userStart, c.userBlocks) ::
    c.reels.toList.flatMap (fun x => [(x.indexStart, ceilDiv (x.indexEntries * 64) 4096), (x.dataStart, x.dataBlocks)])

/-- No two areas of a list overlap. -/
def disjoint : List (Nat × Nat) → Bool
  | [] => true
  | a :: t => t.all (fun b => !overlaps a b) && disjoint t

/-- A layout Heartwood accepts (R350). -/
def State.layoutOk (s : State) (c : ClipSt) : Bool :=
  c.base % 0x200000 == 0 &&
  decide (c.base + 4096 * c.blocks ≤ s.mss.capacity - 0x10000 * s.variant.channels) &&
  c.areas.all (fun a => decide (a.1 + a.2 ≤ c.blocks)) && disjoint c.areas &&
  c.reels.toList.all (fun x => (x.indexEntries == 0 && x.dataBlocks == 0) ||
    (decide (64 ≤ x.indexEntries) && decide (1024 ≤ x.dataBlocks)))

/-- The store that a CLIP_LAYOUT section describes: base and blocks, metadata and user areas, eight reels. Table BOOT-3 names the
fields and not their places in the section, so that each is an opaque function of its bytes (notes/assumptions/46.md). -/
def layout (sec : List Byte) : ClipSt :=
  let f := Config.clipField sec
  { ClipSt.reset with
    base := f 0, blocks := f 1, metaStart := f 2, metaBlocks := f 3, userStart := f 4, userBlocks := f 5
    reels := (List.range 8).foldl (fun v r => updN v r (fun _ => { ReelSt.reset with
      indexStart := f (6 + 4 * r), indexEntries := f (7 + 4 * r), dataStart := f (8 + 4 * r), dataBlocks := f (9 + 4 * r) })) ClipSt.reset.reels }

/-- Publish the store in the MSS registers. -/
def State.publishStore (s : State) (st : Nat) : State :=
  let s := s.puts [(Reg.MSS_CLIP_BASE_LO, s.clip.base % 2 ^ 32), (Reg.MSS_CLIP_BASE_HI, s.clip.base / 2 ^ 32),
    (Reg.MSS_CLIP_BLOCKS_LO, s.clip.blocks % 2 ^ 32), (Reg.MSS_CLIP_BLOCKS_HI, s.clip.blocks / 2 ^ 32),
    (Reg.MSS_CLIP_STATE, st)]
  (List.range 8).foldl (fun s r => s.noteFree r) s

/-- Create a store: copy A of the header with GENERATION 1, the reel descriptors, and free take tables (R480). -/
def State.createStore (s : State) (c : ClipSt) : State :=
  let s := { s with clip := { c with generation := 1, headerCopy := 0 } }
  let s := s.write (s.blockAddr 0) (storeHeader s.clip)
  let s := s.write (s.blockAddr 1) (zeros 4096)
  let s := (List.range 8).foldl (fun s r =>
    let s := s.write (s.blockAddr (2 + r)) (reelDescriptor r (s.reel r))
    let s := s.write (s.blockAddr (16 + 8 * r)) (zeros 32768)
    s.write (s.blockAddr (s.reel r).indexStart) (zeros (64 * (s.reel r).indexEntries))) s
  s.publishStore 1

/-- The GENERATION of a header copy whose MAGIC and CRC are good. -/
def State.headerGen (s : State) (base copy : Nat) : Option Nat :=
  let b := s.read (base + 4096 * copy) 4096
  if leVal (bytesAt b 0 4) = 0x50494C43 ∧ leVal (bytesAt b 4092 4) = crc32 (bytesAt b 0 4092) then some (leVal (bytesAt b 8 4))
  else none

/-- The index ring of a reel as DRAM holds it. -/
def State.scanIndex (s : State) (r : Nat) : List (Nat × IndexEntry) :=
  (List.range (s.reel r).indexEntries).filterMap (fun i => (IndexEntry.decode (s.read (s.slotAddr r i) 64)).map (fun e => (i, e)))

/-- Rebuild a reel from DRAM: takes, index, head from the highest valid SEQ; an open take closes at its last valid
entry (R460, R481). -/
def State.reopenReel (s : State) (r : Nat) : State :=
  let entries := s.scanIndex r
  let top := entries.foldl (fun (acc : Option (Nat × IndexEntry)) e => match acc with
    | none => some e
    | some b => if b.2.seq < e.2.seq then some e else some b) none
  let takes : SMap TakeInfo := (List.range 1024).filterMap (fun e =>
    let b := s.read (s.takeAddr r e) 32
    if leVal (bytesAt b 28 4) = crc32 (bytesAt b 0 28) ∧ leVal (bytesAt b 2 1) ≠ 0 then
      some (e, { take := leVal (bytesAt b 0 2), st := leVal (bytesAt b 2 1), pinned := leVal (bytesAt b 3 1) % 2 == 1,
                 openSeq := leVal (bytesAt b 4 4), closeSeq := leVal (bytesAt b 8 4) })
    else none)
  let lastTake := ((entries.filter (fun e => e.2.typ == 3)).foldl (fun (acc : Nat × Nat) e =>
    if acc.1 ≤ e.2.seq then (e.2.seq, e.2.take) else acc) (0, 0)).2
  let s := s.setReel r (fun x => { x with
    takes := takes
    idx := entries.foldl (fun m e => SMap.insert m e.1 {
      take := e.2.take, path := e.2.path, block := e.2.block
      blocks := ceilDiv e.2.bytes 4096, seq := e.2.seq, written := true }) []
    nextSeq := match top with
      | some t => t.2.seq + 1
      | none => 0
    headIdx := match top with
      | some t => (t.1 + 1) % x.indexEntries
      | none => 0
    headData := match top with
      | some t => if t.2.bytes = 0 then x.headData else (t.2.block + ceilDiv t.2.bytes 4096 - x.dataStart) % x.dataBlocks
      | none => 0
    nextTake := if lastTake = 0 then 1 else if lastTake = 65535 then 1 else lastTake + 1
    openTake := 0, closing := [], reservations := [], requested := false })
  takes.foldl (fun s e =>
    if e.2.st = 1 then
      s.writeTake r e.1 { e.2 with st := 2, closeSeq := maxN ((entries.filter (fun i => i.2.take == e.2.take)).map (·.2.seq)) }
    else s) s

/-- Reopen a retained store: the other header copy takes GENERATION one above the current one (R480). -/
def State.reopenStore (s : State) (c : ClipSt) : State :=
  let g0 := s.headerGen c.base 0
  let g1 := s.headerGen c.base 1
  let cur := if (g0.getD 0) < (g1.getD 0) then 1 else 0
  let gen := max (g0.getD 0) (g1.getD 0) + 1
  let s := { s with clip := { c with generation := gen, headerCopy := 1 - cur } }
  let s := s.write (s.blockAddr (1 - cur)) (storeHeader s.clip)
  let s := (List.range 8).foldl (fun s r => if (s.reel r).indexEntries = 0 then s else s.reopenReel r) s
  s.publishStore 2

end Sys2Proof.Machine
end

