-- ==== Sys2Proof/Machine/Audio.lean ====
section
/-!
DEFINITION. Audio blocks: slot maps, sample packing, receive blocks and their posts, and what a video source's frame
boundary does to them (11_audio_ports.md, R291 to R297, R306).
-/

namespace Sys2Proof.Machine

/-- A port. -/
def State.port (s : State) (p : Nat) : PortSt := getN s.apu.ports p PortSt.reset

/-- Replace a port. -/
def State.setPort (s : State) (p : Nat) (f : PortSt → PortSt) : State := { s with apu := { s.apu with ports := updN s.apu.ports p f } }

/-- STATE of a port: 0 DISABLED, 1 IDLE, 2 ARMED, 3 LEAD_IN, 4 RUNNING, 5 TRAIL, 6 LOST. -/
def State.portState (s : State) (p : Nat) : Nat := s.get (Reg.APU_PORT_STATUS_STATE p)

/-- Change a port's state. -/
def State.setPortState (s : State) (p st : Nat) : State := s.put (Reg.APU_PORT_STATUS_STATE p) st

/-- Nominal Fs of a port as numerator and denominator in Hz (R291, Table APU-2). -/
def State.portRate (s : State) (p : Nat) : Nat × Nat :=
  let hz := ([32000, 44100, 48000, 88200, 96000, 176400, 192000] : List Nat).getD (s.get (Reg.APU_PORT_CFG_RATE_CLASS p)) 48000
  if s.flag (Reg.APU_PORT_CFG_PULL p) then (hz * 1000, 1001) else (hz, 1)

/-- Bits of a word (WORD_BITS). -/
def wordBits (c : Nat) : Nat := ([16, 20, 24, 32] : List Nat).getD c 32

/-- Bytes of a packed sample (Table APU-4). -/
def sampleBytes (pack : Nat) : Nat := if pack = 0 then 2 else if pack = 1 then 3 else 4

/-- A word of w bits as Table APU-4 packs it. -/
def packSample (pack w v : Nat) : List Byte :=
  match pack with
  | 0 => leBytes 2 v
  | 1 => leBytes 3 (v * 2 ^ (24 - w))
  | 2 => leBytes 4 (v * 2 ^ (32 - w))
  | _ => leBytes 4 (ofSigned 32 (toSigned w v))

/-- The word of w bits in a packed sample. -/
def unpackSample (pack w : Nat) (b : List Byte) : Nat :=
  match pack with
  | 0 => leVal b % 2 ^ w
  | 1 => leVal b / 2 ^ (24 - w) % 2 ^ w
  | 2 => leVal b / 2 ^ (32 - w) % 2 ^ w
  | _ => leVal b % 2 ^ w

/-- The top n bits of a packed sample, as a consumer takes them (R296): a P32R sample's word is 24 bits wide at most,
and its sign extension carries it. -/
def topBits (pack n : Nat) (b : List Byte) : Nat :=
  match pack with
  | 0 => leVal b * 2 ^ n / 2 ^ 16 % 2 ^ n
  | 1 => leVal b * 2 ^ n / 2 ^ 24 % 2 ^ n
  | 2 => leVal b * 2 ^ n / 2 ^ 32 % 2 ^ n
  | _ => leVal b % 2 ^ 24 * 2 ^ n / 2 ^ 24 % 2 ^ n

/-- Entry i of a slot map copy. -/
def State.slotEntry (s : State) (p copy i : Nat) : Nat := SMap.getD (getN (s.port p).maps copy []) 0 i

/-- Slots of the active map that a direction uses (0 RX, 1 TX), in ascending order (R292). -/
def State.portSlots (s : State) (p copy dir : Nat) : List Nat :=
  (List.range 16).filter (fun i => bitAt (s.slotEntry p copy i) 31 && bits (s.slotEntry p copy i) 30 30 == dir)

/-- The active slot map copy. -/
def State.portMap (s : State) (p : Nat) : Nat := s.get (Reg.APU_PORT_STATUS_ACTIVE p)

/-- Channel labels of slots. -/
def State.slotLabels (s : State) (p copy : Nat) (l : List Nat) : List Nat := l.map (fun i => s.slotEntry p copy i % 128)

/-- The audio frame index of a port. -/
def State.aframe (s : State) (p : Nat) : Nat := s.get (Reg.APU_AFRAME_LO p) + 2 ^ 32 * s.get (Reg.APU_AFRAME_HI_V p)

/-- Set it. -/
def State.setAframe (s : State) (p v : Nat) : State :=
  s.puts [(Reg.APU_AFRAME_LO p, v % 2 ^ 32), (Reg.APU_AFRAME_HI_V p, v / 2 ^ 32 % 2 ^ 16)]

/-- The video source a port is associated with has had a boundary: the boundary. -/
def State.assocBoundary (s : State) (p : Nat) : Option SrcBoundary :=
  let a := s.get (Reg.APU_PORT_ASSOC_ASSOC p)
  if a = 0 then none else SMap.lookup s.apu.srcs a

/-- The audio recording path of a port. -/
def State.audioPath (s : State) (p : Nat) : Option Booking := s.plan.bookings.find? (fun b => b.kind == 7 && b.idx == p)

/-- FRAME of a block (R294): the counter of the recording path of the port, or of the first path of the source. -/
def State.blockFrame (s : State) (p : Nat) : Nat :=
  match s.assocBoundary p with
  | none => 0
  | some b =>
    ((s.audioPath p).bind (fun k => (b.begun.find? (fun e => e.1 == k.path)).map (·.2))).getD ((b.begun.head?.map (·.2)).getD 0)

/-- A block: its header cell (Table APU-3) and its samples (R295, R296). -/
def State.blockBytes (s : State) (p flags : Nat) (b : RxBlock) : List Byte :=
  let pack := s.get (Reg.APU_PORT_CFG_PACK p)
  let w := wordBits (s.get (Reg.APU_PORT_CFG_WORD_BITS p))
  let head := leBytes 6 b.frame ++ leBytes 6 b.aframe ++ leBytes 6 (secOf b.time) ++ leBytes 4 (nsecOf b.time) ++
    leBytes 2 b.frames.length ++ leBytes 1 p ++ leBytes 1 b.labels.length ++ leBytes 1 pack ++
    leBytes 1 (s.get (Reg.APU_PORT_CFG_RATE_CLASS p) + 128 * s.get (Reg.APU_PORT_CFG_PULL p)) ++ leBytes 2 (b.flags ||| flags) ++ zeros 2 ++
    (List.range 16).map (fun c => BitVec.ofNat 8 (b.labels.getD c 0xFF)) ++ zeros 16
  head ++ b.frames.flatMap (fun f => f.flatMap (packSample pack w))

/-- Post a block to one queue; a queue that cannot take all of it loses it (R297, R484). -/
def State.postBlock (s : State) (p q : Nat) (b : List Byte) : State :=
  if q = 0 then s
  else
    match s.post q ((chunks 64 b).map (fun c => (c, 0))) .ok with
    | (.refused, s) => (s.count (Reg.APU_CNT_RX_DROP p) 1).raise .apu 12
    | (.fallbackReject, s) => (s.count (Reg.APU_CNT_RX_DROP p) 1).raise .apu 12
    | (_, s) => s

/-- Peak of |sample| of one channel of a block, top 16 bits (Table HTP-5). -/
def peak16 (w c : Nat) (frames : List (List Nat)) : Nat :=
  maxN (frames.map (fun f => (toSigned w (f.getD c 0)).natAbs)) / 2 ^ (w - 16)

/-- Audio level samples of a block: its channels are those of the given slots. -/
def State.audioLevels (s : State) (p : Nat) (slots : List Nat) (frames : List (List Nat)) : State :=
  let w := wordBits (s.get (Reg.APU_PORT_CFG_WORD_BITS p))
  (List.range slots.length).foldl (fun (s : State) c => s.gauge 7 (p * 16 + slots.getD c 0) (peak16 w c frames)) s

/-- Close a port's open block with flags and post it, to REC_QUEUE too while REC is set (R294, R306). `next` are flags
of the block that follows. -/
def State.closeBlock (s : State) (p flags next : Nat) : State :=
  match (s.port p).rx with
  | none => s.setPort p (fun x => { x with nextFlags := x.nextFlags ||| next })
  | some b =>
    let bytes := s.blockBytes p flags b
    let s := s.audioLevels p (s.portSlots p (s.portMap p) 0) b.frames
    let s := s.setPort p (fun x => { x with rx := none, nextFlags := next, lastFrame := b.frame })
    let s := s.postBlock p (s.get (Reg.APU_PORT_Q_RX p)) bytes
    if s.flag (Reg.APU_PORT_REC_REC p) then s.postBlock p (s.get (Reg.APU_PORT_REC_QUEUE p)) bytes else s

/-- An audio frame is received in the open block, or opens one (R292, R294). `words` are the words of the slots. -/
def State.receiveFrame (s : State) (p time : Nat) (words : List Nat) : State :=
  let c := s.portMap p
  let slots := s.portSlots p c 0
  if slots.isEmpty then s
  else
    let w := wordBits (s.get (Reg.APU_PORT_CFG_WORD_BITS p))
    let f := slots.map (fun i => words.getD i 0 % 2 ^ w)
    let s : State := match (s.port p).rx with
      | some _ => s
      | none =>
        s.setPort p (fun x => { x with
          rx := some { frame := s.blockFrame p, aframe := s.aframe p, time := time, frames := [], flags := x.nextFlags,
                       labels := s.slotLabels p c slots }
          nextFlags := 0 })
    let s := s.setPort p (fun x => { x with rx := x.rx.map (fun b => { b with frames := b.frames ++ [f] }) })
    if s.get (Reg.APU_PORT_ASSOC_ASSOC p) = 0 ∧ s.get (Reg.APU_PORT_ASSOC_BLOCK_LEN p) ≤ (((s.port p).rx.map (fun (b : RxBlock) => b.frames.length)).getD 0) then
      s.closeBlock p 0 0
    else s

/-- A frame boundary of a video source (1 SLA, 2 SLB, 8 + t TG t): the open blocks of its ports close (R294). -/
def State.audioSource (s : State) (src : Nat) (begun : List (Nat × Nat)) (period : Nat) : State :=
  let s := { s with apu := { s.apu with srcs := SMap.insert s.apu.srcs src { begun := begun, time := s.mediaNs, period := period } } }
  (List.range 8).foldl (fun s p =>
    if s.get (Reg.APU_PORT_ASSOC_ASSOC p) = src ∧ s.live .apu then s.closeBlock p 0 0 else s) s

/-- 1.5 frame periods of the associated source have passed since its last boundary (R294, R307). -/
def SrcBoundary.lapsed (b : SrcBoundary) (ns : Nat) : Bool := decide (2 * b.time + 3 * b.period ≤ 2 * ns)

end Sys2Proof.Machine
end

