-- ==== Sys2Proof/Machine/Frames.lean ====
section
/-!
DEFINITION. What happens at a source frame boundary: path counters, acceptance, holds, reservations and the values a
Change Set commits there (01_frame_journey.md R17 to R24; R36, R42, R44, R58, R242, R276, R279, R351, R355).
-/

namespace Sys2Proof.Machine

/-! ### Sizes -/

/-- Samples per site of a raw tap (R118, R487): 0 Corrected Raw, 1 Original Raw. -/
def State.tapSps (s : State) (tap : Nat) : Nat :=
  let l := s.get Reg.RFE_CFG_LINK - 1
  if s.flag (Reg.SLR_LINK_CFG_DG l) then
    if tap = 0 && s.flag Reg.RFE_CFG_DG_MERGE then 1 else 2
  else 1

/-- The link the RFE is bound to. -/
def State.rfeLink (s : State) : Nat := s.get Reg.RFE_CFG_LINK - 1

/-- Width and height of the image of a link. -/
def State.linkW (s : State) (l : Nat) : Nat := s.get (Reg.SLR_LINK_FMT_WIDTH l)
def State.linkH (s : State) (l : Nat) : Nat := s.get (Reg.SLR_LINK_FMT_LINES l)

/-- Row stride of a raw buffer (R118). -/
def rawStride (w sps : Nat) : Nat := ceilDiv (w * sps * 2) 64 * 64

/-- Source sample width of a PACK code. -/
def packBits (p : Nat) : Nat := 10 + 2 * p

/-- Coded width of an ERP frame (Table ERP-2). -/
def State.erpWidth (s : State) (tap : Nat) : Nat :=
  if tap = 0 then 16 else packBits (s.get (Reg.SLR_LINK_CFG_PACK s.rfeLink))

/-- PAYLOAD_OFF of an ERP frame with a number of tiles and poison entries (R227). -/
def erpPayloadOff (tiles poison : Nat) : Nat := 128 + 64 * ceilDiv (4 * poison) 64 + 64 * ceilDiv (8 * tiles) 64

/-- Size of tile t of a frame w × h (R25): columns and rows. -/
def tileSize (w h t : Nat) : Nat × Nat :=
  let tx := t % ceilDiv w 256
  let ty := t / ceilDiv w 256
  (min 256 (w - 256 * tx), min 64 (h - 64 * ty))

/-- Tiles of a frame. -/
def tileCount (w h : Nat) : Nat := ceilDiv w 256 * ceilDiv h 64

/-- ERP_MAX (R241). -/
def erpMax (w h sps n : Nat) : Nat :=
  let tiles := tileCount w h
  64 * ceilDiv (erpPayloadOff tiles tiles + sumN ((List.range tiles).map (fun t =>
    8 + 4 * ceilDiv ((tileSize w h t).1 * (tileSize w h t).2 * sps * n) 32))) 64

/-- Nominal audio rate of a RATE_CLASS in Hz (Table APU-2). -/
def audioHz (c : Nat) : Nat := ([32000, 44100, 48000, 88200, 96000, 176400, 192000] : List Nat).getD c 0

/-- Bytes of one sample of a PACK code (Table APU-4). -/
def packBytes (p : Nat) : Nat := ([2, 3, 4, 4] : List Nat).getD p 0

/-- Cells of an audio block (R295). -/
def audioCells (frames channels bytes : Nat) : Nat := 1 + ceilDiv (frames * channels * bytes) 64

/-- Width, height, bytes per row and row count of a render buffer's planes by FMT, from *Render paths*: 0 W16_422
(Y plane and CbCr plane of the same size), 1 RGB10 (4 bytes per pixel), 2 W16_420, 3 RGB 16-bit float (8 bytes per
pixel) are filled in by the RP_ENC_CFG codes of 07_render_paths.md. -/
def renderBytes (bpp w h : Nat) : Nat := ceilDiv (w * bpp) 64 * 64 * h

/-- Bytes of a W16_422 frame: a 16-bit Y plane and a CbCr plane of the same size. -/
def w422Bytes (w h : Nat) : Nat := 2 * (ceilDiv (w * 2) 64 * 64 * h)

/-- Active width and height of a format row of Table ORE-2, 0 to 6. -/
def riSize (row : Nat) (wide : Bool) : Nat × Nat :=
  if row < 2 then (if wide then 2048 else 1920, 1080)
  else if row < 6 then (if wide then 4096 else 3840, 2160)
  else (if wide then 8192 else 7680, 4320)

/-- The bytes a recording path's frame can need (R351). -/
def State.frameBytes (s : State) (b : Booking) : Nat :=
  match b.kind with
  | 3 => s.get (Reg.PCD_RC_MAXPIC b.idx)
  | 4 =>
    let tap := s.get (Reg.RPK_ENG_CFG_SRC b.idx)
    erpMax (s.linkW s.rfeLink) (s.linkH s.rfeLink) (s.tapSps tap) (s.erpWidth tap)
  | 5 => rawStride (s.linkW s.rfeLink) (s.tapSps b.idx) * s.linkH s.rfeLink
  | 6 =>
    let z := riSize (s.get (Reg.ORE_RI_FMT_ROW b.idx)) (s.flag (Reg.ORE_RI_FMT_WIDE b.idx))
    w422Bytes z.1 z.2
  | 7 =>
    let l := b.src
    let num := s.get (Reg.SLR_LINK_RATE_NUM l)
    let den := s.get (Reg.SLR_LINK_RATE_DEN l)
    let frames := ceilDiv (audioHz (s.get (Reg.APU_PORT_CFG_RATE_CLASS b.idx)) * den) num + 1
    64 * audioCells frames 16 (packBytes (s.get (Reg.APU_PORT_CFG_PACK b.idx)))
  | _ => 0

/-! ### Counters and holds -/

/-- The frame counter of a path: the number of the latest frame that has begun (R20). -/
def State.pathCount (s : State) (n : Nat) : Nat := s.get (Reg.DEV_PATH_FRAME_LO n) + 2 ^ 32 * s.get (Reg.DEV_PATH_FRAME_HI_V n)

/-- Set a path's frame counter, modulo 2^48. -/
def State.setPathCount (s : State) (n v : Nat) : State :=
  s.puts [(Reg.DEV_PATH_FRAME_LO n, v % 2 ^ 32), (Reg.DEV_PATH_FRAME_HI_V n, v / 2 ^ 32 % 2 ^ 16)]

/-- State of a path. -/
def State.path (s : State) (n : Nat) : PathSt := getN s.paths n PathSt.reset

/-- Replace a path's state. -/
def State.setPath (s : State) (n : Nat) (f : PathSt → PathSt) : State := { s with paths := updN s.paths n f }

/-- The throttle level in force. -/
def State.level (s : State) : Nat := s.get Reg.HTP_POLLARD_STATUS_LEVEL

/-- R55: at level l the shed set holds every path with shed rank r ≥ 1 and r ≥ 8 − l. -/
def shedAt (rank l : Nat) : Bool := decide (1 ≤ rank ∧ 8 ≤ rank + l)

/-- The path is shed now: by the throttle level or by a graft (R426, R445). -/
def State.pathShed (s : State) (n : Nat) : Bool :=
  shedAt (s.get (Reg.DEV_PATH_CFG_SHED_RANK n)) s.level || (s.path n).graftShed

/-- The path is held at its source boundary, its reel apart (R279, R281): no panel port bound to the generator is
ACTIVE and free of a RETRAIN hold. -/
def State.pathHeld (s : State) (b : Booking) : Bool :=
  b.kind == 8 && !(List.range 2).any (fun k =>
    s.flag (Reg.ORE_PNL_CFG_EN k) && s.get (Reg.ORE_PNL_CFG_TG k) == b.idx && s.get (Reg.ORE_PNL_STATUS_STATE k) == 2 &&
    !(getN s.ore.pnls k { exitQueued := false, retrain := false }).retrain)

/-- One path of the source counts the frame that begins (R20). -/
def State.countOne (s : State) (b : Booking) : State :=
  (s.setPathCount b.path ((s.pathCount b.path + 1) % 2 ^ 48)).setPath b.path
    (fun p => { p with graftPassed := p.graftPassed || p.graftShed })

/-- A proxy session's path passes over the frame (R195): SKIP is non-zero and the counter is no multiple of SKIP + 1. -/
def State.pathSkips (s : State) (b : Booking) : Bool :=
  b.kind == 3 && s.pathCount b.path % (s.get (Reg.PCD_SES_CFG_SKIP b.idx) + 1) != 0

/-- One path of the source accepts the frame or not (R18, R195): it is accepted if the path is not shed, not held, its
tables are in place and its reel has an open take and the space. -/
def State.acceptOne (s : State) (b : Booking) (busy : Bool) (stamp : Nat) : Bool × State :=
  let num := s.pathCount b.path
  let shed := s.pathShed b.path
  let held := s.pathHeld b || busy
  let skips := s.pathSkips b
  let tables := (s.path b.path).waitWrap.isEmpty
  let (reelOk, s) :=
    match s.reelOf b.kind b.idx with
    | none => (true, s)
    | some r =>
      if shed || held || !tables || skips then (true, s)
      else if !s.takeOpenNow r then (false, s.count (Reg.MSS_CNT_REC_IDLE r) 1)
      else s.reserveFrame r b.path num (s.frameBytes b) stamp
  let ok := !shed && !held && tables && !skips && reelOk
  let s := s.putB (Reg.DEV_PATH_SHED_SHED_NOW b.path) (shed || held || !reelOk)
  let s := if ok then s.setPath b.path (fun p => { p with lastAcc := num, inFlight := p.inFlight ++ [num] }) else s
  (ok, s)

/-- Frame period of a rate, in nanoseconds, rounded down (0 for no rate). -/
def periodNs (num den : Nat) : Nat := if num = 0 then 0 else den * 1000000000 / num

/-- A source frame boundary (R18, R20, R21, R44): every booked path of the source counts the frame; the values that
are due apply to it; then each path accepts it or not, and a Change Set aligned to a frame that is not accepted
applies whole. `busy` names the paths held for a reason of the source's own (R276). -/
def State.sourceBoundary (s : State) (src seq stamp : Nat) (bnds : List Bnd) (busy : List Nat) : FrameTag × State :=
  let mine := s.plan.bookings.filter (fun b => b.src == src && !b.leaving)
  let s := mine.foldl (fun s b => s.countOne b) s
  let begun := mine.map (fun b => (b.path, s.pathCount b.path))
  let s := bnds.foldl (fun s b => s.boundary b begun true) s
  let r := mine.foldl (fun (acc : List (Nat × Nat) × State) b =>
    let (ok, s) := acc.2.acceptOne b (busy.contains b.path) stamp
    (if ok then acc.1 ++ [(b.path, s.pathCount b.path)] else acc.1, s)) ([], s)
  let acc := r.1
  let s := r.2
  let s := if src < 2 then
      s.audioSource (src + 1) begun (periodNs (s.get (Reg.SLR_LINK_RATE_NUM src)) (s.get (Reg.SLR_LINK_RATE_DEN src))) else s
  let missed := begun.any (fun e => !acc.contains e && (match s.cs with
    | some c => c.align && c.path == e.1 && c.frame == e.2 % 2 ^ 24
    | none => false))
  let s := if missed then s.applyCs (fun a => a.due s.now) else s
  ({ src := src, seq := seq, stamp := stamp, accepted := acc, begun := begun, incomplete := false, poison := [] }, s)

/-- Deliver a frame on those of its accepting paths that pass a test. -/
def State.deliverTag (s : State) (t : FrameTag) (p : Booking → Bool) : State :=
  t.accepted.foldl (fun s a =>
    match s.plan.bookings.find? (fun b => b.path == a.1) with
    | some b => if p b then s.deliver a.1 a.2 t.stamp else s
    | none => s) s

/-- The frame counter that a frame has on a path, if the path accepted it. -/
def FrameTag.on (t : FrameTag) (path : Nat) : Option Nat := (t.accepted.find? (fun a => a.1 == path)).map (·.2)

/-- The frame counter a frame shows where no path is named: that of the first path of its source. -/
def FrameTag.counter (t : FrameTag) : Nat := (t.begun.head?.map (·.2)).getD 0

/-- FLAGS of a clip index entry (Table MSS-8): POISON and INCOMPLETE. -/
def FrameTag.flags (t : FrameTag) : Nat := b2n (!t.poison.isEmpty) + 2 * b2n t.incomplete

/-- Add tiles to a poisoned-tile list, once each. -/
def FrameTag.addPoison (t : FrameTag) (tiles : List Nat) : FrameTag :=
  { t with poison := sortBy id (dedup (t.poison ++ tiles)) }

/-- Tiles that a row of a frame of width w runs through (R25). -/
def rowTiles (w y : Nat) : List Nat := (List.range (ceilDiv w 256)).map (fun tx => y / 64 * ceilDiv w 256 + tx)

end Sys2Proof.Machine
end

