-- ==== Sys2Proof/Machine/Grids.lean ====
section
/-!
DEFINITION. Frame grids and time code (12_reference_and_time.md, R315, R316, R319, R325).
-/

namespace Sys2Proof.Machine

/-- Instant k of a grid (R315). -/
def Grid.inst (g : Grid) (k : Int) : Int := g.anchor + (2 * k * g.den * 1000000000 + g.num) / (2 * g.num)

/-- The number of the last instant at or before a media time. -/
def Grid.lastLe (g : Grid) (t : Int) : Int :=
  let k := (t - g.anchor) * g.num / (g.den * 1000000000)
  if g.inst (k + 1) ≤ t then k + 1 else if g.inst k ≤ t then k else k - 1

/-- The number of the instant nearest to a media time, a tie taking the earlier (R325). -/
def Grid.nearest (g : Grid) (t : Int) : Int :=
  let k := g.lastLe t
  if g.inst (k + 1) - t < t - g.inst k then k + 1 else k

/-- The first instant strictly after a media time. -/
def Grid.after (g : Grid) (t : Int) : Int := g.inst (g.lastLe t + 1)

/-- The system anchor (R316). -/
def State.anchorNs (s : State) : Nat := s.getTime Reg.RTU_ANCHOR_S_HI_V Reg.RTU_ANCHOR_S_LO Reg.RTU_ANCHOR_NS

/-- Media time is established, so grids exist (R317). -/
def State.established (s : State) : Bool := s.flag Reg.RTU_STATUS_ESTABLISHED

/-- The reference rate of an ACTIVE_RATE code: REF_RATE, or alternative i at i + 1. -/
def State.refRate (s : State) (c : Nat) : Nat × Nat :=
  if c = 0 then (s.get Reg.RTU_REF_RATE_NUM, s.get Reg.RTU_REF_RATE_DEN)
  else (s.get (Reg.RTU_REF_ALT_NUM (c - 1)), s.get (Reg.RTU_REF_ALT_DEN (c - 1)))

/-- The RTU_FOLLOW bit of a grid user: 0, 1 the links; 4, 5 decode sessions; 8 + t generators. -/
def followBit (u : Nat) : Nat := if u < 2 then u else if u < 6 then 6 + u else u - 6

/-- The register rate of a grid user. -/
def State.userRate (s : State) (u : Nat) : Nat × Nat :=
  if u < 2 then (s.get (Reg.SLR_LINK_RATE_NUM u), s.get (Reg.SLR_LINK_RATE_DEN u))
  else if u < 6 then (s.get (Reg.PCD_DEC_RATE_NUM (u - 4)), s.get (Reg.PCD_DEC_RATE_DEN (u - 4)))
  else (s.get (Reg.ORE_TG_RATE_NUM (u - 8)), s.get (Reg.ORE_TG_RATE_DEN (u - 8)))

/-- A follower's rate when the reference runs at code c: its register rate × r′ ÷ REF_RATE (R319). -/
def State.followRate (s : State) (u c : Nat) : Nat × Nat :=
  let r := s.userRate u
  if c = 0 ∨ !bitAt (s.get Reg.RTU_FOLLOW_V) (followBit u) then r
  else
    let a := s.refRate c
    let b := s.refRate 0
    let n := r.1 * a.1 * b.2
    let d := r.2 * a.2 * b.1
    (n / max 1 (Nat.gcd n d), d / max 1 (Nat.gcd n d))

/-- The grid of a user before a changeover in progress, and the changeover: the instant from which the new grid holds. -/
def State.userGrids (s : State) (u : Nat) : UserGrid :=
  match SMap.lookup s.rtu.grids u with
  | some g => g
  | none =>
    let r := s.followRate u (s.get Reg.RTU_STATUS_ACTIVE_RATE)
    { now := { anchor := s.anchorNs, num := r.1, den := r.2 }, next := none }

/-- The grid of a user at a media time. -/
def State.userGrid (s : State) (u t : Nat) : Grid :=
  let g := s.userGrids u
  match g.next with
  | some (c, n) => if c ≤ t then n else g.now
  | none => g.now

/-- The grid instant of a user nearest to a media time; none at the instant at which it takes a new grid (R319). -/
def State.userInstant (s : State) (u t : Nat) : Option Nat :=
  let g := s.userGrids u
  if g.now.num = 0 then none
  else
    let old := g.now.inst (g.now.nearest t)
    match g.next with
    | none => some old.toNat
    | some (c, n) =>
      let new := n.inst (n.nearest t)
      let first := if new ≤ c then n.after c else new
      if t ≤ c ∧ old < c then some old.toNat
      else if (c : Int) - t < 0 ∧ first - t < (t : Int) - c then some first.toNat
      else none

/-- Seconds added to media time for local time (R325). -/
def State.tcOfs (s : State) : Int :=
  if s.flag Reg.RTU_REF_CFG_TC_SM && s.get Reg.RTU_REF_CFG_SRC == 4 then s.rtu.smOfs else toSigned 32 (s.get Reg.RTU_TC_OFS)

/-- A time code: hours, minutes, seconds, frames, the frame-pair flag and the drop-frame flag. -/
structure TimeCode where
  h : Nat
  m : Nat
  s : Nat
  f : Nat
  pair : Bool
  drop : Bool
  deriving DecidableEq, Repr

/-- Base rate and j of R325: R = b × 2^j. -/
def tcBase (r : Nat) : Nat × Nat :=
  (([24, 25, 30] : List Nat).findSome? (fun b => ((List.range 6).find? (fun j => b * 2 ^ j == r)).map (fun j => (b, j)))).getD (r, 0)

/-- Frame numbers that SMPTE ST 12-1 drops: two at each minute but every tenth. -/
def dropCount (n : Nat) : Nat :=
  let d := n / 17982
  let m := n % 17982
  n + 18 * d + (if m < 2 then 0 else 2 * ((m - 2) / 1798))

/-- The time code of frame number n at b frames per second. -/
def tcOf (n b : Nat) (pair drop : Bool) : TimeCode :=
  let n := if drop then dropCount n else n
  { h := n / (3600 * b) % 24, m := n / (60 * b) % 60, s := n / b % 60, f := n % b, pair := pair, drop := drop }

/-- The time code of grid instant G (R325). -/
def State.timeCode (s : State) (g : Grid) (inst : Int) : TimeCode :=
  if g.num = 0 ∨ g.den = 0 then tcOf 0 30 false false
  else
    let loc := inst / 1000000000 + s.tcOfs
    let midnight := (loc / 86400 * 86400 - s.tcOfs) * 1000000000
    let n := (g.lastLe (inst - 1) - g.lastLe (midnight - 1)).toNat
    let (b, j) := tcBase (ceilDiv g.num g.den)
    tcOf (n / 2 ^ j) b (j == 1 && n % 2 == 1) (s.flag Reg.RTU_REF_CFG_DROP_FRAME && b == 30 && g.den == 1001)

/-- The time code of a frame from the grid of its source and its source time stamp (R325). -/
def State.frameTimeCode (s : State) (g : Grid) (stamp : Nat) : TimeCode :=
  if g.num = 0 then tcOf 0 30 false false else s.timeCode g (g.inst (g.nearest stamp))

/-- The grid of a frame's source: links 0, 1; 2 to 5 Return Ingest on the system anchor; 6, 7 decode sessions. -/
def State.srcGrid (s : State) (src t : Nat) : Grid :=
  if src < 2 then s.userGrid src t
  else if src < 6 then
    { anchor := s.anchorNs, num := s.get (Reg.ORE_RI_RATE_NUM (src - 2)), den := s.get (Reg.ORE_RI_RATE_DEN (src - 2)) }
  else s.userGrid (src - 2) t

end Sys2Proof.Machine
end

