-- ==== Sys2Proof/Machine/Gpio.lean ====
section
/-!
DEFINITION. GPIO balls: the functions of Table PIN-9 and the levels they drive (R467, R468).
-/

namespace Sys2Proof.Machine

/-- The unit that owns a function (Table PIN-9). -/
def gpioOwner (fn : Nat) : Option UnitId :=
  match fn with
  | 1 => some .ore | 2 => some .slr | 3 => some .rtu | 4 => some .mss | 5 => some .rtu | 6 => some .ore | _ => none

/-- The level a driven ball shows (R468); none for a ball that is an input. -/
def State.ballLevel (s : State) (n : Nat) : Option Bool :=
  let i := s.get (Reg.DEV_GPIO_FN_INDEX n)
  let fn := s.get (Reg.DEV_GPIO_FN_FN n)
  if fn = 0 then (if s.flag (Reg.DEV_GPIO_FN_OE n) then some (s.flag (Reg.DEV_GPIO_FN_OUT n)) else none)
  else if !(gpioOwner fn).any (fun u => s.enabled u) then some false
  else
    match fn with
    | 4 => some ((s.reel i).openTake != 0)
    | 5 => some (s.get Reg.RTU_STATUS_STATE == 4)
    | 6 => some (decide (1 ≤ s.get (Reg.ORE_PNL_STATUS_STATE i) ∧ s.get (Reg.ORE_PNL_STATUS_STATE i) ≤ 4))
    | _ => some (s.gpioPulse.contains n)

/-- One ball follows its function. -/
def State.gpioOne (s : State) (n : Nat) : State :=
  match s.ballLevel n with
  | none => s
  | some b =>
    if getN s.gpioOut n false = b then s
    else ({ s with gpioOut := updN s.gpioOut n (fun _ => b) }.put ⟨Reg.DEV_GPIO_IN.ofs, n, n⟩ (b2n b)).out (.gpio n b)

/-- The balls follow their functions. -/
def State.gpioSync (s : State) : State := (List.range 32).foldl (fun s n => s.gpioOne n) s

/-- A pulse function of an instance starts: every ball that carries it goes high (R468). -/
def State.gpioStart (s : State) (fn idx : Nat) : State :=
  let on := (List.range 32).filter (fun n =>
    s.get (Reg.DEV_GPIO_FN_FN n) == fn && (fn == 3 || s.get (Reg.DEV_GPIO_FN_INDEX n) == idx))
  if on.isEmpty then s
  else ({ s with gpioPulse := dedup (s.gpioPulse ++ on) }).gpioSync

/-- A pulse ends on a ball. -/
def State.gpioEnd (s : State) (n : Nat) : State :=
  ({ s with gpioPulse := s.gpioPulse.filter (fun m => m != n) }).gpioSync

end Sys2Proof.Machine
end

