-- ==== Sys2Proof/Machine/Slr.lean ====
section
/-!
DEFINITION. The Sensor Link Receiver's lanes, links, PRBS test, sensor control buses and triggers
(03_sensor_links.md, R60 to R72, R78, R81 to R88, R91, R92, R477, R478).
-/

namespace Sys2Proof.Machine

/-- The answer of a meaning. -/
abbrev Res := Host.Outcome State Fault Refusal

/-! ### Lanes -/

/-- A lane. -/
def State.lane (s : State) (n : Nat) : LaneSt := getN s.slr.lanes n LaneSt.reset

/-- Replace a lane. -/
def State.setLane (s : State) (n : Nat) (f : LaneSt → LaneSt) : State :=
  { s with slr := { s.slr with lanes := updN s.slr.lanes n f } }

/-- A link's state. -/
def State.link (s : State) (l : Nat) : LinkSt := getN s.slr.links l LinkSt.reset

/-- Replace a link's state. -/
def State.setLink (s : State) (l : Nat) (f : LinkSt → LinkSt) : State :=
  { s with slr := { s.slr with links := updN s.slr.links l f } }

/-- Lanes of a link. -/
def State.linkLanes (s : State) (l : Nat) : List Nat :=
  (List.range s.variant.lanes).filter (fun n => s.get (Reg.SLR_LANE_CFG_LINK n) == l + 1)

/-- STATE of a link (Table SLR-10): 0 DISABLED, 1 ACQUIRING, 2 LOCKED, 3 RUNNING, 4 STOPPING, 5 STOPPED. -/
def State.linkState (s : State) (l : Nat) : Nat := s.get (Reg.SLR_LINK_STATUS_STATE l)

/-- The source of a link is stopped (R23): the link is off, or no RUN holds and so it accepts no frame (Table SLR-10; notes/assumptions/22.md). -/
def State.linkStill (s : State) (l : Nat) : Bool :=
  !s.enabled .slr || s.linkState l == 0 || !s.flag (Reg.SLR_LINK_STATUS_ARMED l)

/-- Change a link's state; a change raises LINK_STATE (R478). -/
def State.setLinkState (s : State) (l st : Nat) : State :=
  if s.linkState l = st then s else (s.put (Reg.SLR_LINK_STATUS_STATE l) st).raise .slr 5

/-- What destuffing keeps between bits (R65): run value and length, bits kept (newest first), violations. -/
structure Destuff where
  last : Bool
  run : Nat
  out : List Bool
  viol : Nat
  deriving DecidableEq, Repr

/-- One line bit (R65). -/
def Destuff.step (d : Destuff) (b : Bool) : Destuff :=
  if d.run = 31 then
    if b = d.last then { d with run := 1, viol := d.viol + 1 } else { d with last := b, run := 1 }
  else if b = d.last then { d with run := d.run + 1, out := b :: d.out }
  else { d with last := b, run := 1, out := b :: d.out }

/-- One step of the scrambler x^31 + x^28 + 1: the key bit and the next register (R62). -/
def scrStep (v : Nat) : Bool × Nat :=
  let k := bitAt v 30 != bitAt v 27
  (k, (v * 2 + b2n k) % 2 ^ 31)

/-- The scrambler seed of a lane after a marker (R62). -/
def scrSeed (lane seq : Nat) : Nat := 0x40000000 ||| (lane * 2 ^ 25) ||| (0x169 * 2 ^ 16) ||| seq

/-- Descramble a bit string. -/
def descramble (v : Nat) : List Bool → List Bool
  | [] => []
  | b :: t =>
    let (k, v) := scrStep v
    (b != k) :: descramble v t

/-- 32-bit words of a bit string, bit 31 first (R63). -/
def wordsOfBits (b : List Bool) : List Nat := (chunks 32 b).map ofMsbBits

/-- The link regains or lacks lock, from its lanes' markers (R69). -/
def State.checkLock (s : State) (l : Nat) : State :=
  let ns := s.linkLanes l
  if ns.isEmpty ∨ s.linkState l = 0 then s
  else if !ns.all (fun n => s.flag (Reg.SLR_LANE_STATUS_MARKER_LOCK n)) then s
  else
    let arr := ns.map (fun n => (s.lane n).arrival)
    let lo := arr.foldl min (arr.headD 0)
    let hi := maxN arr
    let mid := (lo + hi) / 2
    let s := ns.foldl (fun s n => s.put (Reg.SLR_LANE_STATUS_SKEW n) (ofSigned 11 (((s.lane n).arrival : Int) - mid))) s
    let excess := decide (2048 < hi - lo)
    let ids := ns.map (fun n => (s.lane n).laneId.getD 99)
    let order := !((List.range ns.length).all (fun i => ids.contains i)) || ns.any (fun n => (s.lane n).linkId != l)
    let s := s.puts [(Reg.SLR_LINK_STATUS_SKEW_EXCESS l, b2n excess), (Reg.SLR_LINK_STATUS_LANE_ORDER l, b2n order)]
    if excess || order then s
    else if s.linkState l = 1 then
      if s.flag (Reg.SLR_LINK_STATUS_ARMED l) then
        s.setLinkState l (if (s.link l).stopAt.isSome then 4 else 3)
      else s.setLinkState l 2
    else s

/-- A link loses lock (R78): counted, reported, and back to ACQUIRING. A frame that is open goes on: its missing lines
are filled at their deadlines. -/
def State.linkLost (s : State) (l : Nat) : State :=
  if s.linkState l = 2 ∨ s.linkState l = 3 ∨ s.linkState l = 4 ∨ s.linkState l = 5 then
    let s := (s.count (Reg.SLR_CNT_LOCK_LOSS l) 1).raise .slr l
    let s := s.logFree .slr l l 0x04 (((s.link l).frame.map (fun f => f.tag.counter)).getD 0)
    s.setLinkState l 1
  else s

/-- The lane loses marker lock (R68), and with it its link. -/
def State.laneUnlock (s : State) (n : Nat) : State :=
  let was := s.flag (Reg.SLR_LANE_STATUS_MARKER_LOCK n)
  let s := (s.put (Reg.SLR_LANE_STATUS_MARKER_LOCK n) 0).setLane n (fun x => { x with
    good := 0, bad := 0, nextSeq := none, laneId := none, words := none })
  if was then
    match s.get (Reg.SLR_LANE_CFG_LINK n) with
    | 1 => s.linkLost 0
    | 2 => s.linkLost 1
    | _ => s
  else s

/-- When every lane of a link holds the interval of one SEQ, its words join the link's word stream (R69, R70): link
word w comes from link lane w mod n. -/
def State.mergeWords (s : State) (l : Nat) : State :=
  let ns := s.linkLanes l
  let byId := (List.range ns.length).map (fun i =>
    ((ns.find? (fun n => (s.lane n).laneId == some i)).bind (fun n => (s.lane n).words)))
  match byId.headD none with
  | none => s
  | some (seq, _) =>
    if byId.all (fun w => (w.map (·.1)) == some seq) then
      let cols := byId.map (fun w => (w.map (·.2)).getD [])
      let words := (List.range 512).flatMap (fun i => cols.map (fun c => c.getD i 0))
      let s := s.setLink l (fun x => { x with rx := x.rx ++ words })
      ns.foldl (fun s n => s.setLane n (fun x => { x with words := none })) s
    else s

/-- The line bits of one interval reach a lane, up to and with the last bit of a marker (R62 to R69). -/
def State.marker (s : State) (n : Nat) (line : List Bool) (ui : Nat) : State :=
  if !s.on .slr ∨ s.variant.lanes ≤ n ∨ !s.flag (Reg.SLR_LANE_STATUS_CDR_LOCK n) then s
  else
    let x := s.lane n
    let line := if s.flag (Reg.SLR_LANE_CFG_INVERT n) then line.map (fun b => !b) else line
    let d := line.foldl Destuff.step { last := x.runBit, run := x.run, out := [], viol := 0 }
    let kept := d.out.reverse
    let m := ofMsbBits (kept.drop (kept.length - 64))
    let payload := kept.take (kept.length - 64)
    let sync := bits m 63 40 == 0xD17AC5 && bits m 7 0 == crc8 m && decide (bits m 34 32 ≤ 1) && decide (64 ≤ kept.length)
    let seq := bits m 31 16
    let locked := s.flag (Reg.SLR_LANE_STATUS_MARKER_LOCK n)
    let expected := match x.nextSeq with
      | none => true
      | some q => seq == q && kept.length == 16448 && x.laneId == some (bits m 39 35) && x.linkId == bits m 34 32
    let s := s.count (Reg.SLR_CNT_STUFF n) d.viol
    let words := match x.nextSeq, x.laneId with
      | some q, some id =>
        if locked && payload.length == 16384 then
          some ((q + 65535) % 65536, wordsOfBits (descramble (scrSeed id ((q + 65535) % 65536)) payload))
        else none
      | _, _ => none
    let s := s.setLane n (fun x => { x with runBit := d.last, run := d.run, arrival := ui, words := words })
    let l := s.get (Reg.SLR_LANE_CFG_LINK n)
    let s :=
      if sync && expected then
        let s := s.setLane n (fun x => { x with good := x.good + 1, bad := 0, nextSeq := some ((seq + 1) % 65536),
                                                laneId := some (bits m 39 35), linkId := bits m 34 32 })
        let s := s.put (Reg.SLR_LANE_STATUS_LANE n) (bits m 39 35)
        if decide (3 ≤ (s.lane n).good) then s.put (Reg.SLR_LANE_STATUS_MARKER_LOCK n) 1 else s
      else
        let s := (s.count (Reg.SLR_CNT_MARKER n) 1).setLane n (fun x => { x with
          good := 0, bad := x.bad + 1, nextSeq := if locked then x.nextSeq.map (fun q => (q + 1) % 65536) else none })
        if decide (3 ≤ (s.lane n).bad) && locked then s.laneUnlock n else s
    -- a tracking move of the equaliser takes effect at the end of a marker (R82)
    let s := match (s.lane n).moveTo with
      | some c => (s.put (Reg.SLR_LANE_STATUS_CODE n) c).setLane n (fun x => { x with moveTo := none })
      | none => s
    if l = 1 ∨ l = 2 then (s.checkLock (l - 1)).mergeWords (l - 1) else s

/-- A lane's CDR locks; with ADAPT it starts its sweep, else it uses CTLE (R81, R82). -/
def State.cdrLock (s : State) (n : Nat) : State :=
  if !s.on .slr ∨ s.variant.lanes ≤ n ∨ s.get (Reg.SLR_LANE_CFG_LINK n) = 0 then s
  else
    let s := (s.put (Reg.SLR_LANE_STATUS_CDR_LOCK n) 1).setLane n (fun x => { x with cdrAt := s.now })
    if s.flag (Reg.SLR_LANE_CFG_ADAPT n) then s.put (Reg.SLR_LANE_STATUS_ADAPT_DONE n) 0
    else s.put (Reg.SLR_LANE_STATUS_CODE n) (s.get (Reg.SLR_LANE_CFG_CTLE n))

/-- A lane's CDR loses lock, and the lane its marker lock (R68). -/
def State.cdrLost (s : State) (n : Nat) : State :=
  if !s.live .slr ∨ s.variant.lanes ≤ n then s
  else (s.puts [(Reg.SLR_LANE_STATUS_CDR_LOCK n, 0), (Reg.SLR_LANE_STATUS_ADAPT_DONE n, 0)]).laneUnlock n

/-- Index of the largest of the first 37 eye heights, the lowest on a tie (R82). -/
def bestCode (h : List Nat) : Nat :=
  (List.range 37).foldl (fun b i => if h.getD b 0 < h.getD i 0 then i else b) 0

/-- The sweep ends: the code with the largest eye height is selected (R82). -/
def State.adaptDone (s : State) (n : Nat) (heights : List Nat) (width : Nat) : State :=
  if !s.on .slr ∨ s.variant.lanes ≤ n ∨ !s.flag (Reg.SLR_LANE_CFG_ADAPT n) ∨ !s.flag (Reg.SLR_LANE_STATUS_CDR_LOCK n)
      ∨ s.now < (s.lane n).cdrAt + cyclesOf 740000 then s
  else
    let c := bestCode heights
    (s.puts [(Reg.SLR_LANE_STATUS_CODE n, c), (Reg.SLR_LANE_STATUS_ADAPT_DONE n, 1),
             (Reg.SLR_LANE_EYE_HEIGHT n, heights.getD c 0), (Reg.SLR_LANE_EYE_WIDTH n, width)]).gauge 6 n (heights.getD c 0 : Nat)

/-- Tracking, at most once per millisecond: a neighbour higher by at least 8 mV is taken at the next marker end
(R82). -/
def State.ctleTrack (s : State) (n : Nat) (height below above width : Nat) : State :=
  if !s.on .slr ∨ s.variant.lanes ≤ n ∨ !s.flag (Reg.SLR_LANE_STATUS_ADAPT_DONE n)
      ∨ s.now < (s.lane n).lastTrack + cyclesOf 1000000 then s
  else
    let c := s.get (Reg.SLR_LANE_STATUS_CODE n)
    let up := decide (c < 36) && decide (height + 8 ≤ above)
    let down := decide (0 < c) && decide (height + 8 ≤ below)
    let mv := if down && (!up || decide (above ≤ below)) then some (c - 1) else if up then some (c + 1) else none
    ((s.setLane n (fun x => { x with moveTo := mv, lastTrack := s.now })).puts
      [(Reg.SLR_LANE_EYE_HEIGHT n, height), (Reg.SLR_LANE_EYE_WIDTH n, width)]).gauge 6 n height

/-! ### PRBS (R83, R84, R85) -/

/-- Taps of a POLY code. -/
def prbsTaps (p : Nat) : Nat × Nat := ([(7, 6), (15, 14), (23, 18), (31, 28)] : List (Nat × Nat)).getD p (31, 28)

/-- One received bit at a checker: the checker, whether it is locked, and errors and bits compared. -/
def prbsStep (taps : Nat × Nat) (inv : Bool) (a : PrbsSt × Bool × Nat × Nat) (b : Bool) : PrbsSt × Bool × Nat × Nat :=
  let (p, lock, err, n) := a
  let b := b != inv
  let pred := p.hist.getD (taps.1 - 1) false != p.hist.getD (taps.2 - 1) false
  if lock then
    let e := b2n (pred != b)
    let p := { p with hist := (pred :: p.hist).take 31, winErr := p.winErr + e, winBits := p.winBits + 1 }
    if 1024 ≤ p.winErr then ({ hist := [], run := 0, winErr := 0, winBits := 0 }, false, err + e, n + 1)
    else if p.winBits = 65536 then ({ p with winErr := 0, winBits := 0 }, true, err + e, n + 1)
    else (p, true, err + e, n + 1)
  else
    let run := if taps.1 ≤ p.hist.length then (if pred = b then p.run + 1 else 0) else 0
    ({ p with hist := (b :: p.hist).take 31, run := run, winErr := 0, winBits := 0 }, decide (64 ≤ run), err, n)

/-- Line bits reach a lane's checker (R83). -/
def State.prbsBits (s : State) (n : Nat) (line : List Bool) : State :=
  let mode := s.get (Reg.SLR_LANE_TEST_MODE n)
  if !s.live .slr ∨ s.variant.lanes ≤ n ∨ (mode ≠ 1 ∧ mode ≠ 2) then s
  else
    let (p, lock, err, k) := line.foldl (prbsStep (prbsTaps (s.get (Reg.SLR_LANE_TEST_POLY n))) (s.flag (Reg.SLR_LANE_TEST_INVERT n)))
      ((s.lane n).prbs, s.flag (Reg.SLR_LANE_TEST_CHK_LOCK n), 0, 0)
    let total := s.get (Reg.SLR_PRBS_BITS_LO n) + 2 ^ 32 * s.get (Reg.SLR_PRBS_BITS_HI_V n) + k
    let s := (s.setLane n (fun x => { x with prbs := p })).putB (Reg.SLR_LANE_TEST_CHK_LOCK n) lock
    (s.count (Reg.SLR_PRBS_ERR n) err).puts [(Reg.SLR_PRBS_BITS_LO n, total % 2 ^ 32), (Reg.SLR_PRBS_BITS_HI_V n, total / 2 ^ 32 % 2 ^ 16)]

/-- The loopback generator inverts k bits (R84): with no other fault the checker counts each. -/
def State.inject (s : State) (n k : Nat) : State :=
  let s := s.count (Reg.SLR_INJ_CNT n) k
  if s.flag (Reg.SLR_LANE_TEST_CHK_LOCK n) then s.count (Reg.SLR_PRBS_ERR n) k else s

/-- GO in SLR_LANE_TEST: one bit, or BURST + 1 bits (R84). -/
def State.prbsGo (s : State) (n : Nat) : State :=
  if !s.live .slr ∨ s.variant.lanes ≤ n ∨ s.get (Reg.SLR_LANE_TEST_MODE n) ≠ 2 then s
  else
    match s.get (Reg.SLR_LANE_TEST_INJ n) with
    | 1 => s.inject n 1
    | 2 => s.inject n (s.get (Reg.SLR_LANE_TEST_BURST n) + 1)
    | _ => s

/-- One period of rate mode (R84). -/
def State.prbsPeriod (s : State) (n : Nat) : State :=
  if !s.live .slr ∨ s.variant.lanes ≤ n ∨ s.get (Reg.SLR_LANE_TEST_MODE n) ≠ 2 ∨ s.get (Reg.SLR_LANE_TEST_INJ n) ≠ 3
      ∨ s.get (Reg.SLR_LANE_INJ_PERIOD n) < 64 then s
  else s.inject n 1

/-- CLR in SLR_LANE_TEST. -/
def State.prbsClr (s : State) (n : Nat) : State :=
  if s.variant.lanes ≤ n then s
  else s.puts [(Reg.SLR_PRBS_ERR n, 0), (Reg.SLR_PRBS_BITS_LO n, 0), (Reg.SLR_PRBS_BITS_HI n, 0), (Reg.SLR_INJ_CNT n, 0)]

/-- A write to SLR_LANE_TEST(n): MODE other than 0 is refused while the lane's link is RUNNING or STOPPING (R85). -/
def State.laneTestWrite (s : State) (n : Nat) (v : Word) : State :=
  let l := s.get (Reg.SLR_LANE_CFG_LINK n)
  let busy := (l = 1 ∨ l = 2) ∧ (s.linkState (l - 1) = 3 ∨ s.linkState (l - 1) = 4)
  if busy ∧ bits v.toNat 31 30 ≠ 0 then s.refuse .slr 0x0106 (Reg.SLR_LANE_TEST n)
  else
    let s := s.puts [(Reg.SLR_LANE_TEST_MODE n, bits v.toNat 31 30), (Reg.SLR_LANE_TEST_POLY n, bits v.toNat 29 28),
      (Reg.SLR_LANE_TEST_INVERT n, bits v.toNat 27 27), (Reg.SLR_LANE_TEST_INJ n, bits v.toNat 26 25),
      (Reg.SLR_LANE_TEST_BURST n, bits v.toNat 23 16), (Reg.SLR_LANE_TEST_CLR n, bits v.toNat 2 2),
      (Reg.SLR_LANE_TEST_GO n, bits v.toNat 1 1)]
    let s := if bitAt v.toNat 2 then s.prbsClr n else s
    if bitAt v.toNat 1 then s.prbsGo n else s

/-! ### Sensor control (R86) -/

/-- A sensor control bus. -/
def State.bus (s : State) (b : Nat) : SctlSt := getN s.slr.sctl b { words := [], queue := [], running := none, startedAt := 0, results := [] }

/-- Replace a bus. -/
def State.setBus (s : State) (b : Nat) (f : SctlSt → SctlSt) : State :=
  { s with slr := { s.slr with sctl := updN s.slr.sctl b f } }

/-- One word written to SLR_SCTL_PUSH(b): the seventh queues the entry (Table SLR-7). -/
def State.sctlWord (s : State) (b : Nat) (v : Word) : State :=
  let s := s.setReg (Reg.SLR_SCTL_PUSH b).ofs v
  s.setBus b (fun x =>
    let w := x.words ++ [v.toNat]
    if w.length = 7 then { x with words := [], queue := x.queue ++ [w] } else { x with words := w })

/-- An entry starts: at bus idle, and for a TIMED entry once media time has reached its launch time (R86). -/
def State.sctlLaunch (s : State) (b : Nat) : State :=
  let x := s.bus b
  match x.running, x.queue with
  | none, e :: rest =>
    let timed := bitAt (e.headD 0) 29
    let launch := (secOf s.mediaNs / 2 ^ 32 * 2 ^ 32 + e.getD 1 0) * 1000000000 + e.getD 2 0
    if !s.live .slr ∨ (timed ∧ s.mediaNs < launch) then s
    else (s.setBus b (fun x => { x with queue := rest, running := some e, startedAt := s.now })).out (.sensorBus b e)
  | _, _ => s

/-- An entry ends with a status (0 done, 1 NACK, 2 timeout) and the bytes read; its result is posted and the next entry
may proceed. For OP 0b11, which Table SLR-7 does not define, the result is free. -/
def State.sctlDone (s : State) (b status : Nat) (bytes : List Nat) : State :=
  match (s.bus b).running with
  | none => s
  | some e =>
    let op := bits (e.headD 0) 31 30
    let (v, s) := if op = 3 then s.fresh else (0, s)
    let n := if op = 0 then 0 else min bytes.length (bits (e.headD 0) 4 0)
    let got := bytes.take n
    let st := if op = 3 then v % 256 else status
    let s := s.setBus b (fun x => { x with running := none, results := x.results ++ [(st, got)] })
    s.puts [(Reg.SLR_SCTL_RESULT_STATUS b, st), (Reg.SLR_SCTL_RESULT_COUNT b, n),
            (Reg.SLR_SCTL_RESULT_DATA b, got.getD 0 0 + 256 * got.getD 1 0)]

/-- Clock stretching beyond 10 ms aborts an I2C entry (R86). -/
def State.sctlTimeout (s : State) (b : Nat) : State :=
  if b < 2 ∧ (s.bus b).startedAt + cyclesOf 10000000 ≤ s.now then s.sctlDone b 2 [] else s

/-! ### Triggers (R87, R91) -/

/-- Leading edge of SNS_TRIG[n], at G_k + OFFSET of its link's grid: while the link is RUNNING, or ACQUIRING with
ARMED, and not after a STOP (R87, R91). -/
def State.trigLead (s : State) (n : Nat) : State :=
  let l := s.get (Reg.SLR_TRIG_CFG_LINK n)
  if !s.on .slr ∨ !s.established ∨ (l ≠ 1 ∧ l ≠ 2) then s
  else
    let l := l - 1
    let run := s.linkState l == 3 || (s.linkState l == 1 && s.flag (Reg.SLR_LINK_STATUS_ARMED l))
    if !run || (s.link l).stopAt.isSome then s
    else
      let ofs := toSigned 32 (s.get (Reg.SLR_TRIG_OFFSET n))
      match s.userInstant l (((s.mediaNs : Int) - ofs).toNat) with
      | none => s
      | some g =>
        let at' := ((g : Int) + ofs).toNat
        let s := { s with slr := { s.slr with trigHigh := updN s.slr.trigHigh n (fun _ => true), trigAt := updN s.slr.trigAt n (fun _ => at') } }
        s.out (.trigger n (!s.flag (Reg.SLR_TRIG_CFG_POLARITY n)) at')

/-- Trailing edge, WIDTH ns after the leading edge (R87). -/
def State.trigTrail (s : State) (n : Nat) : State :=
  if !getN s.slr.trigHigh n false ∨ !s.live .slr then s
  else
    let at' := getN s.slr.trigAt n 0 + s.get (Reg.SLR_TRIG_WIDTH n)
    let s := { s with slr := { s.slr with trigHigh := updN s.slr.trigHigh n (fun _ => false) } }
    s.out (.trigger n (s.flag (Reg.SLR_TRIG_CFG_POLARITY n)) at')

/-! ### Run, stop, relock, clear (R85, R91, R92, R477) -/

/-- The unit is disabled: both links are DISABLED. -/
def State.slrOff (s : State) : State :=
  let s := { s with units := updN s.units 1 (fun (x : UnitSt) => { x with leaving := false }) }
  let s := (s.put (Reg.UNIT_STATUS_ENABLED 1) 0).puts [(Reg.SLR_LINK_STATUS_ARMED 0, 0), (Reg.SLR_LINK_STATUS_ARMED 1, 0)]
  let s := (s.setLinkState 0 0).setLinkState 1 0
  (List.range 32).foldl (fun s n => (s.put (Reg.SLR_LANE_STATUS n) 0).setLane n (fun _ => LaneSt.reset)) s

/-- STOPPING becomes STOPPED, and ARMED clears, once no frame is open and two run-out frames have closed, 2T + T_rd
has passed since STOP, or the link is the Pattern Source's (R92). -/
def State.checkStopped (s : State) (l : Nat) : State :=
  let x := s.link l
  match x.stopAt, x.frame with
  | some at', none =>
    let t := periodNs (s.get (Reg.SLR_LINK_RATE_NUM l)) (s.get (Reg.SLR_LINK_RATE_DEN l))
    let late := decide (at' + 2 * t + s.get (Reg.SLR_LINK_TRD l) ≤ s.mediaNs)
    if decide (2 ≤ x.runoutClosed) || late || s.flag (Reg.SLR_LINK_CFG_SOURCE l) then
      let s := (s.setLink l (fun x => { x with stopAt := none })).put (Reg.SLR_LINK_STATUS_ARMED l) 0
      s.setLinkState l 5
    else s
  | _, _ => s

/-- STOP on a link (R91): it takes effect in the cycle in which the write completes. -/
def State.stopLink (s : State) (l : Nat) : State :=
  if s.linkState l = 3 ∨ (s.linkState l = 1 ∧ s.flag (Reg.SLR_LINK_STATUS_ARMED l)) then
    let s := s.setLink l (fun x => { x with stopAt := some s.mediaNs, runoutClosed := 0 })
    let s := (s.put (Reg.SLR_LINK_STATUS_RUNOUT l) 0).setLinkState l 4
    s.checkStopped l
  else s

/-- RUN on a link (R60, R85). -/
def State.runLink (s : State) (l : Nat) : State :=
  if !s.linkUsed l then s.refuse .slr 0x0101 (Reg.SLR_LINK_CTL l)
  else if (s.linkLanes l).any (fun n => s.get (Reg.SLR_LANE_TEST_MODE n) != 0) then s.refuse .slr 0x0106 (Reg.SLR_LINK_CTL l)
  else if s.linkState l = 0 ∨ s.linkState l = 4 then s
  else
    let s := s.put (Reg.SLR_LINK_STATUS_ARMED l) 1
    if s.linkState l = 2 ∨ s.linkState l = 5 then s.setLinkState l 3 else s

/-- RELOCK on a link: ACQUIRING, except while RUNNING or STOPPING; its lanes seek markers anew. -/
def State.relockLink (s : State) (l : Nat) : State :=
  if s.linkState l = 0 ∨ s.linkState l = 3 ∨ s.linkState l = 4 then s
  else
    let s := s.setLinkState l (if (s.linkLanes l).isEmpty then 2 else 1)
    (s.linkLanes l).foldl (fun s n => (s.put (Reg.SLR_LANE_STATUS_MARKER_LOCK n) 0).setLane n (fun x => { x with
      good := 0, bad := 0, nextSeq := none, laneId := none, words := none })) s

/-- CLR: the link's counters and its lanes' counters. -/
def State.clearLink (s : State) (l : Nat) : State :=
  let s := s.puts ([Reg.SLR_CNT_HCRC l, Reg.SLR_CNT_PCRC l, Reg.SLR_CNT_LINE_FILL l, Reg.SLR_CNT_LINE_LATE l,
    Reg.SLR_CNT_FRAME_INCOMPLETE l, Reg.SLR_CNT_FS_LOST l, Reg.SLR_CNT_FS_DISCARD l, Reg.SLR_CNT_LOCK_LOSS l].map (fun f => (f, 0)))
  (s.linkLanes l).foldl (fun s n => s.puts [(Reg.SLR_CNT_MARKER n, 0), (Reg.SLR_CNT_STUFF n, 0)]) s

/-- A write to SLR_LINK_CTL(l) (R477). -/
def State.linkCtl (s : State) (l : Nat) (v : Nat) : State :=
  let run := bitAt v 0
  let stop := bitAt v 1
  let relock := bitAt v 3
  if b2n run + b2n stop + b2n relock > 1 then s.refuse .slr 0x010B (Reg.SLR_LINK_CTL l)
  else
    let s := s.setReg (Reg.SLR_LINK_CTL l).ofs (BitVec.ofNat 32 (v % 16))
    let s := if bitAt v 2 then s.clearLink l else s
    if run then s.runLink l else if stop then s.stopLink l else if relock then s.relockLink l else s

/-- Links follow the configuration in effect: a used link of the enabled unit leaves DISABLED, an unused one is
DISABLED (Table SLR-10). A link that takes its frames from the Pattern Source has no lanes to lock. -/
def State.slrLinks (s : State) : State :=
  (List.range 2).foldl (fun s l =>
    if !s.enabled .slr || !s.linkUsed l then s.setLinkState l 0
    else if s.linkState l = 0 then s.setLinkState l (if s.flag (Reg.SLR_LINK_CFG_SOURCE l) then 2 else 1)
    else s) s

/-! ### Meanings -/

def execMarker (t : Nat) (lane : Fin 32) (line : List Bool) (ui : Nat) (s : State) : Res := .next ((s.tick t).marker lane line ui)
def execCdrLock (t : Nat) (lane : Fin 32) (s : State) : Res := .next ((s.tick t).cdrLock lane)
def execCdrLockLost (t : Nat) (lane : Fin 32) (s : State) : Res := .next ((s.tick t).cdrLost lane)
def execAdaptDone (t : Nat) (lane : Fin 32) (heights : List Nat) (width : Nat) (s : State) : Res :=
  .next ((s.tick t).adaptDone lane heights width)
def execCtleTrack (t : Nat) (lane : Fin 32) (height below above width : Nat) (s : State) : Res :=
  .next ((s.tick t).ctleTrack lane height below above width)
def execPrbsCheckLock (t : Nat) (lane : Fin 32) (line : List Bool) (s : State) : Res := .next ((s.tick t).prbsBits lane line)
def execPrbsCheckUnlock (t : Nat) (lane : Fin 32) (line : List Bool) (s : State) : Res := .next ((s.tick t).prbsBits lane line)
def execPrbsGo (t : Nat) (lane : Fin 32) (s : State) : Res := .next ((s.tick t).ctl .slr true (Reg.SLR_LANE_TEST lane) (fun s => (s.puts [(Reg.SLR_LANE_TEST_GO lane, 1), (Reg.SLR_LANE_TEST_CLR lane, 0)]).prbsGo lane))
def execPrbsInjectPeriod (t : Nat) (lane : Fin 32) (s : State) : Res := .next ((s.tick t).prbsPeriod lane)
def execPrbsClr (t : Nat) (lane : Fin 32) (s : State) : Res := .next ((s.tick t).ctl .slr true (Reg.SLR_LANE_TEST lane) (fun s => (s.puts [(Reg.SLR_LANE_TEST_GO lane, 0), (Reg.SLR_LANE_TEST_CLR lane, 1)]).prbsClr lane))
def execSctlPush (t : Nat) (bus : Fin 3) (entry : List Word) (s : State) : Res :=
  .next ((s.tick t).cmd .slr true (Reg.SLR_SCTL_PUSH bus) (entry.getLastD 0).toNat (fun s => entry.foldl (fun s w => s.sctlWord bus w) s))
def execSctlLaunch (t : Nat) (bus : Fin 3) (s : State) : Res := .next ((s.tick t).sctlLaunch bus)
def execSctlEntryDone (t : Nat) (bus : Fin 3) (status : Nat) (bytes : List Nat) (s : State) : Res :=
  .next ((s.tick t).sctlDone bus status bytes)
def execSctlTimeout (t : Nat) (bus : Fin 3) (s : State) : Res := .next ((s.tick t).sctlTimeout bus)
def execTrigLeadingEdge (t : Nat) (n : Fin 4) (s : State) : Res := .next ((s.tick t).trigLead n)
def execTrigTrailingEdge (t : Nat) (n : Fin 4) (s : State) : Res := .next ((s.tick t).trigTrail n)
def execRun (t : Nat) (link : Fin 2) (word : Nat) (s : State) : Res := .next ((s.tick t).cmd .slr true (Reg.SLR_LINK_CTL link) ((word ||| 1) % 16) (fun s => s.linkCtl link (word ||| 1)))
def execLinkClr (t : Nat) (link : Fin 2) (word : Nat) (s : State) : Res := .next ((s.tick t).cmd .slr true (Reg.SLR_LINK_CTL link) ((word ||| 4) % 16) (fun s => s.linkCtl link (word ||| 4)))
def execRelock (t : Nat) (link : Fin 2) (word : Nat) (s : State) : Res := .next ((s.tick t).cmd .slr true (Reg.SLR_LINK_CTL link) ((word ||| 8) % 16) (fun s => s.linkCtl link (word ||| 8)))

end Sys2Proof.Machine
end

