-- ==== Sys2Proof/Machine/Apu.lean ====
section
/-!
DEFINITION. The audio ports: start and stop, slot map swaps, playout, rate measurement and the recording of blocks
(11_audio_ports.md, R289 to R308).
-/

namespace Sys2Proof.Machine

/-! ### Starting and stopping -/

/-- A port has reached frame 0, or will not: START_STATUS follows (R298, Table APU-7). -/
def State.startedPort (s : State) (p : Nat) : State :=
  if s.apu.going.contains p then
    let rest := s.apu.going.filter (fun q => q != p)
    let s := { s with apu := { s.apu with going := rest } }
    if rest.isEmpty then (s.put Reg.APU_START_STATUS_PENDING 0).raise .apu 10 else s
  else s

/-- Lead-in of a port in ns, rounded up. -/
def State.leadNs (s : State) (p : Nat) : Nat :=
  let r := s.portRate p
  ceilDiv (s.get (Reg.APU_PORT_RAMP_FRAMES p) * r.2 * 1000000000) r.1

/-- GO (R298). -/
def State.apuGo (s : State) : State :=
  let mask := (List.range 8).filter (fun p => bitAt (s.get Reg.APU_START_MASK_PORTS) p)
  let start := s.getTime Reg.APU_START_S_HI_V Reg.APU_START_S_LO Reg.APU_START_NS
  let lead := maxN ((mask.filter (fun p => s.flag (Reg.APU_PORT_CFG_MASTER p))).map s.leadNs)
  if mask.any (fun p => s.portState p != 1) ∨ start < s.mediaNs + 100000 + lead then s.refuse .apu 0x0705 Reg.APU_START_CTL
  else if mask.isEmpty then s
  else
    let s := mask.foldl (fun s p => (s.setPortState p 2).setPort p (fun x => { x with start := some start, lead := 0, stopReq := false })) s
    ({ s with apu := { s.apu with going := dedup (s.apu.going ++ mask) } }).put Reg.APU_START_STATUS_PENDING 1

/-- A port leaves a start or a stream and is IDLE. -/
def State.portIdle (s : State) (p : Nat) : State :=
  ((s.setPortState p 1).setPort p (fun x => { x with
    start := none, lead := 0, stopReq := false, rx := none, tx := none, nextFlags := 0, lostByClass := false, resume := false })).startedPort p

/-- ARM (R299): a master's lead-in starts with the next CLK_CTL cycle, a slave's counts frame boundaries. -/
def State.armPort (s : State) (p : Nat) : State :=
  if s.portState p ≠ 1 then s
  else if s.flag (Reg.APU_PORT_CFG_MASTER p) then
    let r := s.portRate p
    let first := (s.media + s.mediaRate) / mediaUnit
    (s.setPortState p 2).setPort p (fun x => { x with
      start := some (first + roundDiv (s.get (Reg.APU_PORT_RAMP_FRAMES p) * r.2 * 1000000000) r.1), stopReq := false })
  else
    (s.setPortState p 3).setPort p (fun x => { x with start := none, lead := s.get (Reg.APU_PORT_RAMP_FRAMES p), stopReq := false })

/-- STOP (R300, R305): an armed port returns to IDLE at once, a port that lost its clock too; a running one stops at its next boundary. -/
def State.apuStop (s : State) (p : Nat) : State :=
  match s.portState p with
  | 2 => s.portIdle p
  | 6 => s.portIdle p
  | 3 => s.setPort p (fun x => { x with stopReq := true })
  | 4 => s.setPort p (fun x => { x with stopReq := true })
  | _ => s

/-! ### Slot map swaps (R293) -/

/-- The copies exchange. Where the receive channels change the open block closes and the next carries MAP_CHANGE; where
the transmit channels change, the block in play ends. -/
def State.slotMapSwap (s : State) (p : Nat) : State :=
  let a := s.portMap p
  let rx := fun c => (s.portSlots p c 0, s.slotLabels p c (s.portSlots p c 0))
  let tx := fun c => (s.portSlots p c 1, s.slotLabels p c (s.portSlots p c 1))
  let t := if rx a != rx (1 - a) && s.portState p == 4 then s.closeBlock p 0 8 else s
  let t := if tx a != tx (1 - a) then t.setPort p (fun x => { x with tx := none }) else t
  (t.puts [(Reg.APU_PORT_STATUS_ACTIVE p, 1 - a), (Reg.APU_PORT_STATUS_SWAP_PENDING p, 0)]).raise .apu 11

/-- The port is idle (R23). -/
def State.portQuiet (s : State) (p : Nat) : Bool := s.portState p == 0 || s.portState p == 1 || s.idle.contains (.apu p)

/-- SWAP (R293). -/
def State.apuSwap (s : State) (p : Nat) : State :=
  let c := 1 - s.portMap p
  if s.flag (Reg.APU_PORT_STATUS_SWAP_PENDING p) then s.refuse .apu 0x0704 (Reg.APU_PORT_CTL p)
  else if (s.portSlots p c 0 ++ s.portSlots p c 1).any (fun i => decide (s.get (Reg.APU_PORT_CFG_SLOTS_M1 p) < i)) then
    s.refuse .apu 0x0701 (Reg.APU_PORT_CTL p)
  else if s.portQuiet p then s.slotMapSwap p
  else s.put (Reg.APU_PORT_STATUS_SWAP_PENDING p) 1

/-- A write through the slot map window (R293). -/
def State.slotMapWrite (s : State) (ofs p c i : Nat) (v : Word) : State :=
  let f : Fld := ⟨ofs, 31, 0⟩
  if s.flag (Reg.APU_PORT_STATUS_SWAP_PENDING p) then s.refuse .apu 0x0704 f
  else if c = s.portMap p then s.refuse .apu 0x0703 f
  else s.setPort p (fun x => { x with maps := updN x.maps c (fun m => SMap.setD m 0 i ((v &&& 0xC000007F#32).toNat)) })

/-! ### Playout (R302, R303) -/

/-- A frame of zeros for n channels. -/
def zeroFrame (n : Nat) : List Nat := List.replicate n 0

/-- The samples of a transmit block's data: F frames of C words of w bits. -/
def txFrames (pack w c f : Nat) (data : List Byte) : List (List Nat) :=
  let b := sampleBytes pack
  (List.range f).map (fun j => (List.range c).map (fun k => unpackSample pack w (bytesAt data ((j * c + k) * b) b)))

/-- A poisoned audio block is muted, counted and logged (R303, Table FLT-5). -/
def State.audioPoison (s : State) (p frame : Nat) : State :=
  ((s.count (Reg.APU_CNT_POISON p) 1).raise .apu 9).logFree .apu p 9 0x07 frame

/-- Bring the block for audio frame `due` into play: blocks that are wholly past, or that disagree with the port, are
discarded; a block ahead waits at the head of TX_QUEUE (R302). -/
def State.txAdvance (s : State) (p due fuel : Nat) : State :=
  match fuel with
  | 0 => s
  | k + 1 =>
    match (s.port p).tx with
    | some b => if due < b.aframe + b.count then s else (s.setPort p (fun x => { x with tx := none })).txAdvance p due k
    | none =>
      let q := s.get (Reg.APU_PORT_Q_TX p)
      match if q = 0 then none else (s.queue q).front.head? with
      | none => s
      | some item =>
        let head := (item.head?.map (·.data)).getD []
        let aframe := leVal (bytesAt head 6 6)
        let count := leVal (bytesAt head 22 2)
        let chans := leVal (bytesAt head 25 1)
        let pack := leVal (bytesAt head 26 1)
        let slots := s.portSlots p (s.portMap p) 1
        if chans ≠ slots.length ∨ pack ≠ s.get (Reg.APU_PORT_CFG_PACK p) then
          (((s.readItem q 4096).2).count (Reg.APU_CNT_TX_BAD p) 1).txAdvance p due k
        else if due < aframe then s
        else
          let (cells, s) := s.readItem q 4096
          let bad := itemPoison cells ≠ 0
          let s := if bad then s.audioPoison p (leVal (bytesAt head 0 6)) else s
          let data := (cells.drop 1).flatMap (·.data)
          let w := wordBits (s.get (Reg.APU_PORT_CFG_WORD_BITS p))
          let s := s.count (Reg.APU_CNT_TX_LATE p) (min count (due - aframe))
          let s := if bad then s else s.audioLevels p slots (txFrames pack w chans count data)
          (s.setPort p (fun x => { x with
            tx := some { aframe := aframe, count := count, frames := if bad then none else some (txFrames pack w chans count data) } })).txAdvance
              p due k

/-- Words of the slots of an audio frame whose TX samples are `f`. -/
def State.slotWords (s : State) (p : Nat) (f : List Nat) : List Nat :=
  let tx := s.portSlots p (s.portMap p) 1
  (List.range (s.get (Reg.APU_PORT_CFG_SLOTS_M1 p) + 1)).map (fun i => if tx.contains i then f.getD (tx.idxOf i) 0 else 0)

/-- One audio frame is played (R302). -/
def State.playFrame (s : State) (p : Nat) : State :=
  let tx := s.portSlots p (s.portMap p) 1
  if tx.isEmpty then s.out (.audio p (s.slotWords p []))
  else
    let n := s.aframe p
    let s := s.txAdvance p n 1024
    match (s.port p).tx with
    | some b =>
      if b.aframe ≤ n then s.out (.audio p (s.slotWords p (((b.frames.map (fun f => f.getD (n - b.aframe) [])).getD []))))
      else s.out (.audio p (s.slotWords p []))
    | none =>
      let s := ((s.count (Reg.APU_CNT_UNDER_FRAMES p) 1).raise .apu 8).logFree .apu p 8 0x07 0
      s.out (.audio p (s.slotWords p []))

/-! ### Frame boundaries -/

/-- Media time of audio frame k: t0 + k ÷ Fs of a master, the time stamp of a slave (R291). -/
def State.frameTime (s : State) (p k : Nat) : Nat :=
  match s.flag (Reg.APU_PORT_CFG_MASTER p), (s.port p).start with
  | true, some t0 => t0 + roundDiv (k * (s.portRate p).2 * 1000000000) (s.portRate p).1
  | _, _ => s.mediaNs

/-- Data moves in the audio frame that begins. -/
def State.runFrame (s : State) (p : Nat) (words : List Nat) : State :=
  let time := s.frameTime p (s.aframe p)
  (s.receiveFrame p time words).playFrame p

/-- What applies at every audio frame boundary: committed values, then a swap (R21, R293). -/
def State.apuBoundary (s : State) (p : Nat) : State :=
  let s := s.boundary (.apu p) [] false
  if s.flag (Reg.APU_PORT_STATUS_SWAP_PENDING p) then s.slotMapSwap p else s

/-- Audio frame 0 (R298 to R300). -/
def State.audioStart (s : State) (p : Nat) (words : List Nat) : State :=
  let x := s.port p
  let due : Bool := decide ((x.start.getD 0) ≤ s.mediaNs)
  let ready : Bool :=
    if s.flag (Reg.APU_PORT_CFG_MASTER p) then (s.portState p == 3 || s.portState p == 2) && x.start.isSome && due
    else (s.portState p == 2 && due) || (s.portState p == 3 && x.lead == 0)
  if !s.on .apu ∨ !ready then s
  else
    let s := s.apuBoundary p
    if x.stopReq then s.portIdle p
    else
      let s := (s.setPortState p 4).setPort p (fun x => { x with lastNs := s.mediaNs, rx := none, tx := none, nextFlags := 0 })
      ((s.setAframe p 0).startedPort p).runFrame p words

/-- A master starts its clocks RAMP_FRAMES before its start (R298, R299). -/
def State.leadIn (s : State) (p : Nat) : State :=
  if s.on .apu ∧ s.flag (Reg.APU_PORT_CFG_MASTER p) ∧ s.portState p = 2 ∧ ((s.port p).start.getD 0) ≤ s.mediaNs + s.leadNs p then
    s.setPortState p 3
  else s

/-- A stopped port: reception ends and the open block closes with PARTIAL; a master trails, a slave is IDLE (R300). -/
def State.stopPort (s : State) (p : Nat) : State :=
  let s := s.closeBlock p 0x10 0
  if s.flag (Reg.APU_PORT_CFG_MASTER p) then
    (s.setPortState p 5).setPort p (fun x => { x with stopReq := false, tx := none, lead := s.get (Reg.APU_PORT_RAMP_FRAMES p) })
  else s.portIdle p

/-- A port that lost its edges resumes (R305): AFRAME advances by the frame periods that elapsed at RATE_REF. -/
def State.resumePort (s : State) (p : Nat) : State :=
  let n := roundDiv ((s.mediaNs - (s.port p).lastNs) * s.get (Reg.APU_RATE_REF p)) 100000000000
  let s := s.setAframe p ((s.aframe p + n) % 2 ^ 48)
  let s := s.puts [(Reg.APU_PORT_STATUS_LOCK p, 1), (Reg.APU_RATE_REF p, s.get (Reg.APU_RATE_MEAS p))]
  (s.setPortState p 4).setPort p (fun x => { x with nextFlags := x.nextFlags ||| 2, resume := false, lastNs := s.mediaNs, tx := none })

/-- An audio frame boundary (R21, R289, R293, R300, R302, R305, R308). -/
def State.audioBoundary (s : State) (p : Nat) (words : List Nat) : State :=
  if !s.on .apu then s
  else
    match s.portState p with
    | 3 =>
      let s := s.apuBoundary p
      if (s.port p).stopReq then (if s.flag (Reg.APU_PORT_CFG_MASTER p) then s.stopPort p else s.portIdle p)
      else s.setPort p (fun x => { x with lead := x.lead - 1 })
    | 4 =>
      let s := s.apuBoundary p
      if (s.port p).stopReq then s.stopPort p
      else
        let s := s.setAframe p ((s.aframe p + 1) % 2 ^ 48)
        let s := s.setPort p (fun x => { x with lastNs := s.mediaNs })
        s.runFrame p words
    | 5 => (s.apuBoundary p).setPort p (fun x => { x with lead := x.lead - 1 })
    | 6 =>
      let s := s.apuBoundary p
      if (s.port p).resume then (s.resumePort p).runFrame p words else s
    | _ => s.apuBoundary p

/-- The trail of a stopped master ends (R300). -/
def State.trailEnd (s : State) (p : Nat) : State :=
  if s.portState p = 5 ∧ (s.port p).lead = 0 then s.portIdle p else s

/-- 1.5 frame periods of the source have passed without a boundary: the open block closes, once (R294). -/
def State.noBoundary (s : State) (p : Nat) : State :=
  match s.assocBoundary p, (s.port p).rx with
  | some b, some r =>
    if s.on .apu ∧ b.lapsed s.mediaNs ∧ 2 * r.time < 2 * b.time + 3 * b.period then s.closeBlock p 4 0 else s
  | _, _ => s

/-! ### Rate measurement (R304, R305) -/

/-- A measurement (0.01 Hz) lies within ±1 % of the nominal of class c or of its 1,000 ÷ 1,001 variant. -/
def inClass (meas c : Nat) : Bool :=
  let hz := ([32000, 44100, 48000, 88200, 96000, 176400, 192000] : List Nat).getD c 0
  let near := fun (num den : Nat) => decide (meas * den * 100 ≤ num * 10100 ∧ num * 9900 ≤ meas * den * 100)
  near hz 1 || near (hz * 1000) 1001

/-- The class a measurement lies in. -/
def classOf (meas : Nat) : Option Nat := (List.range 7).find? (inClass meas)

/-- A rate event of port p. -/
def State.rateEvent (s : State) (p : Nat) : State := (s.count (Reg.APU_CNT_RATE_EVT p) 1).raise .apu p

/-- A port enters LOST (R305). -/
def State.portLost (s : State) (p : Nat) (byClass : Bool) : State :=
  let s := s.put (Reg.APU_PORT_STATUS_LOCK p) 0
  if s.portState p = 4 then
    ((s.closeBlock p 1 0).setPortState p 6).setPort p (fun x => { x with lostByClass := byClass, resume := false, tx := none })
  else s

/-- A slave has measured 1,024 frames. The class of a measurement in no class the spec does not say: a free value. -/
def State.rateWindow (s : State) (p meas : Nat) : State :=
  if !s.on .apu ∨ s.flag (Reg.APU_PORT_CFG_MASTER p) then s
  else
    let (v, s) := s.fresh
    let cls := s.get (Reg.APU_PORT_CFG_RATE_CLASS p)
    let s := s.puts [(Reg.APU_RATE_MEAS p, meas), (Reg.APU_PORT_STATUS_CLASS_MEAS p, (classOf meas).getD (v % 16))]
    if s.portState p = 6 then
      if !(s.port p).lostByClass ∧ inClass meas cls then s.setPort p (fun x => { x with resume := true }) else s
    else
      let s := if s.flag (Reg.APU_PORT_STATUS_LOCK p) then s
        else s.puts [(Reg.APU_RATE_REF p, meas), (Reg.APU_PORT_STATUS_LOCK p, 1)]
      let ref := s.get (Reg.APU_RATE_REF p)
      let s := if 2 * ref < 1000 * (max meas ref - min meas ref) then (s.rateEvent p).put (Reg.APU_RATE_REF p) meas else s
      match classOf meas with
      | some c => if c = cls then s else (s.rateEvent p).portLost p true
      | none => s

/-- No FSYNC edge for 8 frame periods at RATE_REF (R304). -/
def State.fsyncLoss (s : State) (p : Nat) : State :=
  if s.on .apu ∧ !s.flag (Reg.APU_PORT_CFG_MASTER p) ∧ s.flag (Reg.APU_PORT_STATUS_LOCK p) then (s.rateEvent p).portLost p false else s

/-- RATE_MEAS of a master port: its nominal rate in 0.01 Hz (R304). Which way a rate of 1,000 ÷ 1,001 is rounded the
spec does not say: a free choice. -/
def State.masterRate (s : State) (p : Nat) : Nat × State :=
  let r := s.portRate p
  if 100 * r.1 % r.2 = 0 then (100 * r.1 / r.2, s)
  else
    let (v, s) := s.fresh
    (100 * r.1 / r.2 + v % 2, s)

/-! ### Recording (R306, R307) -/

/-- The clip writer takes a block from the port's REC_QUEUE and writes it with the video frame that its FRAME names. A
muted block is written as zeros with the poison flag (R303); a block whose frame has its entry already, as missing or
as another block, is discarded and counted as late. -/
def State.recBlockWrite (s : State) (p : Nat) : State :=
  let q := s.get (Reg.APU_PORT_REC_QUEUE p)
  let r := s.get (Reg.APU_PORT_REC_REEL p)
  if q = 0 ∨ !s.flag (Reg.APU_PORT_REC_REC p) then s
  else
    let (cells, s) := s.readItem q 4096
    match cells.head?, s.audioPath p with
    | some c, some b =>
      let frame := leVal (bytesAt c.data 0 6)
      let bad := itemPoison cells ≠ 0
      let data := cells.flatMap (·.data)
      let n := leVal (bytesAt c.data 22 2) * leVal (bytesAt c.data 25 1) * sampleBytes (leVal (bytesAt c.data 26 1)) + 64
      let s := if bad then s.audioPoison p frame else s
      match s.reservation r b.path frame with
      | some v =>
        let bytes := if bad then zeros data.length else bytesAt data 0 n
        let s := s.write (s.blockAddr v.block) bytes
        (s.indexFrame r b.path frame 5 (b2n bad) bytes.length v.stamp).deliver b.path frame v.stamp
      | none =>
        if decide (frame ≤ (s.path b.path).lastDel) || s.apu.missing.contains (b.path, frame) then s.count (Reg.MSS_CNT_REC_LATE r) 1
        else s
    | _, _ => s

/-- The block of a frame is overdue (R307): a later boundary of the source has come, or 1.5 frame periods have passed. -/
def State.recDue (s : State) (b : Booking) (v : Reservation) : Bool :=
  match SMap.lookup s.apu.srcs (b.src + 1) with
  | some x => !x.begun.any (fun e => e.1 == b.path && e.2 == v.frame) || x.lapsed s.mediaNs
  | none => false

/-- The block of the oldest frame in flight on the port's path has not come in time: a MISSING entry delivers the frame
(R307). -/
def State.recBlockMissing (s : State) (p : Nat) : State :=
  let r := s.get (Reg.APU_PORT_REC_REEL p)
  match s.audioPath p with
  | none => s
  | some b =>
    match (s.reel r).reservations.find? (fun (v : Reservation) => v.path == b.path) with
    | none => s
    | some v =>
      if s.recDue b v then
        let s := { s with apu := { s.apu with missing := ((b.path, v.frame) :: s.apu.missing).take 64 } }
        (s.indexFrame r b.path v.frame 5 4 0 v.stamp).deliver b.path v.frame v.stamp
      else s

/-- CLR: the port's counters (Table APU-6). -/
def State.apuClr (s : State) (p : Nat) : State :=
  s.puts [(Reg.APU_CNT_UNDER_FRAMES p, 0), (Reg.APU_CNT_TX_LATE p, 0), (Reg.APU_CNT_TX_BAD p, 0), (Reg.APU_CNT_RX_DROP p, 0),
    (Reg.APU_CNT_POISON p, 0), (Reg.APU_CNT_RATE_EVT p, 0)]

/-- The unit is enabled: every port is IDLE; or disabled: every port is DISABLED and what it held is gone. -/
def State.apuEnable (s : State) (on : Bool) : State :=
  let s := { s with apu := { s.apu with going := [] } }.put Reg.APU_START_STATUS_PENDING 0
  (List.range 8).foldl (fun s p =>
    (s.setPortState p (b2n on)).setPort p (fun x => { x with
      start := none, lead := 0, stopReq := false, rx := none, tx := none, nextFlags := 0, lostByClass := false, resume := false })) s

/-! ### The commands -/

def execAudioFrameBoundary (t : Nat) (p : Fin 8) (words : List Nat) (s : State) : Res := .next ((s.tick t).audioBoundary p words)
def execNoBoundary (t : Nat) (p : Fin 8) (s : State) : Res := .next ((s.tick t).noBoundary p)
def execGo (t : Nat) (s : State) : Res := .next ((s.tick t).cmd .apu true Reg.APU_START_CTL 1 (fun s => s.apuGo))
def execLeadInStart (t : Nat) (p : Fin 8) (s : State) : Res := .next ((s.tick t).leadIn p)
def execAudioStart (t : Nat) (p : Fin 8) (words : List Nat) (s : State) : Res := .next ((s.tick t).audioStart p words)
def execArm (t : Nat) (p : Fin 8) (s : State) : Res := .next ((s.tick t).cmd .apu true (Reg.APU_PORT_CTL p) 1 (fun s => s.armPort p))
def execApuStop (t : Nat) (p : Fin 8) (s : State) : Res := .next ((s.tick t).cmd .apu true (Reg.APU_PORT_CTL p) 2 (fun s => s.apuStop p))
def execSwap (t : Nat) (p : Fin 8) (s : State) : Res := .next ((s.tick t).cmd .apu true (Reg.APU_PORT_CTL p) 8 (fun s => s.apuSwap p))
def execApuClr (t : Nat) (p : Fin 8) (s : State) : Res := .next ((s.tick t).cmd .apu true (Reg.APU_PORT_CTL p) 4 (fun s => s.apuClr p))
def execSlotMapWrite (t : Nat) (p : Fin 8) (copy : Fin 2) (i : Fin 16) (v : Word) (s : State) : Res :=
  let ofs := 0x708000 + 0x100 * p.val + 0x40 * copy.val + 4 * i.val
  .next ((s.tick t).ctl .apu true ⟨ofs, 31, 0⟩ (fun s => s.slotMapWrite ofs p copy i v))
def execTrailEnd (t : Nat) (p : Fin 8) (s : State) : Res := .next ((s.tick t).trailEnd p)
/-- A transmit block that reached TX_QUEUE is looked at while the port runs: the next frame due is the one after AFRAME. -/
def execTxBlockArrive (t : Nat) (p : Fin 8) (s : State) : Res :=
  let s := s.tick t
  .next (if s.on .apu ∧ s.portState p = 4 then s.txAdvance p (s.aframe p + 1) 1024 else s)
def execRateWindow (t : Nat) (p : Fin 8) (meas : Nat) (s : State) : Res := .next ((s.tick t).rateWindow p (meas % 2 ^ 32))
def execFsyncLoss (t : Nat) (p : Fin 8) (s : State) : Res := .next ((s.tick t).fsyncLoss p)
def execRecBlockWrite (t : Nat) (p : Fin 8) (s : State) : Res := .next ((s.tick t).recBlockWrite p)
def execRecBlockMissing (t : Nat) (p : Fin 8) (s : State) : Res := .next ((s.tick t).recBlockMissing p)

end Sys2Proof.Machine
end

