-- ==== Sys2Proof/Machine/Rfe.lean ====
section
/-!
DEFINITION. The Raw Front End: the seven stages, the Defect Map Table, the correction tables and their swaps, the taps
and their buffers (04_raw_front_end.md, R94 to R125, R487).
-/

namespace Sys2Proof.Machine

/-! ### Configuration of a frame -/

/-- What the stages read of the configuration, for the frame in the RFE. -/
structure RfeCfg where
  cfg : Nat
  d : Nat
  phase : Nat
  mono : Bool
  quad : Bool
  ox : Nat
  oy : Nat
  w : Nat
  h : Nat
  /-- samples per site in, and planes the stages carry -/
  sin : Nat
  planes : Nat
  merge : Bool
  /-- PEDESTAL in 1/16 codes -/
  ped : Int
  group : Nat
  cols : Nat
  split : Nat
  deriving DecidableEq, Repr

/-- Lattice distance of a CFA code (R97). -/
def latticeOf (cfa : Nat) : Nat := if cfa = 0 then 1 else if cfa = 1 then 2 else 4

/-- The configuration that applies to a frame. -/
def State.rfeCfg (s : State) (f : RfeFrame) : RfeCfg :=
  let cfa := s.get Reg.RFE_CFG_CFA
  let merge := s.flag Reg.RFE_CFG_DG_MERGE && f.fmt.dg
  { cfg := (s.reg Reg.RFE_CFG.ofs).toNat, d := latticeOf cfa, phase := s.get Reg.RFE_CFG_PHASE, mono := cfa == 0,
    quad := cfa == 2, ox := s.get Reg.RFE_ORIGIN_X, oy := s.get Reg.RFE_ORIGIN_Y, w := f.fmt.width, h := f.fmt.lines,
    sin := if f.fmt.dg then 2 else 1, planes := if f.fmt.dg && !merge then 2 else 1, merge := merge,
    ped := 16 * (s.get Reg.RFE_PEDESTAL_PEDESTAL : Nat), group := s.get Reg.RFE_CHMAP_GROUP,
    cols := s.get Reg.RFE_CHMAP_COLS_M1 + 1, split := s.get Reg.RFE_CHMAP_SPLIT_ROW }

/-- Readout channel of a full-array site (R100). -/
def RfeCfg.channel (c : RfeCfg) (x y : Nat) : Nat :=
  x / max 1 c.group % c.cols + (if c.split ≠ 0 ∧ c.split ≤ y then c.cols else 0)

/-- Channels in use. -/
def RfeCfg.channels (c : RfeCfg) : Nat := if c.split = 0 then c.cols else 2 * c.cols

/-- Colour of a full-array site (R97): 0 R, 1 Gr, 2 Gb, 3 B; the plane number of the flat field (0 for monochrome). -/
def RfeCfg.colour (c : RfeCfg) (x y : Nat) : Nat :=
  if c.mono then 0
  else
    let px := if c.quad then x / 2 % 2 else x % 2
    let py := if c.quad then y / 2 % 2 else y % 2
    (px + 2 * py) ^^^ c.phase

/-- Round a fraction to the nearest integer, ties up (R94). -/
def roundUp (num : Int) (den : Nat) : Int := (2 * num + den) / (2 * den)

/-- A work value's output code: nearest integer, ties up, clamped; and whether it was clamped (R94). -/
def outCode (v : Int) : Nat × Bool :=
  let n := roundUp v 16
  ((clampI 0 65535 n).toNat, decide (n < 0 ∨ 65535 < n))

/-! ### Stages 2 to 4 -/

/-- The merge of R99, rounded to 1/16 code. -/
def State.merge (s : State) (ua ub : Nat) : Int :=
  let lo := s.get Reg.RFE_DG_KNEE_LO
  let dk := s.get Reg.RFE_DG_KNEE_HI - lo
  let pa := s.get Reg.RFE_DG_PED_A
  let n := if ua ≤ lo then 0 else min (ua - lo) dk
  let a : Int := (ua : Int) - pa
  let b : Int := ((ub : Int) - s.get Reg.RFE_DG_PED_B) * s.get Reg.RFE_DG_CFG_RATIO
  let den := max 1 (dk * 1024 * 2 ^ s.get Reg.RFE_DG_CFG_SHIFT)
  roundUp ((((dk : Int) - n) * a * 1024 + n * b) * 16) den + 16 * pa

/-- Every second element, from the first on. -/
def evens {α : Type} : List α → List α
  | a :: _ :: t => a :: evens t
  | l => l

/-- Stage 2 of one plane of a row of stage-1 codes. -/
def State.stage2 (s : State) (c : RfeCfg) (p : Nat) (codes : List Nat) : List Int :=
  if c.sin = 1 then codes.map (fun (u : Nat) => 16 * (u : Int))
  else
    let a := evens codes
    let b := evens (codes.drop 1)
    if c.merge then (a.zip b).map (fun u => s.merge u.1 u.2)
    else (if p = 0 then a else b).map (fun (u : Nat) => 16 * (u : Int))

/-- ACTIVE copy of a table: 0 black, 1 column, 2 gain. -/
def State.tblActive (s : State) (t : Nat) : Nat := bits (s.get Reg.RFE_TBL_STATUS_ACTIVE) t t

/-- A copy of a table. -/
def State.tbl (s : State) (t copy : Nat) : SMap Nat :=
  match t with
  | 0 => getN s.rfe.black copy []
  | 1 => getN s.rfe.col copy []
  | _ => getN s.rfe.gain copy []

/-- Replace a copy of a table. -/
def State.setTbl (s : State) (t copy : Nat) (m : SMap Nat) : State :=
  match t with
  | 0 => { s with rfe := { s.rfe with black := updN s.rfe.black copy (fun _ => m) } }
  | 1 => { s with rfe := { s.rfe with col := updN s.rfe.col copy (fun _ => m) } }
  | _ => { s with rfe := { s.rfe with gain := updN s.rfe.gain copy (fun _ => m) } }

/-- An entry is under a parity error in a row (R123). -/
def RfeFrame.isNeutral (f : RfeFrame) (t e y : Nat) : Bool :=
  f.neutral.any (fun n => n.1 == t && n.2.1 == e && (n.2.2.1 == y || (n.2.2.2 && decide (n.2.2.1 ≤ y))))

/-- An entry of an active table as the stages see it in row y; a parity error makes it neutral: offset 0, gain 1.0. -/
def State.tblEntry (s : State) (f : RfeFrame) (t e y : Nat) : Nat :=
  if f.isNeutral t e y then (if t = 2 then 0x8000 else 0)
  else SMap.getD (s.tbl t (s.tblActive t)) 0 e

/-- Stages 3 and 4 of a site at image column x and row y. -/
def State.stage34 (s : State) (f : RfeFrame) (c : RfeCfg) (y x : Nat) (v : Int) : Int :=
  let v := if bitAt c.cfg 2 then v - (s.tblEntry f 0 (c.channel (x + c.ox) (y + c.oy)) y : Nat) + c.ped else v
  if bitAt c.cfg 3 then
    let e := s.tblEntry f 1 (x + c.ox) y
    v - toSigned 16 (if (y + c.oy) % 2 = 0 then e % 65536 else e / 65536)
  else v

/-- Stage-4 values of one plane of image row y. -/
def State.stage4Row (s : State) (f : RfeFrame) (c : RfeCfg) (p y : Nat) : Array Int :=
  ((s.stage2 c p ((SMap.lookup f.rows y).getD [])).mapIdx (fun x v => s.stage34 f c y x v)).toArray

/-! ### Stage 5 -/

/-- The stage inputs that are in hand: image rows with their values (R120). -/
structure Win where
  w : Nat
  rows : List (Nat × Array Int)
  deriving DecidableEq, Repr

/-- The value of a site that lies inside the image, in a row in hand. -/
def Win.at (g : Win) (x y : Int) : Option Int :=
  if 0 ≤ x ∧ x < g.w ∧ 0 ≤ y then ((g.rows.find? (fun r => r.1 == y.toNat)).map (fun r => r.2.getD x.toNat 0)) else none

/-- The class the table lists a site with: 0 SINGLE, 1 CLUSTER, 2 column run, 3 listed but skipped (R106). -/
def RfeFrame.listedAt (f : RfeFrame) (x y : Int) : Option Nat :=
  if x < 0 ∨ y < 0 then none else (SMap.lookup f.listed y.toNat).bind (fun r => SMap.lookup r x.toNat)

/-- Between which entries of the table the site falls, where entries were lost (R124). -/
def RfeFrame.inLost (f : RfeFrame) (c : RfeCfg) (x y : Int) : Bool :=
  let key : Int := (y + c.oy) * 32768 + x + c.ox
  f.lost.any (fun r => decide ((r.1 : Int) - 1 < key ∧ key < r.2))

/-- Dynamic detection at a site (R110): with MODE on, or with ABS 0x0800 and REL 0x20 where entries were lost. -/
def State.flagged (s : State) (f : RfeFrame) (c : RfeCfg) (g : Win) (x y : Int) : Bool :=
  let lost := f.inLost c x y
  if (s.get Reg.RFE_DYN_CFG_MODE = 0 ∧ !lost) ∨ (f.listedAt x y).isSome then false
  else
    let abs : Int := if lost then 0x800 else s.get Reg.RFE_DYN_CFG_ABS
    let rel : Int := if lost then 0x20 else s.get Reg.RFE_DYN_CFG_REL
    let d : Int := c.d
    let near := ([(-d, -d), (0, -d), (d, -d), (-d, 0), (d, 0), (-d, d), (0, d), (d, d)] : List (Int × Int)).filterMap (fun o =>
      if (f.listedAt (x + o.1) (y + o.2)).isSome then none else g.at (x + o.1) (y + o.2))
    match g.at x y, near with
    | some v, n0 :: rest =>
      if near.length < 3 then false
      else
        let hi := rest.foldl max n0
        let lo := rest.foldl min n0
        decide (256 * v > 256 * hi + 4096 * abs + hi * rel) || decide (256 * v < 256 * lo - 4096 * abs - lo * rel)
    | _, _ => false

/-- A usable neighbour's value (R108). -/
def State.usable (s : State) (f : RfeFrame) (c : RfeCfg) (g : Win) (x y : Int) : Option Int :=
  if (f.listedAt x y).isSome || s.flagged f c g x y then none else g.at x y

/-- Mean of values in 1/16 codes, rounded as R94 says. -/
def meanOf (l : List Int) : Int := roundUp (l.foldl (· + ·) 0) (max 1 l.length)

/-- Insert into a sorted list of integers. -/
def insertI (x : Int) : List Int → List Int
  | [] => [x]
  | y :: t => if x ≤ y then x :: y :: t else y :: insertI x t

/-- Sort integers. -/
def sortI (l : List Int) : List Int := l.foldl (fun a x => insertI x a) []

/-- The replacement of Table RFE-3 at distance k. -/
def replaceAt (cls : Nat) (l r u b : Option Int) : Option Int :=
  match cls with
  | 1 =>
    match l, r, u, b with
    | some l, some r, some u, some b => some (if (l - r).natAbs ≤ (u - b).natAbs then meanOf [l, r] else meanOf [u, b])
    | some l, some r, _, _ => some (meanOf [l, r])
    | _, _, some u, some b => some (meanOf [u, b])
    | _, _, _, _ =>
      let n := [l, r, u, b].filterMap id
      if n.isEmpty then none else some (meanOf n)
  | 2 =>
    let n := [l, r].filterMap id
    if n.isEmpty then none else some (meanOf n)
  | _ =>
    match sortI ([l, r, u, b].filterMap id) with
    | [] => none
    | [a] => some a
    | [a, b] => some (meanOf [a, b])
    | [_, m, _] => some m
    | _ :: m :: n :: _ => some (meanOf [m, n])

/-- The replacement of a site: at distance d, else at 2d (R108, R109). -/
def State.replacement (s : State) (f : RfeFrame) (c : RfeCfg) (g : Win) (cls : Nat) (x y : Int) : Option Int :=
  let tryAt := fun (k : Int) => replaceAt cls (s.usable f c g (x - k) y) (s.usable f c g (x + k) y)
    (s.usable f c g x (y - k)) (s.usable f c g x (y + k))
  match tryAt c.d with
  | some v => some v
  | none => tryAt (2 * c.d)

/-- Stage 5 of a site: its value, whether detection flagged it, and whether it took PEDESTAL (R108 to R110). -/
def State.stage5 (s : State) (f : RfeFrame) (c : RfeCfg) (g : Win) (x y : Nat) : Int × Bool × Bool :=
  let v := (g.at x y).getD 0
  let fl := s.flagged f c g x y
  let cls :=
    match f.listedAt x y with
    | some 3 => none
    | some k => some k
    | none => if fl && (s.get Reg.RFE_DYN_CFG_MODE == 2 || f.inLost c x y) then some 0 else none
  match cls with
  | none => (v, fl, false)
  | some k =>
    match s.replacement f c g k x y with
    | some r => (r, fl, false)
    | none => (c.ped, fl, true)

/-! ### Stages 6 and 7 -/

/-- Pitch of the flat-field grid. -/
def State.ffPitch (s : State) : Nat := 16 * 2 ^ s.get Reg.RFE_FF_CFG_PITCH

/-- A node of the flat-field grid (Table RFE-4); a lost node takes the value of the node row before it, or 1.0
(R125). -/
def State.ffNode (s : State) (f : RfeFrame) (p i j : Nat) : Nat :=
  if f.ffLost.contains (p, i, j) then
    match j with
    | 0 => 16384
    | k + 1 => s.ffNode f p i k
  else
    s.readLe (s.addr40 Reg.RFE_FF_BASE_LO Reg.RFE_FF_BASE_HI +
      ((p * s.get Reg.RFE_FF_CFG_GY + j) * s.get Reg.RFE_FF_CFG_GX + i) * 2) 2

/-- The nodes around a full-array site: plane, i, j, and the site's offsets in the cell. -/
def State.ffCell (s : State) (c : RfeCfg) (x y : Nat) : Nat × Nat × Nat × Nat × Nat :=
  let pitch := s.ffPitch
  let i := min (x / pitch) (s.get Reg.RFE_FF_CFG_GX - 2)
  let j := min (y / pitch) (s.get Reg.RFE_FF_CFG_GY - 2)
  (c.colour x y, i, j, x - i * pitch, y - j * pitch)

/-- The flat-field gain at a full-array site, with 14 fraction bits (R112). -/
def State.ffGain (s : State) (f : RfeFrame) (c : RfeCfg) (x y : Nat) : Int :=
  let (p, i, j, a, b) := s.ffCell c x y
  let n : Int := s.ffPitch
  let g := fun (di dj : Nat) => (s.ffNode f p (i + di) (j + dj) : Int)
  roundUp ((n - a) * (n - b) * g 0 0 + a * (n - b) * g 1 0 + (n - a) * b * g 0 1 + a * b * g 1 1) (s.ffPitch * s.ffPitch)

/-- Stage 6 of a site at image coordinates (R112). -/
def State.stage6 (s : State) (f : RfeFrame) (c : RfeCfg) (x y : Nat) (v : Int) : Int :=
  if bitAt c.cfg 5 then roundUp ((v - c.ped) * s.ffGain f c (x + c.ox) (y + c.oy)) 16384 + c.ped else v

/-- Stage 7 of a site at image coordinates (R113). -/
def State.stage7 (s : State) (f : RfeFrame) (c : RfeCfg) (x y : Nat) (v : Int) : Int :=
  if bitAt c.cfg 6 then
    roundUp ((v - c.ped) * (s.tblEntry f 2 (c.channel (x + c.ox) (y + c.oy)) y : Nat)) 32768 + c.ped
  else v

/-! ### The Defect Map Table -/

/-- What the reading of the table keeps. -/
structure DmtScan where
  prev : Option Nat
  stop : Bool
  order : Bool
  consumed : Nat
  opened : List (Nat × Nat)
  /-- sites by image row: column and class -/
  sites : SMap (List (Nat × Nat))
  skipped : Nat
  /-- a lost burst since the last good entry; raster keys around the losses -/
  gap : Bool
  lost : List (Nat × Nat)
  deriving DecidableEq, Repr

/-- Add a site. -/
def DmtScan.site (m : DmtScan) (y x cls : Nat) : DmtScan :=
  { m with sites := SMap.insert m.sites y (insertBy (·.1) (x, cls) ((SMap.lookup m.sites y).getD [])) }

/-- Close a column run: every image row from y0 to y1 (R105). -/
def DmtScan.run (m : DmtScan) (c : RfeCfg) (x y0 y1 : Nat) : DmtScan :=
  (List.range c.h).foldl (fun m y => if y0 ≤ y + c.oy ∧ y + c.oy ≤ y1 then m.site y (x - c.ox) 2 else m) m

/-- One entry of the table (R103 to R105). `bad` says that its burst was lost (R124). -/
def DmtScan.step (c : RfeCfg) (m : DmtScan) (e : Nat × Bool) : DmtScan :=
  let x := bits e.1 31 17
  let y := bits e.1 16 2
  let key := y * 32768 + x
  if m.stop then m
  else if e.2 then { m with gap := true }
  else if m.prev.any (fun p => decide (key ≤ p)) then { m with stop := true, order := true }
  else
    let m := if m.gap then { m with gap := false, lost := m.lost ++ [((m.prev.map (· + 1)).getD 0, key)] } else m
    let m := { m with prev := some key, consumed := m.consumed + 1 }
    let inX := decide (c.ox ≤ x ∧ x < c.ox + c.w)
    match e.1 % 4 with
    | 2 =>
      if !inX then m
      else if m.opened.any (fun o => o.1 == x) ∨ 64 ≤ m.opened.length then { m with skipped := m.skipped + 1 }
      else { m with opened := m.opened ++ [(x, y)] }
    | 3 =>
      if !inX then m
      else
        match m.opened.find? (fun o => o.1 == x) with
        | some o => ({ m with opened := m.opened.filter (fun o => o.1 != x) }).run c x o.2 y
        | none => { m with skipped := m.skipped + 1 }
    | k => if inX ∧ c.oy ≤ y ∧ y < c.oy + c.h then m.site (y - c.oy) (x - c.ox) k else m

/-- At most 8 entries apply to a beat of 32 sites; further ones are listed but skipped (R106). -/
def beatLimit : List (Nat × Nat) → Nat → Nat → SMap Nat × Nat × Nat
  | [], _, _ => ([], 0, 0)
  | (x, k) :: t, beat, n =>
    let n := if x / 32 = beat then n else 0
    let r := beatLimit t (x / 32) (n + 1)
    if n < 8 then (SMap.insert r.1 x k, r.2.1 + 1, r.2.2) else (SMap.insert r.1 x 3, r.2.1, r.2.2 + 1)

/-- Append a site; a column holds one site, and an entry of the site's own comes before a column run. -/
def addSite (l : List (Nat × Nat)) (e : Nat × Nat) : List (Nat × Nat) :=
  match l.getLast? with
  | some p => if p.1 = e.1 then l.dropLast ++ [(p.1, min p.2 e.2)] else l ++ [e]
  | none => [e]

/-- One site per column. -/
def uniqueSites (l : List (Nat × Nat)) : List (Nat × Nat) := l.foldl addSite []

/-- Read the table for a frame: `lost` names the bursts that failed on retry (R124). -/
def State.readDmt (s : State) (f : RfeFrame) (c : RfeCfg) (lost : List Nat) : RfeFrame × Bool × Nat :=
  if !bitAt c.cfg 4 then (f, false, 0)
  else
    let base := s.addr40 Reg.RFE_DMT_BASE_LO Reg.RFE_DMT_BASE_HI
    let ents := (List.range (s.get Reg.RFE_DMT_COUNT_N)).map (fun i => (s.readLe (base + 4 * i) 4, lost.contains (i / 16)))
    let m := ents.foldl (DmtScan.step c)
      { prev := none, stop := false, order := false, consumed := 0, opened := [], sites := [], skipped := 0, gap := false, lost := [] }
    let m := if m.gap && !m.stop then { m with lost := m.lost ++ [((m.prev.map (· + 1)).getD 0, 2 ^ 40)] } else m
    let m := m.opened.foldl (fun m o => m.run c o.1 o.2 (c.oy + c.h - 1)) m
    let r := m.sites.foldl (fun (a : SMap (SMap Nat) × Nat × Nat) e =>
      let b := beatLimit (uniqueSites e.2) 0 0
      (a.1 ++ [(e.1, b.1)], a.2.1 + b.2.1, a.2.2 + b.2.2)) ([], 0, m.skipped)
    ({ f with
        listed := r.1
        lost := m.lost
        cnt := { f.cnt with applied := r.2.1, skipped := r.2.2, readErr := f.cnt.readErr + lost.length } }, m.order, m.consumed)

/-! ### Frames -/

/-- Change the RFE's state. -/
def State.setRfe (s : State) (f : RfeSt → RfeSt) : State := { s with rfe := f s.rfe }

/-- The raw frame of a source sequence number that the plan buffers still hold. -/
def State.rawOut (s : State) (seq : Nat) : Option RawOut := s.rfe.outs.find? (fun o => o.tag.seq == seq)

/-- Add tiles to a raw frame's poisoned-tile list, wherever the frame stands (R120, R122). -/
def State.poisonRaw (s : State) (seq : Nat) (tiles : List Nat) : State :=
  s.setRfe (fun r => { r with
    frame := r.frame.map (fun f => if f.tag.seq = seq then { f with tag := f.tag.addPoison tiles } else f)
    outs := r.outs.map (fun o => if o.tag.seq = seq then { o with tag := o.tag.addPoison tiles } else o) })

/-- A row of codes as bytes of a raw buffer, 16-bit little-endian (R118). -/
def rowBytes (codes : List Nat) : List Byte := codes.flatMap (fun u => leBytes 2 u)

/-- Write a row of a tap: into the plan buffer, and into the blocks of each unpacked raw path of that tap (R117 to
R119). -/
def State.writeTap (s : State) (f : RfeFrame) (base : Option Nat) (tap y sps : Nat) (codes : List Nat) : State :=
  let stride := rawStride f.fmt.width sps
  let s := match base with
    | some b => s.write (b + y * stride) (rowBytes codes)
    | none => s
  f.tag.accepted.foldl (fun s a =>
    match s.plan.bookings.find? (fun b => b.path == a.1) with
    | some b =>
      if b.kind = 5 ∧ b.idx = tap then
        match (s.reelOf 5 tap).bind (fun r => s.reservation r a.1 a.2) with
        | some v => s.write (s.blockAddr v.block + y * stride) (rowBytes codes)
        | none => s
      else s
    | none => s) s

/-- Image rows in hand once row y completes: the rows around it that stage 5 can reach (R120). -/
def State.window (s : State) (f : RfeFrame) (c : RfeCfg) (p y : Nat) : Win :=
  let ys := (List.range (5 * c.d + 1)).filterMap (fun i =>
    if y + i < 3 * c.d then none
    else if y + i - 3 * c.d < c.h then some (y + i - 3 * c.d) else none)
  { w := c.w, rows := ys.map (fun r => (r, s.stage4Row f c p r)) }

/-- One plane of output row y: codes, clamped samples, flagged sites, and columns that took PEDESTAL. -/
def State.planeRow (s : State) (f : RfeFrame) (c : RfeCfg) (p y : Nat) : List Nat × Nat × Nat × List Nat :=
  let g := s.window f c p y
  (List.range c.w).foldl (fun (a : List Nat × Nat × Nat × List Nat) x =>
    let (v, fl, none5) := s.stage5 f c g x y
    let (o, cl) := outCode (s.stage7 f c x y (s.stage6 f c x y v))
    (a.1 ++ [o], a.2.1 + b2n cl, a.2.2.1 + b2n fl, if none5 then a.2.2.2 ++ [x] else a.2.2.2)) ([], 0, 0, [])

/-- The tile of a pixel of an image of width w (R25). -/
def tileAt (w x y : Nat) : Nat := y / 64 * ceilDiv w 256 + x / 256

/-- Columns of row y whose sites use an entry under a parity error (R123) or a lost flat-field node (R125). -/
def State.markedColumns (s : State) (f : RfeFrame) (c : RfeCfg) (y : Nat) : List Nat :=
  if f.neutral.isEmpty && f.ffLost.isEmpty then []
  else (List.range c.w).filter (fun x =>
    let ch := c.channel (x + c.ox) (y + c.oy)
    (bitAt c.cfg 2 && f.isNeutral 0 ch y) || (bitAt c.cfg 3 && f.isNeutral 1 (x + c.ox) y) || (bitAt c.cfg 6 && f.isNeutral 2 ch y) ||
    (bitAt c.cfg 5 && (let (p, i, j, _, _) := s.ffCell c (x + c.ox) (y + c.oy)
      f.ffLost.any (fun n => n.1 == p && (n.2.1 == i || n.2.1 == i + 1) && (n.2.2 == j || n.2.2 == j + 1)))))

/-- Interleave the planes of a row: u_A before u_B (R117). -/
def interleave : List Nat → List Nat → List Nat
  | a :: s, b :: t => a :: b :: interleave s t
  | _, _ => []

/-- Everything about output row y that depends on the frame's rows: corrected codes, clamped samples, flagged sites,
tiles to poison. -/
def State.rfeRow (s : State) (f : RfeFrame) (c : RfeCfg) (y : Nat) : List Nat × Nat × Nat × List Nat :=
  let a := s.planeRow f c 0 y
  let marked := s.markedColumns f c y
  if c.planes = 1 then (a.1, a.2.1, a.2.2.1, dedup ((a.2.2.2 ++ marked).map (fun x => tileAt c.w x y)))
  else
    let b := s.planeRow f c 1 y
    (interleave a.1 b.1, a.2.1 + b.2.1, a.2.2.1 + b.2.2.1, dedup ((a.2.2.2 ++ b.2.2.2 ++ marked).map (fun x => tileAt c.w x y)))

/-- The frame's last row is written: counters, FRAME_DONE, and the clip index entries of its unpacked raw paths
(R119, Table RFE-6). -/
def State.rfeDone (s : State) (f : RfeFrame) : State :=
  let t := f.tag
  let s := s.puts [(Reg.RFE_CNT_DMT_APPLIED, f.cnt.applied), (Reg.RFE_CNT_DMT_SKIPPED, f.cnt.skipped),
    (Reg.RFE_CNT_DYN_COUNT, f.cnt.dyn), (Reg.RFE_CNT_CLIP, f.cnt.clip), (Reg.RFE_CNT_POISON_TILES, t.poison.length),
    (Reg.RFE_CNT_PARITY, f.cnt.parity), (Reg.RFE_CNT_DMT_READ_ERR, f.cnt.readErr), (Reg.RFE_CNT_CONCEAL, f.cnt.conceal)]
  let s := (s.bump Reg.RFE_FRAME_SEQ).raise .rfe 0
  let s := t.accepted.foldl (fun s a =>
    match s.plan.bookings.find? (fun b => b.path == a.1) with
    | some b =>
      if b.kind = 5 then
        match s.reelOf 5 b.idx with
        | some r => s.indexFrame r a.1 a.2 (b.idx + 1) t.flags (rawStride f.fmt.width (s.tapSps b.idx) * f.fmt.lines) t.stamp
        | none => s
      else s
    | none => s) s
  s.setRfe (fun r => { r with frame := none })

/-- Row y's inputs are in hand (R120). -/
def RfeFrame.ready (f : RfeFrame) (d : Nat) : Bool :=
  decide (f.next < f.fmt.lines) && (List.range (2 * d + 1)).all (fun k =>
    decide (f.fmt.lines ≤ f.next + k) || (SMap.lookup f.rows (f.next + k)).isSome)

/-- The RFE completes and writes its next output row (R120). -/
def State.rowComplete (s : State) : State :=
  match s.rfe.frame with
  | none => s
  | some f =>
    let c := s.rfeCfg f
    if !f.ready c.d then s
    else
      let y := f.next
      let (codes, clip, dyn, tiles) := s.rfeRow f c y
      let o := s.rawOut f.tag.seq
      let s := if bitAt c.cfg 31 then s.writeTap f (o.bind (·.orig)) 1 y (s.tapSps 1) ((SMap.lookup f.rows y).getD []) else s
      let s := if bitAt c.cfg 30 then s.writeTap f (o.bind (·.corr)) 0 y (s.tapSps 0) codes else s
      let f := { f with next := y + 1, cnt := { f.cnt with clip := f.cnt.clip + clip, dyn := f.cnt.dyn + dyn } }
      let s := s.setRfe (fun r => { r with
        frame := some f
        outs := r.outs.map (fun o => if o.tag.seq = f.tag.seq then { o with written := y + 1 } else o) })
      let s := s.poisonRaw f.tag.seq tiles
      match s.rfe.frame with
      | some f => if f.next = f.fmt.lines then s.rfeDone f else s
      | none => s

/-- A row of stage-1 codes reaches the RFE, received or filled (R98). -/
def State.rfeTake (s : State) (seq y : Nat) (codes : List Nat) : State :=
  s.setRfe (fun r => { r with frame := r.frame.map (fun f =>
    if f.tag.seq = seq then { f with rows := SMap.insert f.rows y codes } else f) })

/-! ### Tables -/

/-- Words of each table in the master region, and their place in it: black, gain, column (notes/assumptions/20.md). -/
def masterPlace (t : Nat) : Nat × Nat := if t = 0 then (0, 128) else if t = 2 then (512, 128) else (1024, 24576)

/-- A pending Change Set holds a swap of unit u back while it still has values of that unit to apply (R116, R180). -/
def State.csHolds (s : State) (u : Nat) : Bool :=
  match s.cs with
  | some c => bitAt (s.get Reg.CS_MASK) u && (c.align || c.vals.any (fun a => a.ofs / 0x100000 == u))
  | none => false

/-- Pending swaps take effect: active and inactive exchange, and the copy runs (R114, R136). -/
def State.tableSwap (s : State) : State :=
  let p := s.get Reg.RFE_TBL_STATUS_PENDING &&& (7 ^^^ s.get Reg.RFE_TBL_STATUS_BUSY)
  if p = 0 ∨ s.csHolds 2 then s
  else
    let s := s.puts [(Reg.RFE_TBL_STATUS_ACTIVE, s.get Reg.RFE_TBL_STATUS_ACTIVE ^^^ p),
      (Reg.RFE_TBL_STATUS_BUSY, s.get Reg.RFE_TBL_STATUS_BUSY ||| p)]
    if s.cal.engSwaps &&& p = 0 then s else { s with cal := { s.cal with swapAt := s.mediaNs } }

/-- The RFE is idle (R23). -/
def State.rfeIdle (s : State) : Bool :=
  !s.enabled .rfe || (s.rfe.frame.isNone && (s.linkStill s.rfeLink || s.idle.contains .rfe))

/-- A swap is requested: PENDING, and at once where the RFE is idle (R114). -/
def State.requestSwap (s : State) (mask : Nat) : State :=
  let s := s.put Reg.RFE_TBL_STATUS_PENDING (s.get Reg.RFE_TBL_STATUS_PENDING ||| mask)
  if s.rfeIdle then s.tableSwap else s

/-- Copy the new active copy of a table to the inactive copy and to the master region. -/
def State.copyTable (s : State) (t : Nat) : State :=
  let a := s.tblActive t
  let m := s.tbl t a
  let s := (s.setTbl t (1 - a) m).setRfe (fun r => { r with bad := r.bad.filter (fun b => !(b.1 == t && b.2.1 == 1 - a)) })
  let base := s.addr40 Reg.RFE_TBL_MASTER_LO Reg.RFE_TBL_MASTER_HI
  let (o, n) := masterPlace t
  if s.mss.capacity = 0 then s
  else s.write (base + o) ((List.range n).flatMap (fun i => leBytes 4 (SMap.getD m 0 i)))

/-- Tables the calibration engine owns: black, column, gain bits (R127, R128). -/
def State.calOwned (s : State) : Nat :=
  (if s.get Reg.RFE_CAL_CFG_MODE = 1 then
    s.get Reg.RFE_CAL_CFG_TRK_BLACK + 2 * s.get Reg.RFE_CAL_CFG_TRK_COL + 4 * s.get Reg.RFE_CAL_CFG_TRK_GAIN else 0)
  ||| s.cal.release ||| s.cal.stepOwn

/-- The table and entry of a window offset in the RFE's window. -/
def tblOf (ofs : Nat) : Nat × Nat :=
  if 0x10000 ≤ ofs then (1, (ofs - 0x10000) / 4)
  else if 0x8400 ≤ ofs then (2, (ofs - 0x8400) / 4)
  else (0, (ofs - 0x8000) / 4)

/-- Defined bits of a table's word. -/
def tblMask (t v : Nat) : Nat := if t = 0 then v % 2 ^ 20 else if t = 2 then v % 2 ^ 16 else v % 2 ^ 32

/-- A write through a table window (R114, R115). -/
def State.tableWrite (s : State) (ofs : Nat) (v : Word) : State :=
  let (t, e) := tblOf ofs
  if bitAt (s.get Reg.RFE_TBL_STATUS_PENDING ||| s.get Reg.RFE_TBL_STATUS_BUSY) t then s.refuse .rfe 0x0206 ⟨0x200000 + ofs, 31, 0⟩
  else if bitAt s.calOwned t then s.refuse .rfe 0x0207 ⟨0x200000 + ofs, 31, 0⟩
  else
    let i := 1 - s.tblActive t
    (s.setTbl t i (SMap.setD (s.tbl t i) 0 e (tblMask t v.toNat))).setRfe (fun r => { r with bad := r.bad.filter (fun b => b != (t, i, e)) })

/-- A read through a table window: the copy that UNIT_VIEW selects, the active one or (view 1) the inactive one
(R114, R472). -/
def State.tableRead (s : State) (view : Bool) (ofs : Nat) : Nat :=
  let (t, e) := tblOf ofs
  SMap.getD (s.tbl t (if view then 1 - s.tblActive t else s.tblActive t)) 0 e

/-- A line buffer of the RFE loses row y: the row is filled under R77 from the rows the RFE has, its tiles are poisoned
and the frame is incomplete (R123). -/
def State.refillRow (s : State) (f : RfeFrame) (y : Nat) : State :=
  let per := max 1 f.fmt.fillPeriod
  let n := f.fmt.width * (if f.fmt.dg then 2 else 1)
  let codes := ((List.range (y / per)).findSome? (fun k => SMap.lookup f.rows (y - (k + 1) * per))).getD (List.replicate n 0)
  let s := (s.rfeTake f.tag.seq y codes).poisonRaw f.tag.seq (rowTiles f.fmt.width y)
  s.setRfe (fun r => { r with
    frame := r.frame.map (fun x => { x with tag := { x.tag with incomplete := true } })
    outs := r.outs.map (fun x => if x.tag.seq = f.tag.seq then { x with tag := { x.tag with incomplete := true } } else x) })

/-- A parity error (R123): table 0 black, 1 column, 2 gain, with the entry, the row and whether the reload from the
master region succeeds; table 3 is a line buffer. An entry that was not reloaded stays bad in its copy until a swap. -/
def State.tableParity (s : State) (table entry row : Nat) (reloaded : Bool) : State :=
  match s.rfe.frame with
  | none => s
  | some f =>
    let s := s.setRfe (fun r => { r with frame := r.frame.map (fun f => { f with cnt := { f.cnt with parity := f.cnt.parity + 1 } }) })
    let s := (s.raise .rfe 2).logFree .rfe 0 2 0x02 f.tag.counter
    if table = 3 then (if row < f.fmt.lines then s.refillRow f row else s)
    else
      let c := s.tblActive table
      s.setRfe (fun r => { r with
        frame := r.frame.map (fun f => { f with neutral := f.neutral ++ [(table, entry, row, !reloaded)] })
        bad := if reloaded ∨ r.bad.contains (table, c, entry) then r.bad else r.bad ++ [(table, c, entry)] })

end Sys2Proof.Machine
end

