-- ==== Sys2Proof/Machine/Cal.lean ====
section
/-!
DEFINITION. The calibration engine of the RFE (05_self_calibration.md, R126 to R140).
-/

namespace Sys2Proof.Machine

/-- Change the engine's state. -/
def State.setCal (s : State) (f : CalSt → CalSt) : State := { s with cal := f s.cal }

/-- STATE of RFE_CAL_STATE: 0 IDLE, 1 COLLECT, 2 COMPUTE, 3 SWAP_WAIT, 4 REF_DARK, 5 REF_FLAT, 6 REF_REVIEW. -/
def State.calState (s : State) : Nat := s.get Reg.RFE_CAL_STATE_STATE

/-- A work value in codes. -/
def q16 (v : Int) : Rat := (v : Rat) / 16

/-- Add a value to a sum and its count. -/
def addSum (m : SMap (Rat × Nat)) (k : Nat) (v : Rat) : SMap (Rat × Nat) :=
  let p := SMap.getD m (0, 0) k
  SMap.insert m k (p.1 + v, p.2 + 1)

/-- Mean of a sum, where it has values. -/
def meanAt (m : SMap (Rat × Nat)) (k : Nat) : Option Rat :=
  match SMap.lookup m k with
  | some (v, n) => if n = 0 then none else some (v / n)
  | none => none

/-! ### Frames as the statistics see them -/

/-- A statistics view of a frame: its configuration and, by plane and row, the values at a stage. -/
structure StatView where
  c : RfeCfg
  s2 : Array (Array (Array Int))
  deriving DecidableEq, Repr

/-- Stage-2 values of every plane and row. -/
def State.statView (s : State) (f : RfeFrame) : StatView :=
  let c := s.rfeCfg f
  { c := c, s2 := ((List.range c.planes).map (fun p => ((List.range c.h).map (fun y =>
      (s.stage2 c p ((SMap.lookup f.rows y).getD [])).toArray)).toArray)).toArray }

/-- Image sites that enter statistics: not listed, not in a poisoned tile (R129). -/
def StatView.sites (v : StatView) (f : RfeFrame) (poison : List Nat) : List (Nat × Nat) :=
  (List.range v.c.h).flatMap (fun y => ((List.range v.c.w).filter (fun x =>
    !poison.contains (tileAt v.c.w x y) && (f.listedAt x y).isNone)).map (fun x => (x, y)))

/-- Stage-2 values of a site, one per plane. -/
def StatView.at2 (v : StatView) (x y : Nat) : List Int :=
  (List.range v.c.planes).map (fun p => ((v.s2.getD p #[]).getD y #[]).getD x 0)

/-- Stage-5 values of every plane and row of a frame, after stage 6 with `six`. -/
def State.stageRows (s : State) (f : RfeFrame) (c : RfeCfg) (six : Bool) : Array (Array (Array Int)) :=
  ((List.range c.planes).map (fun p => ((List.range c.h).map (fun y =>
    let g := s.window f c p y
    ((List.range c.w).map (fun x =>
      let v := (s.stage5 f c g x y).1
      if six then s.stage6 f c x y v else v)).toArray)).toArray)).toArray

/-- Poisoned tiles of a frame, with those its unwritten rows will mark (R129). -/
def State.framePoison (s : State) (f : RfeFrame) (c : RfeCfg) : List Nat :=
  dedup (f.tag.poison ++ ((List.range c.h).filter (fun y => decide (f.next ≤ y))).flatMap (fun y => (s.rfeRow f c y).2.2.2))

/-! ### Estimates (R133, R134) -/

/-- The estimates of a table start from its active entries: black, column, gain bits. -/
def State.initEstimates (s : State) (mask : Nat) : State :=
  let act := fun t => s.tbl t (s.tblActive t)
  s.setCal (fun k => { k with
    eBlack := if bitAt mask 0 then (List.range 128).map (fun i => (i, ((SMap.getD (act 0) 0 i : Nat) : Rat) / 16)) else k.eBlack
    eEven := if bitAt mask 1 then (List.range 24576).map (fun i => (i, q16 (toSigned 16 (SMap.getD (act 1) 0 i)))) else k.eEven
    eOdd := if bitAt mask 1 then (List.range 24576).map (fun i => (i, q16 (toSigned 16 (SMap.getD (act 1) 0 i / 65536)))) else k.eOdd
    eGain := if bitAt mask 2 then (List.range 128).map (fun i => (i, ((SMap.getD (act 2) 0 i : Nat) : Rat) / 32768)) else k.eGain })

/-- E + (m − E) ÷ 2^K. -/
def relax (e : SMap Rat) (k i : Nat) (m : Option Rat) : SMap Rat :=
  match m with
  | none => e
  | some m => let o := SMap.getD e 0 i; SMap.insert e i (o + (m - o) / (2 ^ k : Nat))

/-- Means of the OB lines by channel, within OB_CLIP of the black estimate (Table CAL-2). -/
def State.obBlack (s : State) (f : RfeFrame) (c : RfeCfg) : SMap (Rat × Nat) :=
  let clip : Rat := s.get Reg.RFE_CAL_OB_CLIP_CLIP
  f.ob.foldl (fun m r => (List.range c.planes).foldl (fun m p =>
    ((s.stage2 c p r.2).mapIdx (fun x v => (x, v))).foldl (fun m e =>
      let ch := (e.1 + c.ox) / max 1 c.group % c.cols
      let dv := q16 e.2 - SMap.getD s.cal.eBlack 0 ch
      if -clip ≤ dv ∧ dv ≤ clip then addSum m ch (q16 e.2) else m) m) m) []

/-- Means of the OB lines by column, over the lines of a parity. -/
def State.obColumn (s : State) (f : RfeFrame) (c : RfeCfg) (parity : Nat) : SMap (Rat × Nat) :=
  f.ob.foldl (fun m r => if r.1 % 2 = parity then (List.range c.planes).foldl (fun m p =>
    ((s.stage2 c p r.2).mapIdx (fun x v => (x, v))).foldl (fun m e => addSum m (e.1 + c.ox) (q16 e.2)) m) m else m) []

/-- Δ of Table CAL-2: OB columns at or below the split row against those above it. -/
def State.obDelta (s : State) (v : StatView) (sites : List (Nat × Nat)) : Option Rat :=
  let lo := s.get Reg.RFE_CAL_OBCOL_FIRST
  let hi := s.get Reg.RFE_CAL_OBCOL_LAST
  let m := sites.foldl (fun m z =>
    if s.flag Reg.RFE_CAL_OBCOL_EN ∧ lo ≤ z.1 + v.c.ox ∧ z.1 + v.c.ox ≤ hi then
      (v.at2 z.1 z.2).foldl (fun m w => addSum m (b2n (decide (v.c.split ≤ z.2 + v.c.oy))) (q16 w)) m
    else m) []
  match meanAt m 1, meanAt m 0 with
  | some a, some b => some (a - b)
  | _, _ => none

/-- What the seams give (R134): per channel S_o, S_n, pairs, and the partners' estimates weighted by pairs. -/
structure Seam where
  own : Rat
  partner : Rat
  pairs : Nat
  est : Rat
  deriving DecidableEq, Repr

/-- Add a used pair to a channel. -/
def addSeam (m : SMap Seam) (ch : Nat) (own partner est : Rat) : SMap Seam :=
  let o := SMap.getD m { own := 0, partner := 0, pairs := 0, est := 0 } ch
  SMap.insert m ch { own := o.own + own, partner := o.partner + partner, pairs := o.pairs + 1, est := o.est + est }

/-- The used pairs of a frame (R134). -/
def State.seams (s : State) (f : RfeFrame) (c : RfeCfg) (poison : List Nat) : SMap Seam :=
  let rows := s.stageRows f c true
  let lo := 16 * (s.get Reg.RFE_CAL_SEAM_WIN_LO : Int)
  let hi := 16 * (s.get Reg.RFE_CAL_SEAM_WIN_HI : Int)
  let grad := 16 * (s.get Reg.RFE_CAL_SEAM_GRAD : Int)
  let ok := fun (x y : Nat) => !poison.contains (tileAt c.w x y) && (f.listedAt x y).isNone
  (List.range c.planes).foldl (fun m p => (List.range c.h).foldl (fun m y =>
    let row := (rows.getD p #[]).getD y #[]
    (List.range c.w).foldl (fun m x =>
      if x < 2 * c.d ∨ c.w ≤ x + 2 * c.d - 1 ∨ c.channel (x - 1 + c.ox) (y + c.oy) = c.channel (x + c.ox) (y + c.oy) then m
      else
        let xa := x - c.d
        let xb := x + c.d - 1
        let va := row.getD xa 0 - c.ped
        let vb := row.getD xb 0 - c.ped
        let ga := (row.getD xa 0 - row.getD (xa - c.d) 0).natAbs
        let gb := (row.getD xb 0 - row.getD (xb + c.d) 0).natAbs
        let ca := c.channel (xa + c.ox) (y + c.oy)
        let cb := c.channel (xb + c.ox) (y + c.oy)
        if ok xa y && ok xb y && decide (lo ≤ va ∧ va ≤ hi ∧ lo ≤ vb ∧ vb ≤ hi ∧ (ga : Int) ≤ grad ∧ (gb : Int) ≤ grad) then
          addSeam (addSeam m ca (q16 va) (q16 vb) (SMap.getD s.cal.eGain 0 cb)) cb (q16 vb) (q16 va) (SMap.getD s.cal.eGain 0 ca)
        else m) m) m) []

/-- Scale gains so that their mean over the channels in use is 1.0. -/
def normalise (e : SMap Rat) (n : Nat) : SMap Rat :=
  let sum := (List.range n).foldl (fun a i => a + SMap.getD e 0 i) (0 : Rat)
  if sum = 0 then e else e.map (fun x => if x.1 < n then (x.1, x.2 * n / sum) else x)

/-- The update of every tracked estimate at the close of an eligible frame (R133, R134). -/
def State.updateEstimates (s : State) (f : RfeFrame) : State :=
  let c := s.rfeCfg f
  let v := s.statView f
  let poison := s.framePoison f c
  let sites := v.sites f poison
  let ob := s.obBlack f c
  let delta := if c.split = 0 then none else s.obDelta v sites
  let k := s.cal
  let s :=
    if s.flag Reg.RFE_CAL_CFG_TRK_BLACK then
      let kb := s.get Reg.RFE_CAL_CFG_BLACK_K
      let e := (List.range c.cols).foldl (fun e ch => relax e kb ch (meanAt ob ch)) k.eBlack
      let e := if c.split = 0 then e else (List.range c.cols).foldl (fun e ch =>
        relax e kb (ch + c.cols) (delta.map (fun d => SMap.getD k.eBlack 0 ch + d))) e
      s.setCal (fun x => { x with eBlack := e })
    else s
  let s :=
    if s.flag Reg.RFE_CAL_CFG_TRK_COL then
      let kc := s.get Reg.RFE_CAL_CFG_COL_K
      let upd := fun (par : Nat) (e : SMap Rat) =>
        let m := s.obColumn f c par
        (List.range c.w).foldl (fun e x =>
          let col := x + c.ox
          relax e kc col (match meanAt m col, meanAt ob (col / max 1 c.group % c.cols) with
            | some a, some b => some (a - b)
            | _, _ => none)) e
      s.setCal (fun x => { x with eEven := upd 0 k.eEven, eOdd := upd 1 k.eOdd })
    else s
  if s.flag Reg.RFE_CAL_CFG_TRK_GAIN then
    let m := s.seams f c poison
    let e := m.foldl (fun e z =>
      if z.2.pairs < s.get Reg.RFE_CAL_SEAM_MIN_PAIRS ∨ z.2.pairs = 0 ∨ z.2.own = 0 then e
      else relax e (s.get Reg.RFE_CAL_CFG_GAIN_K) z.1 (some (z.2.est / z.2.pairs * z.2.partner / z.2.own))) k.eGain
    s.setCal (fun x => { x with eGain := normalise e c.channels })
  else s

/-! ### Completion and abandonment -/

/-- Ownership that ends with a run: the tables R128 marked (R128). -/
def State.calRelease (s : State) : State := s.setCal (fun k => { k with release := 0 })

/-- A run or an accepted step completes (R135, R140). -/
def State.calDone (s : State) : State :=
  let s := (s.bump Reg.RFE_CAL_COUNT).putTime Reg.RFE_CAL_LAST_S_HI_V Reg.RFE_CAL_LAST_S_LO Reg.RFE_CAL_LAST_NS s.cal.swapAt
  let s := match s.cal.runTemp with
    | some (t, src) => (s.put Reg.RFE_CAL_LAST_TEMP_T t).setCal (fun k => { k with lastSrc := src })
    | none => s
  let s := s.puts [(Reg.RFE_CAL_STATE_STATE, 0), (Reg.RFE_CAL_STATE_RESULT, 0), (Reg.RFE_CAL_STATE_FRAMES, 0)]
  let s := s.setCal (fun k => { k with ranOnce := k.ranOnce || !k.accepting, accepting := false, release := 0, stepOwn := 0, staged := false })
  (s.raise .rfe 6).logOpen .rfe 0 6

/-- The engine's pending swap requests are withdrawn; a copy that already runs goes on. -/
def State.withdrawSwaps (s : State) : State :=
  let wait := s.cal.engSwaps &&& (7 ^^^ s.get Reg.RFE_TBL_STATUS_BUSY)
  (s.put Reg.RFE_TBL_STATUS_PENDING (s.get Reg.RFE_TBL_STATUS_PENDING &&& (7 ^^^ wait))).setCal (fun k => { k with engSwaps := 0 })

/-- A run or a step is in progress. -/
def State.calBusy (s : State) : Bool := s.calState != 0 || s.cal.stepReq != 0

/-- Abandon the run or step in progress (R128, R137). -/
def State.calAbandon (s : State) : State :=
  if s.calBusy then
    let s := s.withdrawSwaps
    let s := (s.count Reg.RFE_CAL_ABANDONED 1).puts [(Reg.RFE_CAL_STATE_STATE, 0), (Reg.RFE_CAL_STATE_RESULT, 1), (Reg.RFE_CAL_STATE_FRAMES, 0)]
    let s := s.setCal (fun k => { k with stepReq := 0, release := 0, stepOwn := 0, staged := false, accepting := false, sums := CalSums.empty })
    (s.raise .rfe 7).logOpen .rfe 0 7
  else s.withdrawSwaps

/-- An accepted Change Set changes geometry (R137); `reindexed` names the tables whose indexing changes. -/
def State.calGeometry (s : State) (reindexed : Nat) : State :=
  let s := s.calAbandon
  if s.get Reg.RFE_CAL_CFG_MODE = 1 then
    (s.initEstimates reindexed).setCal (fun k => { k with forceRun := true })
  else s

/-! ### Mode (R126 to R130) -/

/-- Why a mode write is refused, if it is. -/
def State.calModeRefusal (s : State) (v : Nat) : Option Nat :=
  let l := s.rfeLink
  let split := s.get Reg.RFE_CHMAP_SPLIT_ROW
  let black := bitAt v 24
  let inWin := decide (s.get Reg.RFE_ORIGIN_X ≤ s.get Reg.RFE_CAL_OBCOL_FIRST ∧
    s.get Reg.RFE_CAL_OBCOL_FIRST ≤ s.get Reg.RFE_CAL_OBCOL_LAST ∧
    s.get Reg.RFE_CAL_OBCOL_LAST < s.get Reg.RFE_ORIGIN_X + s.linkW l)
  if bits v 31 30 = 3 ∨ bits v 29 28 = 3 ∨ 8 < bits v 19 16 ∨ 8 < bits v 15 12 ∨ 8 < bits v 11 8 ∨ bits v 7 0 = 0 then some 0x020E
  else if bits v 31 30 = 1 then
    if (black || bitAt v 25) && (decide (s.get (Reg.SLR_LINK_OB_OB l) < 4) || s.flag (Reg.SLR_LINK_CFG_SOURCE l)) then some 0x020C
    else if black && split != 0 && !(s.flag Reg.RFE_CAL_OBCOL_EN && inWin) then some 0x020F
    else none
  else none

/-- TRK bits of an RFE_CAL_CFG value: black, column, gain. -/
def trkBits (v : Nat) : Nat := bits v 24 24 + 2 * bits v 25 25 + 4 * bits v 26 26

/-- A write to RFE_CAL_CFG (R126 to R130). -/
def State.calModeWrite (s : State) (v : Word) : State :=
  let n := v.toNat
  match s.calModeRefusal n with
  | some code => s.refuse .rfe code Reg.RFE_CAL_CFG
  | none =>
    let old := (s.reg Reg.RFE_CAL_CFG.ofs).toNat
    let new := BitVec.ofNat 32 (n &&& 0xF70FFFFF)
    if bits old 31 30 = bits n 31 30 then
      let gone := trkBits old &&& (7 ^^^ trkBits n)
      let more := trkBits n &&& (7 ^^^ trkBits old)
      let s := s.setReg Reg.RFE_CAL_CFG.ofs new
      if bits n 31 30 = 1 then
        let s := s.initEstimates more
        if s.calState = 0 then s else s.setCal (fun k => { k with release := k.release ||| gone })
      else s
    else
      let s := s.calAbandon.setReg Reg.RFE_CAL_CFG.ofs new
      let s := s.setCal (fun k => { k with release := 0, stepOwn := 0, ranOnce := false, reqRun := false, forceRun := false })
      if bits n 31 30 = 1 then s.initEstimates 7 else s

/-! ### The boundary (R131, R132, R138) -/

/-- The temperature source in use (Table CAL-1): 0 sensor, 1 diode; and its reading, if it has one. -/
def State.calTemp (s : State) : Nat × Option Nat :=
  let l := s.rfeLink
  let sensor := if s.flag (Reg.SLR_STAT_TEMP_VALID l) then some (s.get (Reg.SLR_STAT_TEMP_TEMP l)) else none
  let diode := some (s.get (Reg.HTP_ZONE_TEMP 1))
  match s.get Reg.RFE_CAL_CFG_TEMP_SRC with
  | 0 => if sensor.isSome then (0, sensor) else (1, diode)
  | 1 => (0, sensor)
  | _ => (1, diode)

/-- CAL_LAST_TIME in nanoseconds of media time. -/
def State.calLastNs (s : State) : Nat := s.getTime Reg.RFE_CAL_LAST_S_HI_V Reg.RFE_CAL_LAST_S_LO Reg.RFE_CAL_LAST_NS

/-- The cases of R131 that start a run, with the source and the temperature of the sample. -/
def State.calTrigger (s : State) (src : Nat) (temp : Option Nat) : Bool :=
  let maxI := s.get Reg.RFE_CAL_TEMP_DELTA_MAX_INTERVAL
  let moved := match temp with
    | some t => decide (s.get Reg.RFE_CAL_TEMP_DELTA_DELTA < (toSigned 16 t - toSigned 16 (s.get Reg.RFE_CAL_LAST_TEMP_T)).natAbs)
      || src != s.cal.lastSrc
    | none => false
  !s.cal.ranOnce || s.cal.forceRun || moved || s.cal.reqRun ||
    (maxI != 0 && decide (s.calLastNs + maxI * 1000000000 < s.mediaNs))

/-- The engine's part of an RFE frame boundary. -/
def State.calBoundary (s : State) : State :=
  let (src, temp) := s.calTemp
  match s.get Reg.RFE_CAL_CFG_MODE with
  | 1 =>
    let s := match temp with
      | some t => s.puts [(Reg.RFE_CAL_TEMP_NOW_T, t), (Reg.RFE_CAL_STATE_SRC_USED, src)]
      | none => s
    let rise := temp.isNone && !s.flag Reg.RFE_CAL_STATE_TEMP_MISSING
    let s := s.putB Reg.RFE_CAL_STATE_TEMP_MISSING temp.isNone
    let s := if rise then s.raise .rfe 9 else s
    let held := s.cal.forceRun && s.csHolds 2
    let start := s.calState == 0 && !held && s.calTrigger src temp
    let s := s.setCal (fun k => { k with boundaryTemp := temp, reqRun := false, forceRun := k.forceRun && !start })
    if start then s.puts [(Reg.RFE_CAL_STATE_STATE, 1), (Reg.RFE_CAL_STATE_FRAMES, 0)] else s
  | 2 =>
    let s := s.setCal (fun k => { k with boundaryTemp := temp })
    if s.cal.stepReq = 0 then s
    else
      let st := if s.cal.stepReq = 1 then 4 else 5
      (s.puts [(Reg.RFE_CAL_STATE_STATE, st), (Reg.RFE_CAL_STATE_FRAMES, 0)]).setCal (fun k => { k with
        stepReq := 0, sums := CalSums.empty, lastSrc := k.lastSrc })
  | _ => s

/-! ### Frames of a run or a step -/

/-- A dark step takes a frame (Table CAL-3). -/
def State.darkFrame (s : State) (f : RfeFrame) : State :=
  let v := s.statView f
  let c := v.c
  let poison := s.framePoison f c
  let sites := v.sites f poison
  let thr : Rat := s.get Reg.RFE_CAL_REF_DEFECT_THR
  let m0 := sites.foldl (fun m z => (v.at2 z.1 z.2).foldl (fun m w => addSum m (c.channel (z.1 + c.ox) (z.2 + c.oy)) (q16 w)) m) []
  let sums := sites.foldl (fun k z =>
    let ch := c.channel (z.1 + c.ox) (z.2 + c.oy)
    (v.at2 z.1 z.2).foldl (fun k w =>
      if (meanAt m0 ch).any (fun a => decide (a + thr < q16 w)) then k
      else
        let col := z.1 + c.ox
        if (z.2 + c.oy) % 2 = 0 then { k with ch := addSum k.ch ch (q16 w), colEven := addSum k.colEven col (q16 w) }
        else { k with ch := addSum k.ch ch (q16 w), colOdd := addSum k.colOdd col (q16 w) }) k) s.cal.sums
  let cand := sites.flatMap (fun z =>
    if (List.range c.planes).any (fun p =>
      decide (c.ped + 16 * (s.get Reg.RFE_CAL_REF_DEFECT_THR : Int) < (s.stage4Row f c p z.2).getD z.1 0)) then
      [(z.1 + c.ox) * 2 ^ 17 + (z.2 + c.oy) * 4] else [])
  s.setCal (fun k => { k with sums := { sums with cand := cand } })

/-- A flat step takes a frame (Table CAL-3): sums of stage-5 values minus PEDESTAL by channel and colour, and of
gain-corrected ones by grid node. -/
def State.flatFrame (s : State) (f : RfeFrame) : State :=
  let c := s.rfeCfg f
  let poison := s.framePoison f c
  let v := s.statView f
  let rows := s.stageRows f c false
  let pitch := s.ffPitch
  let sums := (v.sites f poison).foldl (fun k z =>
    let x := z.1 + c.ox
    let y := z.2 + c.oy
    let ch := c.channel x y
    let p := c.colour x y
    (List.range c.planes).foldl (fun k q =>
      let w := ((rows.getD q #[]).getD z.2 #[]).getD z.1 0
      let node := p * 2 ^ 32 + ((y + pitch / 2) / pitch) * 2 ^ 16 + (x + pitch / 2) / pitch
      { k with chCol := addSum k.chCol (ch * 4 + p) (q16 (w - c.ped)), node := addSum k.node node (q16 (s.stage7 f c z.1 z.2 w - c.ped)) }) k)
    s.cal.sums
  s.setCal (fun k => { k with sums := sums })

/-- An eligible frame closes (R129, R133, R135, R138). -/
def State.calFrame (s : State) (f : RfeFrame) : State :=
  match s.get Reg.RFE_CAL_CFG_MODE with
  | 1 =>
    let s := s.updateEstimates f
    if s.calState = 1 then
      let s := s.put Reg.RFE_CAL_STATE_FRAMES (s.get Reg.RFE_CAL_STATE_FRAMES + 1)
      if s.get Reg.RFE_CAL_CFG_RUN_FRAMES ≤ s.get Reg.RFE_CAL_STATE_FRAMES then
        let src := s.get Reg.RFE_CAL_STATE_SRC_USED
        (s.put Reg.RFE_CAL_STATE_STATE 2).setCal (fun k => { k with runTemp := k.boundaryTemp.map (fun t => (t, src)) })
      else s
    else s
  | 2 =>
    let need := max 1 (s.get Reg.RFE_CAL_REF_N_FRAMES)
    if (s.calState = 4 ∨ s.calState = 5) ∧ s.get Reg.RFE_CAL_STATE_FRAMES < need then
      let s := if s.calState = 4 then s.darkFrame f else s.flatFrame f
      let src := s.calTemp.1
      (s.put Reg.RFE_CAL_STATE_FRAMES (s.get Reg.RFE_CAL_STATE_FRAMES + 1)).setCal (fun k => { k with
        runTemp := k.boundaryTemp.map (fun t => (t, src)) })
    else s
  | _ => s

/-- The frame closes at the SLR: an accepted frame without the incomplete mark is eligible (R129). -/
def State.calClose (s : State) : State :=
  match s.rfe.frame with
  | none => s
  | some f => if f.tag.accepted.isEmpty || f.tag.incomplete then s else s.calFrame f

/-! ### Tables written by the engine -/

/-- Round an estimate to a field of the given scale, to nearest with ties up, clamped (R135). -/
def fieldOf (v : Rat) (scale lo hi : Int) : Int := clampI lo hi (v * scale + 1 / 2).floor

/-- Estimates of the tables become the inactive copies (R135). -/
def State.stageTables (s : State) (mask : Nat) (eBlack eEven eOdd eGain : SMap Rat) : State :=
  let fill := fun (s : State) (t : Nat) (m : SMap Nat) =>
    let i := 1 - s.tblActive t
    s.setTbl t i (m.foldl (fun acc e => SMap.setD acc 0 e.1 e.2) (s.tbl t i))
  let s := if bitAt mask 0 then fill s 0 (eBlack.map (fun e => (e.1, (fieldOf e.2 16 0 0xFFFFF).toNat))) else s
  let s :=
    if bitAt mask 1 then
      let col := fun (m : SMap Rat) (x : Nat) => ofSigned 16 (fieldOf (SMap.getD m 0 x) 16 (-32768) 32767)
      fill s 1 ((dedup (eEven.map (·.1) ++ eOdd.map (·.1))).map (fun x => (x, col eOdd x * 65536 + col eEven x)))
    else s
  if bitAt mask 2 then fill s 2 (eGain.map (fun e => (e.1, (fieldOf e.2 32768 0 0xFFFF).toNat))) else s

/-- The engine requests its swaps (R135, R140). -/
def State.calSwap (s : State) (mask : Nat) : State :=
  let s := s.setCal (fun k => { k with engSwaps := mask })
  if mask = 0 then (s.setCal (fun k => { k with swapAt := s.mediaNs })).calDone else s.requestSwap mask

/-- Within 200 µs of a run's last frame: estimates to tables, and the swaps (R135). -/
def State.calRunWrite (s : State) : State :=
  if s.calState ≠ 2 then s
  else
    let mask := trkBits (s.reg Reg.RFE_CAL_CFG.ofs).toNat ||| s.cal.release
    let k := s.cal
    let s := s.stageTables mask k.eBlack k.eEven k.eOdd k.eGain
    (s.put Reg.RFE_CAL_STATE_STATE 3).calSwap mask

/-- The copies that run end (R114); with the last of the engine's own, its run or ACCEPT completes (R135, R140). -/
def State.tableCopyDone (s : State) : State :=
  let busy := s.get Reg.RFE_TBL_STATUS_BUSY
  if busy = 0 then s
  else
    let s := (List.range 3).foldl (fun s t => if bitAt busy t then s.copyTable t else s) s
    let s := s.puts [(Reg.RFE_TBL_STATUS_BUSY, 0), (Reg.RFE_TBL_STATUS_PENDING, s.get Reg.RFE_TBL_STATUS_PENDING &&& (7 ^^^ busy))]
    let s := s.raise .rfe 5
    let eng := s.cal.engSwaps
    let s := s.setCal (fun k => { k with engSwaps := k.engSwaps &&& (7 ^^^ busy) })
    if eng != 0 && s.cal.engSwaps == 0 then s.calDone else s

/-! ### Steps (R138 to R140) -/

/-- RUN in RFE_CAL_CTL (R131). -/
def State.calRunReq (s : State) : State :=
  if s.get Reg.RFE_CAL_CFG_MODE ≠ 1 then s.refuse .rfe 0x020D Reg.RFE_CAL_CTL
  else s.setCal (fun k => { k with reqRun := true })

/-- STEP_DARK or STEP_FLAT (R127, R138). -/
def State.calStep (s : State) (flat : Bool) : State :=
  if s.get Reg.RFE_CAL_CFG_MODE ≠ 2 ∨ s.calBusy then s.refuse .rfe 0x020D Reg.RFE_CAL_CTL
  else s.setCal (fun k => { k with stepReq := if flat then 2 else 1, stepOwn := if flat then 4 else 3 })

/-- The dark step's results (Table CAL-3, R139). -/
def State.darkDone (s : State) : State :=
  let k := s.cal.sums
  let blacks := k.ch.filterMap (fun e => (meanAt k.ch e.1).map (fun m => (e.1, m)))
  let cols := fun (m : SMap (Rat × Nat)) => m.filterMap (fun e =>
    match meanAt m e.1, SMap.lookup blacks (e.1 / max 1 (s.get Reg.RFE_CHMAP_GROUP) % (s.get Reg.RFE_CHMAP_COLS_M1 + 1)) with
    | some a, some b => some (e.1, a - b)
    | _, _ => none)
  let s := s.stageTables 3 blacks (cols k.colEven) (cols k.colOdd) []
  let mx := s.get Reg.RFE_CAL_DEFECT_MAX_N
  let more := decide (mx < k.cand.length)
  let out := k.cand.take mx
  let s := if out.isEmpty then s else s.write (s.addr40 Reg.RFE_CAL_OUT_LO Reg.RFE_CAL_OUT_HI) (out.flatMap (leBytes 4))
  s.puts [(Reg.RFE_CAL_DEFECTS_N, out.length), (Reg.RFE_CAL_DEFECTS_OVERFLOW, b2n more), (Reg.RFE_CAL_STATE_RESULT, if more then 3 else 0)]

/-- Means of the flat step over the channels, by colour. -/
def flatMeans (m : SMap (Rat × Nat)) : SMap (Rat × Nat) :=
  m.foldl (fun a e => let p := SMap.getD a (0, 0) (e.1 % 4); SMap.insert a (e.1 % 4) (p.1 + e.2.1, p.2 + e.2.2)) []

/-- The flat-field grid of a flat step, written below the candidates (Table CAL-3). -/
def State.gridOut (s : State) : State :=
  let gx := s.get Reg.RFE_FF_CFG_GX
  let gy := s.get Reg.RFE_FF_CFG_GY
  let planes := if s.get Reg.RFE_CFG_CFA = 0 then 1 else 4
  let k := s.cal.sums
  let key := fun (p i j : Nat) => p * 2 ^ 32 + j * 2 ^ 16 + i
  let nodes := (List.range planes).flatMap (fun p =>
    let cp := meanAt k.node (key p (gx / 2) (gy / 2))
    (List.range gy).flatMap (fun j => (List.range gx).map (fun i =>
      match cp, meanAt k.node (key p i j) with
      | some a, some b => if b = 0 then 65536 else (a / b * 16384 + 1 / 2).floor
      | _, _ => 16384)))
  let s := s.put Reg.RFE_CAL_FF_CLAMP (nodes.filter (fun n => decide (n < 0 ∨ 65535 < n))).length
  s.write (s.addr40 Reg.RFE_CAL_OUT_LO Reg.RFE_CAL_OUT_HI + ceilDiv (s.get Reg.RFE_CAL_DEFECT_MAX_N * 4) 64 * 64)
    (nodes.flatMap (fun n => leBytes 2 (clampI 0 65535 n).toNat))

/-- The flat step's results (Table CAL-3, R139). -/
def State.flatDone (s : State) : State :=
  let k := s.cal.sums
  let ms := flatMeans k.chCol
  let full : Rat := 65535 - (s.get Reg.RFE_PEDESTAL_PEDESTAL : Rat)
  let bad := ms.any (fun e => (meanAt ms e.1).any (fun m => decide (m < full / 16 ∨ full * 3 / 4 < m)))
  if bad then (s.put Reg.RFE_CAL_STATE_RESULT 2).setCal (fun k => { k with staged := false })
  else
    let chans := dedup (k.chCol.map (fun e => e.1 / 4))
    let gains : SMap Rat := chans.filterMap (fun c =>
      let r := (List.range 4).filterMap (fun p =>
        match meanAt ms p, meanAt k.chCol (c * 4 + p) with
        | some a, some b => if b = 0 then none else some (a / b)
        | _, _ => none)
      if r.isEmpty then none else some (c, r.foldl (· + ·) (0 : Rat) / r.length))
    let sum := gains.foldl (fun a e => a + e.2) (0 : Rat)
    let gains := if sum = 0 then gains else gains.map (fun e => (e.1, e.2 * gains.length / sum))
    let s := s.stageTables 4 [] [] [] gains
    let s := if s.flag Reg.RFE_CAL_REF_GRID_OUT then s.gridOut else s
    s.put Reg.RFE_CAL_STATE_RESULT 0

/-- The computing of a step ends (R138, R139). -/
def State.calStepDone (s : State) : State :=
  if s.get Reg.RFE_CAL_STATE_FRAMES < max 1 (s.get Reg.RFE_CAL_REF_N_FRAMES) then s
  else
    match s.calState with
    | 4 => (((s.setCal (fun k => { k with staged := true })).darkDone).put Reg.RFE_CAL_STATE_STATE 6).raise .rfe 8
    | 5 => (((s.setCal (fun k => { k with staged := true })).flatDone).put Reg.RFE_CAL_STATE_STATE 6).raise .rfe 8
    | _ => s

/-- ACCEPT (R140): the swaps of the staged tables. -/
def State.calAccept (s : State) : State :=
  if s.calState ≠ 6 then s.refuse .rfe 0x020D Reg.RFE_CAL_CTL
  else (s.setCal (fun k => { k with accepting := true })).calSwap (if s.cal.staged then s.cal.stepOwn else 0)

/-- DISCARD (R140). -/
def State.calDiscard (s : State) : State :=
  if s.calState ≠ 6 ∨ s.cal.accepting then s.refuse .rfe 0x020D Reg.RFE_CAL_CTL
  else (s.puts [(Reg.RFE_CAL_STATE_STATE, 0), (Reg.RFE_CAL_STATE_FRAMES, 0)]).setCal (fun k => { k with stepOwn := 0, staged := false })

/-- CLR in RFE_CAL_CTL. -/
def State.calClr (s : State) : State :=
  s.puts [(Reg.RFE_CAL_ABANDONED, 0), (Reg.RFE_CAL_DEFECTS, 0), (Reg.RFE_CAL_FF_CLAMP, 0)]

/-- A write to RFE_CAL_CTL: each command bit that is set acts, CLR first, then from bit 0 up. -/
def State.calCtl (s : State) (v : Nat) : State :=
  let s := if bitAt v 5 then s.calClr else s
  let s := if bitAt v 0 then s.calRunReq else s
  let s := if bitAt v 1 then s.calStep false else s
  let s := if bitAt v 2 then s.calStep true else s
  let s := if bitAt v 3 then s.calAccept else s
  if bitAt v 4 then s.calDiscard else s

/-- A write to the other calibration registers: refused out of range (Table CAL-5). -/
def State.calParam (s : State) (ofs : Nat) (v : Nat) : Option Nat :=
  match ofs with
  | 0x0204 => if bits v 15 0 < 8 ∨ 320 < bits v 15 0 then some 0x020E else none
  | 0x0208 =>
    if bitAt v 31 && !decide (s.get Reg.RFE_ORIGIN_X ≤ bits v 14 0 ∧ bits v 14 0 ≤ bits v 30 16 ∧
        bits v 30 16 < s.get Reg.RFE_ORIGIN_X + s.linkW s.rfeLink) then some 0x020F else none
  | 0x0214 => if bits v 31 16 ≤ bits v 15 0 then some 0x020E else none
  | 0x0224 => if bits v 31 24 = 0 then some 0x020E else none
  | 0x0228 => if v % 64 ≠ 0 then some 0x020E else none
  | 0x0230 => if 4194304 < bits v 22 0 then some 0x020E else none
  | _ => none

end Sys2Proof.Machine
end

