-- ==== Sys2Proof/Machine/Fix.lean ====
section
/-!
DEFINITION. Elementary functions in fixed point with 128 fraction bits, for the places where the spec names a cosine, a
power or a logarithm and a rounding far coarser than that.
-/

namespace Sys2Proof.Machine

/-- One, in fixed point. -/
def fixOne : Int := 2 ^ 128

/-- π, in fixed point. -/
def fixPi : Int := 1069028584064966747859680373161870783300

/-- Product of fixed-point numbers. -/
def fixMul (a b : Int) : Int := a * b / fixOne

/-- Terms of the cosine series: x² is fixed, `t` the current term, `k` the next even index. -/
def cosTerms (x2 : Int) : Nat → Nat → Int → Int → Int
  | 0, _, _, acc => acc
  | n + 1, k, t, acc =>
    let t := -(fixMul t x2) / ((k * (k - 1) : Nat) : Int)
    cosTerms x2 n (k + 2) t (acc + t)

/-- cos(π × p ÷ q) in fixed point. -/
def cosPi (p q : Nat) : Int :=
  let r := p % (2 * q)
  let r := if q < r then 2 * q - r else r
  -- cos(π(1 − u)) = −cos(πu)
  if q < 2 * r then
    let x := fixPi * (q - r : Nat) / q
    Int.neg (cosTerms (fixMul x x) 24 2 fixOne fixOne)
  else
    let x := fixPi * r / q
    if 2 * r = q then 0 else cosTerms (fixMul x x) 24 2 fixOne fixOne

end Sys2Proof.Machine
end

