-- ==== Sys2Proof/Machine/Line.lean ====
section
/-!
DEFINITION. Packets, frames and lines of the sensor links, the Pattern Source, and the RFE's and the calibration
engine's commands (03_sensor_links.md R70 to R80, R89, R90; 04_raw_front_end.md R95, R114, R120).
-/

namespace Sys2Proof.Machine

/-! ### Packets (R71, R72, R79) -/

/-- The header of two words: type, stream, DG, OB, PACK, LENGTH, LINE. -/
structure Header where
  typ : Nat
  stream : Nat
  dg : Bool
  ob : Bool
  pack : Nat
  length : Nat
  line : Nat
  deriving DecidableEq, Repr

/-- A header with good HCRC and a defined type (Tables SLR-2 and SLR-3). -/
def headerOf (w0 w1 : Nat) : Option Header :=
  let typ := bits w0 31 28
  if hcrc w0 (bits w1 31 16) = bits w1 15 0 ∧ 1 ≤ typ ∧ typ ≤ 5 then
    some { typ := typ, stream := bits w0 27 24, dg := bitAt w0 23, ob := bitAt w0 22, pack := bits w0 21 20,
           length := bits w0 15 0, line := bits w1 31 16 }
  else none

/-- The idle word. -/
def idleWord : Nat := 0xF0000000

/-- What stands at the front of a word stream: a whole packet and the words after it, a bad header and the words after
its first, or not enough words. -/
inductive Front
  | packet (h : Header) (body rest : List Nat)
  | bad (w0 w1 : Nat) (rest : List Nat)
  | wait
  deriving DecidableEq, Repr

/-- Words after the header of a packet: payload and CRC-32 (R71). -/
def Header.body (h : Header) : Nat := if h.length = 0 then 0 else h.length + 1

/-- Skip idle words and look at the front. -/
def front : List Nat → Front
  | [] => .wait
  | w0 :: t =>
    if w0 = idleWord then front t
    else
      match t with
      | [] => .wait
      | w1 :: rest =>
        match headerOf w0 w1 with
        | some h => if rest.length < h.body then .wait else .packet h (rest.take h.body) (rest.drop h.body)
        | none => .bad w0 w1 t

/-- After a header error: the words from the first IDLE word or good header on (R79). -/
def resyncWords : List Nat → List Nat
  | [] => []
  | [w] => if w = idleWord then [] else [w]
  | w0 :: w1 :: t =>
    if w0 = idleWord ∨ (headerOf w0 w1).isSome then w0 :: w1 :: t else resyncWords (w1 :: t)

/-- Payload bytes of words, bits 31:24 first. -/
def wordBytes (w : List Nat) : List Byte := w.flatMap (fun x => beBytes 4 x)

/-- The CRC-32 word of a packet body is good (R72). -/
def bodyOk (h : Header) (body : List Nat) : Bool :=
  h.length == 0 || crc32 (wordBytes (body.take h.length)) == body.getD h.length 0

/-- Samples of an LS payload (R74). -/
def unpackSamples (b : Nat) (payload : List Nat) : List Nat :=
  (chunks b (payload.flatMap (msbBits 32))).map ofMsbBits

/-! ### Frames of a link -/

/-- The format of a link, latched at FS (R21). -/
def State.linkFmt (s : State) (l : Nat) : LinkFmt :=
  { width := s.linkW l, lines := s.linkH l, ob := s.get (Reg.SLR_LINK_OB_OB l), trd := s.get (Reg.SLR_LINK_TRD l),
    pack := s.get (Reg.SLR_LINK_CFG_PACK l), dg := s.flag (Reg.SLR_LINK_CFG_DG l),
    fillPeriod := s.get (Reg.SLR_LINK_CFG_FILL_PERIOD l), stream := s.get (Reg.SLR_LINK_CFG_IMAGE_STREAM l) }

/-- Deadline of image line i of a frame, in ns of media time, rounded down (R76). -/
def SlrFrame.deadline (f : SlrFrame) (i : Nat) : Nat :=
  f.tag.stamp + (f.fmt.ob + i + 1) * f.fmt.trd / max 1 (f.fmt.ob + f.fmt.lines)

/-- A frame as it enters the RFE. -/
def RfeFrame.start (tag : FrameTag) (fmt : LinkFmt) : RfeFrame :=
  { tag := tag, fmt := fmt, rows := [], ob := [], next := 0, closed := false, listed := [], lost := [], ffLost := [],
    neutral := [], cnt := { applied := 0, skipped := 0, dyn := 0, clip := 0, parity := 0, readErr := 0, conceal := 0 }, dmtLost := [] }

/-- The rows that the RFE still holds of a frame are written, within 1.5 µs of its close (R120). -/
def State.rfeFlush (s : State) : State :=
  match s.rfe.frame with
  | some f => (List.range (f.fmt.lines - f.next)).foldl (fun s _ => s.rowComplete) s
  | none => s

/-- Consumers of a raw frame's buffer of a tap: the scene section once, and each packed raw engine of the tap (R349). -/
def State.rawRetain (s : State) (tag : FrameTag) (tap : Nat) : Nat :=
  let acc := s.plan.bookings.filter (fun b => (tag.on b.path).isSome)
  b2n (tap == 0 && acc.any (fun b => b.units.contains 3)) +
    (acc.filter (fun b => b.kind == 4 && s.get (Reg.RPK_ENG_CFG_SRC b.idx) == tap)).length

/-- The RFE begins a frame: a buffer slot, the Defect Map Table, and the frame for its consumers (R103, R117, R118,
R346). -/
def State.rfeBegin (s : State) (tag : FrameTag) (fmt : LinkFmt) : State :=
  if tag.accepted.isEmpty ∨ !s.on .rfe then s
  else
    let n := max (s.bufCount .corrRaw 0) (s.bufCount .origRaw 0)
    let slot := if n = 0 then 0 else (s.rfe.slot + 1) % n
    let f := RfeFrame.start tag fmt
    let f := { f with neutral := (s.rfe.bad.filter (fun b => b.2.1 == s.tblActive b.1)).map (fun b => (b.1, b.2.2, 0, true)) }
    let c := s.rfeCfg f
    let (f, order, consumed) := s.readDmt f c []
    let s := s.puts [(Reg.RFE_DMT_STATUS_ORDER, b2n order), (Reg.RFE_DMT_STATUS_CONSUMED, consumed)]
    let s := if order then s.raise .rfe 1 else s
    let corr := s.buf BufKind.corrRaw 0 slot
    let orig := s.buf .origRaw 0 slot
    let s := match corr with
      | some b => s.startBuffer b tag.counter (s.rawRetain tag 0)
      | none => s
    let s := match orig with
      | some b => s.startBuffer b tag.counter (s.rawRetain tag 1)
      | none => s
    let o : RawOut := {
      tag := tag, slot := slot, w := fmt.width, h := fmt.lines, d := c.d, spsCorr := s.tapSps 0,
      spsOrig := s.tapSps 1, bits := packBits fmt.pack, pedestal := s.get Reg.RFE_PEDESTAL_PEDESTAL, cfg := c.cfg,
      origin := (s.reg Reg.RFE_ORIGIN.ofs).toNat,
      corr := if bitAt c.cfg 30 then corr.map (·.base) else none, orig := if bitAt c.cfg 31 then orig.map (·.base) else none, written := 0 }
    s.setRfe (fun r => { r with frame := some f, slot := slot, outs := (o :: r.outs).take (max n 1) })

/-- The RFE passes its frame boundary (R21, R114, R131): swaps, then the calibration trigger. -/
def State.rfeBoundary (s : State) : State := if s.on .rfe then s.tableSwap.calBoundary else s

/-- A frame begins on a link: SOF stamp, boundary, acceptance, and the RFE (R18, R20, R21, R89, R91). -/
def State.beginFrame (s : State) (l : Nat) (stamp : Nat) (pattern : Bool) : State :=
  let s := (s.bump (Reg.SLR_SOF_SEQ l)).putTime (Reg.SLR_SOF_S_HI_V l) (Reg.SLR_SOF_S_LO l) (Reg.SLR_SOF_NS l) stamp
  let bound := s.rfeLink == l && s.enabled .rfe
  let bnds := if bound then [Bnd.link l, .rfe] else [Bnd.link l]
  let s := if bound then s.rfeFlush else s
  let (tag, s) := s.sourceBoundary l (s.get (Reg.SLR_SOF_SEQ l)) stamp bnds []
  let stopping := s.linkState l == 4
  let s := if stopping then s.put (Reg.SLR_LINK_STATUS_RUNOUT l) (s.get (Reg.SLR_LINK_STATUS_RUNOUT l) + 1) else s
  let fmt := s.linkFmt l
  let s := if bound then s.rfeBoundary.rfeBegin tag fmt else s
  let s := s.setLink l (fun x => { x with
    discard := false
    frame := some { tag := tag, fmt := fmt, pattern := pattern, good := [], next := 0, obLines := [], lastLine := none, filled := [], runOut := stopping } })
  s.gpioStart 2 l

/-- The frame of a link closes (R76, R77, R92, R129). -/
def State.closeFrame (s : State) (l : Nat) : State :=
  match (s.link l).frame with
  | none => s
  | some f =>
    let inc := f.tag.incomplete
    let s := s.putB (Reg.SLR_LINK_STATUS_LAST_INCOMPLETE l) inc
    let s := if inc then ((s.count (Reg.SLR_CNT_FRAME_INCOMPLETE l) 1).raise .slr (2 + l)).logFree .slr l (2 + l) 0x04 f.tag.counter else s
    let mine := (s.rfe.frame.map (fun r => r.tag.src == l && r.tag.seq == f.tag.seq)).getD false
    let s := if mine then (s.setRfe (fun r => { r with frame := r.frame.map (fun x => { x with closed := true }) })).calClose else s
    let s := s.setLink l (fun x => { x with frame := none, runoutClosed := x.runoutClosed + b2n f.runOut })
    s.checkStopped l

/-- Stage-1 codes of samples (R98). -/
def codesOf (pack : Nat) (samples : List Nat) : List Nat := samples.map (fun v => v * 2 ^ (16 - packBits pack))

/-- A line is filled: the last good line of the same phase, or zeros (R77). -/
def State.fillLine (s : State) (l i : Nat) : State :=
  match (s.link l).frame with
  | none => s
  | some f =>
    let per := max 1 f.fmt.fillPeriod
    let n := f.fmt.width * (if f.fmt.dg then 2 else 1)
    let prev := (List.range (i / per)).findSome? (fun k => SMap.lookup f.good (i - (k + 1) * per))
    let samples := prev.getD (List.replicate n 0)
    let tiles := rowTiles f.fmt.width i
    let s := s.count (Reg.SLR_CNT_LINE_FILL l) 1
    let s := s.setLink l (fun x => { x with frame := x.frame.map (fun f => { f with
      filled := f.filled ++ [i], tag := { f.tag.addPoison tiles with incomplete := true } }) })
    if s.rfeLink = l then
      let s := (s.rfeTake f.tag.seq i (codesOf f.fmt.pack samples)).poisonRaw f.tag.seq tiles
      s.setRfe (fun r => { r with
        frame := r.frame.map (fun x => if x.tag.seq = f.tag.seq then { x with tag := { x.tag with incomplete := true } } else x)
        outs := r.outs.map (fun x => if x.tag.seq = f.tag.seq then { x with tag := { x.tag with incomplete := true } } else x) })
    else s

/-- A good image line is taken. -/
def State.takeLine (s : State) (l i : Nat) (samples : List Nat) : State :=
  match (s.link l).frame with
  | none => s
  | some f =>
    let s := s.setLink l (fun x => { x with frame := x.frame.map (fun f => { f with good := SMap.insert f.good i samples }) })
    if s.rfeLink = l then s.rfeTake f.tag.seq i (codesOf f.fmt.pack samples) else s

/-- An FS packet that passes HCRC (R80, R89, R91). -/
def State.fsGood (s : State) (l : Nat) : State :=
  let st := s.linkState l
  let room := st == 3 || (st == 4 && decide (s.get (Reg.SLR_LINK_STATUS_RUNOUT l) < 2))
  if (s.link l).frame.isSome || !room then s.count (Reg.SLR_CNT_FS_DISCARD l) 1
  else s.beginFrame l s.mediaNs false

/-- A header error (R79, R80): an FS that fails HCRC is lost. -/
def State.headerBad (s : State) (l w0 : Nat) : State :=
  let s := s.count (Reg.SLR_CNT_HCRC l) 1
  if bits w0 31 28 = 1 then
    let s := ((s.count (Reg.SLR_CNT_FS_LOST l) 1).raise .slr 4).logFree .slr l 4 0x04 (((s.link l).frame.map (fun f => f.tag.counter)).getD 0)
    if (s.link l).frame.isNone then s.setLink l (fun x => { x with discard := true }) else s
  else s

/-- An LS packet with a good header (R73, R74, R76, Table SLR-5). -/
def State.lsGood (s : State) (l : Nat) (h : Header) (body : List Nat) : State :=
  match (s.link l).frame with
  | none => s
  | some f =>
    if (s.link l).discard then s
    else if h.stream ≠ f.fmt.stream then s.setLink l (fun x => { x with otherStream := x.otherStream + 1 })
    else
      let key := if h.ob then h.line else f.fmt.ob + h.line
      if f.lastLine.any (fun p => decide (key ≤ p)) then s.count (Reg.SLR_CNT_LINE_LATE l) 1
      else
        let s := s.setLink l (fun x => { x with frame := x.frame.map (fun f => { f with lastLine := some key }) })
        let sps := if f.fmt.dg then 2 else 1
        let want := f.fmt.width * sps * packBits f.fmt.pack / 32
        let inside := if h.ob then decide (h.line < f.fmt.ob) else decide (h.line < f.fmt.lines)
        if h.length ≠ want ∨ h.dg ≠ f.fmt.dg ∨ h.pack ≠ f.fmt.pack ∨ !inside ∨ !bodyOk h body then s.count (Reg.SLR_CNT_PCRC l) 1
        else
          let samples := unpackSamples (packBits f.fmt.pack) (body.take h.length)
          if h.ob then
            let s := s.setLink l (fun x => { x with frame := x.frame.map (fun f => { f with obLines := SMap.insert f.obLines h.line samples }) })
            if s.rfeLink = l then
              s.setRfe (fun r => { r with frame := r.frame.map (fun x =>
                if x.tag.seq = f.tag.seq then { x with ob := SMap.insert x.ob h.line (codesOf f.fmt.pack samples) } else x) })
            else s
          else if h.line < f.next ∨ f.deadline h.line < s.mediaNs then s.count (Reg.SLR_CNT_LINE_LATE l) 1
          else s.takeLine l h.line samples

/-- An EMB packet: its payload to META_QUEUE, behind eight bytes of frame counter; dropped where CRC-32 fails (R73). -/
def State.embGood (s : State) (l : Nat) (h : Header) (body : List Nat) : State :=
  match (s.link l).frame with
  | none => s
  | some f =>
    if !bodyOk h body then s
    else s.unitPost (s.get (Reg.SLR_LINK_CFG_META_QUEUE l)) (leBytes 8 f.tag.counter ++ wordBytes (body.take h.length))

/-- A STAT packet (Table SLR-3). -/
def State.statGood (s : State) (l : Nat) (h : Header) (body : List Nat) : State :=
  if !bodyOk h body ∨ h.length = 0 then s
  else
    let w := body.headD 0
    let s := s.setLink l (fun x => { x with sensorFlags := bits w 15 0 })
    if bits w 31 16 = 0x8000 then s
    else (s.puts [(Reg.SLR_STAT_TEMP_TEMP l, bits w 31 16), (Reg.SLR_STAT_TEMP_VALID l, 1)]).setLink l (fun x => { x with statAt := s.mediaNs })

/-- A packet arrives: the words given, or the next packet of the link's own word stream. `typ` is the type of the
event; a packet of another type stays where it is. A header error resynchronises the stream (R79). -/
def State.packet (s : State) (l typ : Nat) (pkt : List Nat) : State :=
  if !s.live .slr ∨ s.linkState l = 0 then s
  else
    let own := pkt.isEmpty
    let words := if own then (s.link l).rx else pkt
    let keep := fun (s : State) (rest : List Nat) => if own then s.setLink l (fun x => { x with rx := rest }) else s
    match front words with
    | .wait => s
    | .bad w0 _ rest => (keep s (resyncWords rest)).headerBad l w0
    | .packet h body rest =>
      if h.typ ≠ typ then s
      else
        let s := keep s rest
        match typ with
        | 1 => s.fsGood l
        | 3 => s.lsGood l h body
        | 4 => s.embGood l h body
        | 5 => s.statGood l h body
        | _ => s

/-- HEADER_ERROR: only a bad header at the front acts (R79). -/
def State.headerError (s : State) (l : Nat) (pkt : List Nat) : State :=
  let words := if pkt.isEmpty then (s.link l).rx else pkt
  match front words with
  | .bad _ _ _ => s.packet l 0 pkt
  | _ => s

/-! ### Pattern Source (R90) -/

/-- Bits of the R62 generator from a seed. -/
def prbsBitsFrom (seed : Nat) : Nat → List Bool
  | 0 => []
  | n + 1 =>
    let (k, v) := scrStep seed
    k :: prbsBitsFrom v n

/-- Value of pixel (x, y) of a pattern other than PRBS and Still (Table SLR-9). -/
def State.patternValue (s : State) (fmt : LinkFmt) (x y : Nat) : Nat :=
  let b := packBits fmt.pack
  let p := s.get Reg.SLR_PAT_CFG_PARAM
  match s.get Reg.SLR_PAT_CFG_KIND with
  | 0 => x * p % 2 ^ b
  | 1 => y * p % 2 ^ b
  | 2 => s.get (Reg.SLR_PAT_BAR_LEVEL (8 * x / max 1 fmt.width)) % 2 ^ b
  | _ =>
    let dx := ((2 * x : Int) - fmt.width).natAbs
    let dy := ((2 * y : Int) - fmt.lines).natAbs
    let cosv := cosPi (p * (dx * dx + dy * dy)) (max 1 (4 * fmt.width * fmt.width))
    (roundUp ((2 ^ b - 1 : Int) * (fixOne + cosv)) (2 * 2 ^ 128)).toNat

/-- Samples of a pattern line. -/
def State.patternLine (s : State) (f : SlrFrame) (y : Nat) : List Nat :=
  let b := packBits f.fmt.pack
  let sps := if f.fmt.dg then 2 else 1
  let n := f.fmt.width * sps
  match s.get Reg.SLR_PAT_CFG_KIND with
  | 4 =>
    let seed := 0x40000000 ||| f.tag.counter % 2 ^ 30
    (chunks b ((prbsBitsFrom seed ((y + 1) * n * b)).drop (y * n * b))).map ofMsbBits
  | 5 =>
    let words := n * b / 32
    let base := s.addr40 Reg.SLR_PAT_ADDR_LO Reg.SLR_PAT_ADDR_HI + y * words * 4
    unpackSamples b ((List.range words).map (fun i => s.readLe (base + 4 * i) 4))
  | _ => (List.range f.fmt.width).flatMap (fun x => List.replicate sps (s.patternValue f.fmt x y))

/-- PATTERN_FS: at a grid instant of a running link that takes its frames from the Pattern Source (R90). -/
def State.patternFs (s : State) (l : Nat) : State :=
  if !s.on .slr ∨ !s.flag (Reg.SLR_LINK_CFG_SOURCE l) ∨ s.linkState l ≠ 3 ∨ (s.link l).frame.isSome ∨ !s.established then s
  else
    match s.userInstant l s.mediaNs with
    | some g => s.beginFrame l g true
    | none => s

/-- The next image line of a frame is settled at its deadline: taken as received, made by the Pattern Source, or
filled; the last closes the frame (R76 to R78, R90). -/
def State.settleLine (s : State) (l : Nat) : State :=
  match (s.link l).frame with
  | none => s
  | some f =>
    let i := f.next
    let s :=
      if f.pattern then s.takeLine l i (s.patternLine f i)
      else if (SMap.lookup f.good i).isSome then s
      else s.fillLine l i
    let s := s.setLink l (fun x => { x with frame := x.frame.map (fun f => { f with next := i + 1 }) })
    if f.fmt.lines ≤ i + 1 then s.closeFrame l else s

/-- LINE_DEADLINE: the deadline of the frame's next line has come. -/
def State.lineDeadline (s : State) (l : Nat) : State :=
  match (s.link l).frame with
  | none => s
  | some f => if s.live .slr ∧ f.deadline f.next ≤ s.mediaNs then s.settleLine l else s

/-- PATTERN_FRAME_CLOSE: at G_k + T_rd every line of the pattern frame is out, and the frame closes (R90). -/
def State.patternClose (s : State) (l : Nat) : State :=
  match (s.link l).frame with
  | none => s
  | some f =>
    if f.pattern ∧ f.tag.stamp + f.fmt.trd ≤ s.mediaNs then
      (List.range (f.fmt.lines - f.next)).foldl (fun s _ => s.settleLine l) s
    else s

/-! ### Meanings -/


/-- One second after the last STAT temperature (Table SLR-11, R132). -/
def execStatTempExpire (t : Nat) (link : Fin 2) (s : State) : Res :=
  let s := s.tick t
  if (s.link link).statAt + 1000000000 ≤ s.mediaNs then .next (s.put (Reg.SLR_STAT_TEMP_VALID link) 0) else .next s

def execPatternFs (t : Nat) (link : Fin 2) (s : State) : Res := .next ((s.tick t).patternFs link)
def execRfeRowComplete (t : Nat) (s : State) : Res :=
  let s := s.tick t
  .next (if s.live .rfe then s.rowComplete else s)
def execRfeTableWrite (t : Nat) (ofs : Nat) (v : Word) (s : State) : Res := .next ((s.tick t).ctl .rfe true ⟨0x200000 + ofs, 31, 0⟩ (fun s => s.tableWrite ofs v))
def execSwapBlack (t : Nat) (s : State) : Res := .next ((s.tick t).cmd .rfe true Reg.RFE_TBL_CTL 1 (fun s => s.requestSwap 1))
def execSwapCol (t : Nat) (s : State) : Res := .next ((s.tick t).cmd .rfe true Reg.RFE_TBL_CTL 2 (fun s => s.requestSwap 2))
def execSwapGain (t : Nat) (s : State) : Res := .next ((s.tick t).cmd .rfe true Reg.RFE_TBL_CTL 4 (fun s => s.requestSwap 4))
def execTableCopyDone (t : Nat) (s : State) : Res := .next (s.tick t).tableCopyDone
def execRfeTableParity (t : Nat) (table entry row : Nat) (reloaded : Bool) (s : State) : Res :=
  .next ((s.tick t).tableParity table entry row reloaded)
def execCalModeWrite (t : Nat) (v : Word) (s : State) : Res := .next ((s.tick t).ctl .rfe true Reg.RFE_CAL_CFG (fun s => s.calModeWrite v))
def execCalRunWrite (t : Nat) (s : State) : Res := .next (s.tick t).calRunWrite
def execCalRun (t : Nat) (s : State) : Res := .next ((s.tick t).cmd .rfe true Reg.RFE_CAL_CTL 1 (fun s => s.calRunReq))
def execStepDark (t : Nat) (s : State) : Res := .next ((s.tick t).cmd .rfe true Reg.RFE_CAL_CTL 2 (fun s => s.calStep false))
def execStepFlat (t : Nat) (s : State) : Res := .next ((s.tick t).cmd .rfe true Reg.RFE_CAL_CTL 4 (fun s => s.calStep true))
def execCalStepComputeDone (t : Nat) (s : State) : Res := .next (s.tick t).calStepDone
def execAccept (t : Nat) (s : State) : Res := .next ((s.tick t).cmd .rfe true Reg.RFE_CAL_CTL 8 (fun s => s.calAccept))
def execDiscard (t : Nat) (s : State) : Res := .next ((s.tick t).cmd .rfe true Reg.RFE_CAL_CTL 16 (fun s => s.calDiscard))
def execCalClr (t : Nat) (s : State) : Res := .next ((s.tick t).cmd .rfe true Reg.RFE_CAL_CTL 32 (fun s => s.calClr))

end Sys2Proof.Machine
end

