-- ==== Sys2Proof/Machine/Conceal.lean ====
section
/-!
DEFINITION. Concealment of raw tiles (04_raw_front_end.md R121, R122).
-/

namespace Sys2Proof.Machine

/-- Base, samples per site and row stride of a tap of a raw frame: 0 Corrected, 1 Original. -/
def RawOut.tap (o : RawOut) (tap : Nat) : Option (Nat × Nat × Nat) :=
  let sps := if tap = 0 then o.spsCorr else o.spsOrig
  (if tap = 0 then o.corr else o.orig).map (fun b => (b, sps, rawStride o.w sps))

/-- A sample of a raw buffer. -/
def State.rawSample (s : State) (base stride i y : Nat) : Nat := s.readLe (base + y * stride + 2 * i) 2

/-- The row a concealed row is taken from, above (`up`) or below: the nearest same-phase row beyond the bad tiles of
the tile column; none outside the image (R121). -/
def concealRow (d h across : Nat) (bad : List Nat) (tile r : Nat) (up : Bool) : Nat → Option Nat
  | 0 => none
  | fuel + 1 =>
    let ty := tile / across
    if up then
      if ty = 0 then none
      else if bad.contains (tile - across) then concealRow d h across bad (tile - across) r up fuel
      else some (64 * ty - d + r)
    else
      let b := 64 * (ty + 1) + r
      if h ≤ b then none
      else if bad.contains (tile + across) then concealRow d h across bad (tile + across) r up fuel
      else some b

/-- The concealed value of a sample (R121). -/
def State.concealValue (s : State) (base stride i y ped : Nat) (a b : Option Nat) : Nat :=
  match a, b with
  | some a, some b =>
    let va : Int := s.rawSample base stride i a
    let vb : Int := s.rawSample base stride i b
    let n : Int := (b : Int) - a
    (roundUp (va * n + (vb - va) * ((y : Int) - a)) (b - a)).toNat
  | some a, none => s.rawSample base stride i a
  | none, some b => s.rawSample base stride i b
  | none, none => ped

/-- Write the concealed samples of a tile back into its raw buffer (R121, R122); `bad` names every bad tile. -/
def State.concealWrite (s : State) (o : RawOut) (tap tile : Nat) (bad : List Nat) : State :=
  match o.tap tap with
  | none => s
  | some (base, sps, stride) =>
    let across := ceilDiv o.w 256
    let (tw, th) := tileSize o.w o.h tile
    let x0 := tile % across * 256
    let t := tile / across * 64
    let rows := (List.range th).map (fun k =>
      let y := t + k
      let a := concealRow o.d o.h across bad tile (k % o.d) true (tile / across + 1)
      let b := concealRow o.d o.h across bad tile (k % o.d) false (o.h / 64 + 1)
      (y, (List.range (tw * sps)).flatMap (fun j => leBytes 2 (s.concealValue base stride (x0 * sps + j) y o.pedestal a b))))
    rows.foldl (fun s r => s.write (base + r.1 * stride + 2 * x0 * sps) r.2) s

/-- A unit conceals a bad tile of a raw frame: write-back, poisoned-tile list once, and the reports of the RFE and of
the unit that conceals (R122, Tables RFE-7 and FLT-5). -/
def State.concealTile (s : State) (seq tap tile : Nat) (bad : List Nat) (u : UnitId) (bit : Option Nat) : State :=
  match s.rawOut seq with
  | none => s
  | some o =>
    let s := s.concealWrite o tap tile bad
    let s := s.poisonRaw seq [tile]
    let s := if (s.rfe.frame.map (fun f => f.tag.seq == seq)).getD false then
        s.setRfe (fun r => { r with frame := r.frame.map (fun f => { f with cnt := { f.cnt with conceal := f.cnt.conceal + 1 } }) })
      else s.count Reg.RFE_CNT_CONCEAL 1
    let s := s.raise .rfe 4
    match bit with
    | some b => (s.raise u b).logFree u 0 b 0x03 o.tag.counter
    | none => s.logFree .rfe 0 4 0x03 o.tag.counter

end Sys2Proof.Machine
end

