-- ==== Sys2Proof/Machine/Float.lean ====
section
/-!
DEFINITION. LF24 and binary32 arithmetic, exactly rounded (06_colour_pipeline.md R141 to R143, R158). A finite value is
m × 2^e with integers m and e. The sign of zero is not kept: every consumer of LF24 treats −0 as 0 (R142).
-/

namespace Sys2Proof.Machine

/-- A binary32 value. -/
inductive Fl
  | fin (m : Int) (e : Int)
  | inf (neg : Bool)
  | nan
  deriving DecidableEq, Repr

/-- Zero. -/
def Fl.zero : Fl := .fin 0 0

/-- Bits of a magnitude. -/
def bitLen (n : Nat) : Nat := if n = 0 then 0 else Nat.log2 n + 1

/-- m × 2^k for a k of either sign, where the result is an integer. -/
def shiftN (m : Nat) (k : Int) : Nat := if 0 ≤ k then m * 2 ^ k.toNat else m / 2 ^ (-k).toNat

/-- Round a magnitude m × 2^e to a multiple of 2^q, ties to even: the multiple. -/
def rneAt (m : Nat) (e q : Int) : Nat :=
  if q ≤ e then m * 2 ^ (e - q).toNat
  else
    let d := 2 ^ (q - e).toNat
    let n := m / d
    let r := m % d
    if 2 * r < d then n else if 2 * r = d then n + n % 2 else n + 1

/-- The quantum of a format with p significant bits whose smallest quantum is 2^qmin, at magnitude m × 2^e. -/
def quantum (p : Nat) (qmin : Int) (m : Nat) (e : Int) : Int := max (e + bitLen m - p) qmin

/-- Round to binary32, ties to even; a result of 2^128 or more is an infinity. -/
def Fl.round (m : Int) (e : Int) : Fl :=
  if m = 0 then .zero
  else
    let q := quantum 24 (-149) m.natAbs e
    let n := rneAt m.natAbs e q
    if 128 < (bitLen n : Int) + q then .inf (decide (m < 0))
    else .fin (if m < 0 then -(n : Int) else n) q

/-- Value of an integer. -/
def Fl.ofInt (n : Int) : Fl := .round n 0

/-- The binary32 value nearest to a fraction, ties to even. -/
def Fl.ofFrac (num : Int) (den : Nat) : Fl :=
  if num = 0 ∨ den = 0 then .zero
  else
    let k := 64 + bitLen den
    let n := num.natAbs * 2 ^ k
    let q := 2 * (n / den) + (if n % den = 0 then 0 else 1)
    .round (if num < 0 then -(q : Int) else q) (-(k : Int) - 1)

/-- The binary32 value nearest to a decimal: num ÷ 10^places. -/
def Fl.dec (num : Int) (places : Nat) : Fl := .ofFrac num (10 ^ places)

/-- The binary32 value nearest to a fixed-point number with 128 fraction bits times 2^k. -/
def Fl.ofFix (v : Int) (k : Int) : Fl := .round v (k - 128)

/-- Negation. -/
def Fl.neg : Fl → Fl
  | .fin m e => .fin (-m) e
  | .inf n => .inf (!n)
  | .nan => .nan

/-- Addition. -/
def Fl.add (a b : Fl) : Fl :=
  match a, b with
  | .nan, _ => .nan
  | _, .nan => .nan
  | .inf x, .inf y => if x = y then .inf x else .nan
  | .inf x, _ => .inf x
  | _, .inf y => .inf y
  | .fin m e, .fin n f =>
    let q := min e f
    .round (m * 2 ^ (e - q).toNat + n * 2 ^ (f - q).toNat) q

/-- Subtraction. -/
def Fl.sub (a b : Fl) : Fl := a.add b.neg

/-- A value is negative. -/
def Fl.isNeg : Fl → Bool
  | .fin m _ => decide (m < 0)
  | .inf n => n
  | .nan => false

/-- Multiplication. -/
def Fl.mul (a b : Fl) : Fl :=
  match a, b with
  | .fin m e, .fin n f => .round (m * n) (e + f)
  | .nan, _ => .nan
  | _, .nan => .nan
  | .inf x, .inf y => .inf (x != y)
  | .inf x, .fin n f => if n = 0 then .nan else .inf (x != (Fl.fin n f).isNeg)
  | .fin m e, .inf y => if m = 0 then .nan else .inf (y != (Fl.fin m e).isNeg)

/-- Division. -/
def Fl.div (a b : Fl) : Fl :=
  match a, b with
  | .fin m e, .fin n f =>
    if n = 0 then (if m = 0 then .nan else .inf (decide (m < 0)))
    else
      let k := 64 + bitLen n.natAbs
      let num := m.natAbs * 2 ^ k
      let q := 2 * (num / n.natAbs) + (if num % n.natAbs = 0 then 0 else 1)
      .round (if (m < 0) != (n < 0) then -(q : Int) else q) (e - f - k - 1)
  | .nan, _ => .nan
  | _, .nan => .nan
  | .inf _, .inf _ => .nan
  | .inf x, .fin n _ => .inf (x != decide (n < 0))
  | .fin _ _, .inf _ => .zero

/-- Largest r of `n` bits with r^k ≤ v. -/
def rootBits (k v : Nat) : Nat → Nat → Nat
  | 0, r => r
  | n + 1, r => let c := r + 2 ^ n; rootBits k v n (if c ^ k ≤ v then c else r)

/-- Correctly rounded k-th root (k = 2 or 3) of a value that is not negative. -/
def Fl.root (k : Nat) (a : Fl) : Fl :=
  match a with
  | .fin m e =>
    if m ≤ 0 then (if m = 0 then .zero else .nan)
    else
      -- m × 2^e = M × 2^(k·t), with M wide enough for 40 bits of root
      let s := 40 * k + (e % (k : Int)).toNat
      let big := m.natAbs * 2 ^ s
      let t := (e - s) / (k : Int)
      let r := rootBits k big (bitLen big / k + 2) 0
      .round ((2 * r + (if r ^ k = big then 0 else 1) : Nat) : Int) (t - 1)
  | .inf false => .inf false
  | _ => .nan

/-- a < b. -/
def Fl.lt (a b : Fl) : Bool :=
  match a, b with
  | .fin m e, .fin n f => let q := min e f; decide (m * 2 ^ (e - q).toNat < n * 2 ^ (f - q).toNat)
  | .inf true, .inf false => true
  | .inf true, .fin _ _ => true
  | .fin _ _, .inf false => true
  | _, _ => false

/-- a ≤ b. -/
def Fl.le (a b : Fl) : Bool := !b.lt a && a != .nan && b != .nan

/-- Larger and smaller of two values. -/
def Fl.max (a b : Fl) : Fl := if a.lt b then b else a
def Fl.min (a b : Fl) : Fl := if b.lt a then b else a

/-- Clamp. -/
def Fl.clamp (a lo hi : Fl) : Fl := (a.max lo).min hi

/-- Absolute value. -/
def Fl.abs (a : Fl) : Fl := if a.isNeg then a.neg else a

/-- floor, as an integer. -/
def Fl.floor : Fl → Int
  | .fin m e => if 0 ≤ e then m * 2 ^ e.toNat else m / 2 ^ (-e).toNat
  | _ => 0

/-- The exact value of a finite number. -/
def Fl.toRat : Fl → Rat
  | .fin m e => if 0 ≤ e then (m * 2 ^ e.toNat : Int) else (m : Rat) / (2 ^ (-e).toNat : Nat)
  | .inf n => if n then -(2 ^ 128 : Nat) else (2 ^ 128 : Nat)
  | .nan => 0

/-! ### LF24 (R141, R142) -/

/-- The binary32 value of an LF24 pattern. -/
def lf24 (v : Nat) : Fl :=
  let e := bits v 22 15
  let f := bits v 14 0
  let sg : Int := if bitAt v 23 then -1 else 1
  if e = 255 then (if f = 0 then .inf (bitAt v 23) else .nan)
  else if e = 0 then .round (sg * (f : Int)) (-141)
  else .round (sg * ((32768 + f : Nat) : Int)) ((e : Int) - 142)

/-- Conversion to LF24 (R142). -/
def Fl.toLf24 (a : Fl) : Nat :=
  match a with
  | .nan => 0x7F7FFF
  | .inf n => if n then 0xFF7FFF else 0x7F7FFF
  | .fin m e =>
    let n := m.natAbs
    if n = 0 then 0
    else
      let q := quantum 16 (-141) n e
      let r := rneAt n e q
      let sg := if m < 0 then 2 ^ 23 else 0
      -- r × 2^q has at most 17 bits; below 2^-126 it is zero
      if (bitLen r : Int) + q ≤ -126 then 0
      else if 128 < (bitLen r : Int) + q then sg + 0x7F7FFF
      else
        let ex := (bitLen r : Int) + q - 1
        sg + (ex + 127).toNat * 32768 + (shiftN r (q - ex + 15) - 32768)

/-- The value that a stage passes on. -/
def Fl.stage (a : Fl) : Fl := lf24 a.toLf24

/-! ### binary16 (R158) -/

/-- Conversion to binary16: ties to even, magnitudes above 65,504 clamped. -/
def Fl.toHalf (a : Fl) : Nat :=
  match a with
  | .nan => 0x7BFF
  | .inf n => if n then 0xFBFF else 0x7BFF
  | .fin m e =>
    let n := m.natAbs
    let sg := if m < 0 then 0x8000 else 0
    let q := quantum 11 (-24) n e
    let r := rneAt n e q
    if n = 0 ∨ r = 0 then (if n = 0 then 0 else sg)
    else if 16 < (bitLen r : Int) + q then sg + 0x7BFF
    else if (bitLen r : Int) + q ≤ -14 then sg + shiftN r (q + 24)
    else
      let ex := (bitLen r : Int) + q - 1
      sg + (ex + 15).toNat * 1024 + (shiftN r (q - ex + 10) - 1024)

/-- The value of a binary16 pattern. -/
def half (v : Nat) : Fl :=
  let e := bits v 14 10
  let f := bits v 9 0
  let sg : Int := if bitAt v 15 then -1 else 1
  if e = 31 then (if f = 0 then .inf (bitAt v 15) else .nan)
  else if e = 0 then .round (sg * (f : Int)) (-24)
  else .round (sg * ((1024 + f : Nat) : Int)) ((e : Int) - 25)

/-! ### Powers and logarithms, rounded once from 128 fraction bits -/

/-- ln 2 in fixed point. -/
def fixLn2 : Int := 235865763225513294137944142764154484399

/-- Fraction bits of log2 of a mantissa in [1, 2), by repeated squaring. -/
def log2Bits : Nat → Int → Int → Int
  | 0, _, acc => acc
  | n + 1, v, acc =>
    let w := fixMul v v
    if 2 * fixOne ≤ w then log2Bits n (w / 2) (2 * acc + 1) else log2Bits n w (2 * acc)

/-- log2 of a positive finite value, in fixed point. -/
def fixLog2 (m : Nat) (e : Int) : Int :=
  let b := bitLen m
  let v := shiftN m (129 - b)
  ((b : Int) - 1 + e) * fixOne + log2Bits 112 v 0 * 65536

/-- log2. -/
def Fl.log2 (a : Fl) : Fl :=
  match a with
  | .fin m e => if 0 < m then .ofFix (fixLog2 m.natAbs e) 0 else .nan
  | .inf false => .inf false
  | _ => .nan

/-- ln. -/
def Fl.ln (a : Fl) : Fl :=
  match a with
  | .fin m e => if 0 < m then .ofFix (fixMul (fixLog2 m.natAbs e) fixLn2) 0 else .nan
  | .inf false => .inf false
  | _ => .nan

/-- Terms of the exponential series. -/
def expTerms (x : Int) : Nat → Nat → Int → Int → Int
  | 0, _, _, acc => acc
  | n + 1, k, t, acc => let t := fixMul t x / (k : Int); expTerms x n (k + 1) t (acc + t)

/-- a^(num ÷ den) for a value that is not negative. -/
def Fl.pow (a : Fl) (num den : Nat) : Fl :=
  match a with
  | .fin m e =>
    if m ≤ 0 then .zero
    else
      let y := fixLog2 m.natAbs e * num / den
      let k := y / fixOne
      .ofFix (expTerms (fixMul (y % fixOne) fixLn2) 36 1 fixOne fixOne) k
  | x => x

end Sys2Proof.Machine
end

