-- ==== Sys2Proof/Machine/Scene.lean ====
section
/-!
DEFINITION. The pixels of the scene section: input scaling, demosaic, white balance, highlights, camera matrix,
temporal noise reduction and the motion field (06_colour_pipeline.md R146 to R164).
-/

namespace Sys2Proof.Machine

/-! ### Raw sites -/

/-- Corrected Raw rows in hand around the row being completed. -/
structure RawWin where
  w : Nat
  h : Nat
  d : Nat
  phase : Nat
  cfa : Nat
  ox : Nat
  oy : Nat
  rows : List (Nat × Array Nat)
  deriving DecidableEq, Repr

/-- The coordinate inside the image nearest to i with its phase (R147). -/
def nearestPhase (n d : Nat) (i : Int) : Nat :=
  if i < 0 then (i % (d : Int)).toNat
  else if (n : Int) ≤ i then n - 1 - ((((n : Int) - 1 - i) % (d : Int)).toNat)
  else i.toNat

/-- Corrected Raw code of a site, extended beyond the image under R147. -/
def RawWin.code (g : RawWin) (x y : Int) : Nat :=
  let yy := nearestPhase g.h g.d y
  let xx := nearestPhase g.w g.d x
  ((g.rows.find? (fun r => r.1 == yy)).map (fun r => r.2.getD xx 0)).getD 0

/-- Rows above and below that a scene row draws on: the 7 × 7 window of R148 about the sites that R149 reads, and the
quads of R151. -/
def sceneReach (cfa demosaic : Nat) : Nat := 3 + (if demosaic = 0 then 1 else 0) + (if cfa = 2 then 3 else 0)

/-- Read the rows of a raw frame that row y draws on. -/
def State.rawWin (s : State) (o : RawOut) (y reach : Nat) : RawWin :=
  let base := o.corr.getD 0
  let stride := rawStride o.w o.spsCorr
  let ys := (List.range (2 * reach + 1)).filterMap (fun i => if reach ≤ y + i ∧ y + i - reach < o.h then some (y + i - reach) else none)
  { w := o.w, h := o.h, d := o.d, phase := bits o.cfg 25 24, cfa := bits o.cfg 27 26, ox := bits o.origin 14 0, oy := bits o.origin 30 16,
    rows := ys.map (fun r => (r, ((List.range o.w).map (fun x => s.rawSample base stride (x * o.spsCorr) r)).toArray)) }

/-- Stage 1 (R146): (u − PEDESTAL) × IN_SCALE. -/
def stage1 (ped : Nat) (scale : Fl) (u : Nat) : Fl := ((Fl.ofInt ((u : Int) - ped)).mul scale).stage

/-- The stage-1 values of the rows in hand: a function of site coordinates. -/
structure SiteWin where
  g : RawWin
  vals : List (Nat × Array Fl)

/-- Stage 1 over the rows in hand. -/
def RawWin.scale (g : RawWin) (ped : Nat) (k : Fl) : SiteWin :=
  { g := g, vals := g.rows.map (fun r => (r.1, r.2.map (stage1 ped k))) }

/-- Value of a site, extended under R147. -/
def SiteWin.at (v : SiteWin) (x y : Int) : Fl :=
  let yy := nearestPhase v.g.h v.g.d y
  let xx := nearestPhase v.g.w v.g.d x
  ((v.vals.find? (fun r => r.1 == yy)).map (fun r => r.2.getD xx .zero)).getD .zero

/-- Colour class of a Bayer index: 0 R, 1 G, 2 B. -/
def colourClass (i : Nat) : Nat := if i = 0 then 0 else if i = 3 then 2 else 1

/-- Bayer colour that PHASE gives at a full-array position. -/
def RawWin.bayer (g : RawWin) (x y : Int) : Nat :=
  let px := ((x + g.ox) % 2).toNat
  let py := ((y + g.oy) % 2).toNat
  colourClass ((px + 2 * py) ^^^ g.phase)

/-- Quad-Bayer colour of a site. -/
def RawWin.quad (g : RawWin) (x y : Int) : Nat :=
  let px := ((x + g.ox) / 2 % 2).toNat
  let py := ((y + g.oy) / 2 % 2).toNat
  colourClass ((px + 2 * py) ^^^ g.phase)

/-- Half of a sum, and differences, in binary32. -/
def Fl.mean2 (a b : Fl) : Fl := (a.add b).mul (.round 1 (-1))
def Fl.dist (a b : Fl) : Fl := (a.sub b).abs

/-- The nearest site of colour c from (x, y) in a direction, among the four next sites. -/
def SiteWin.nearest (v : SiteWin) (c : Nat) (x y dx dy : Int) : Option Fl :=
  (List.range 4).findSome? (fun (k : Nat) =>
    let n : Int := (k : Int) + 1
    if v.g.quad (x + n * dx) (y + n * dy) = c then some (v.at (x + n * dx) (y + n * dy)) else none)

/-- Mean of two directions, where both sites exist. -/
def pair (a b : Option Fl) : Option Fl :=
  match a, b with
  | some a, some b => some (a.mean2 b)
  | _, _ => none

/-- ε of R148 and R151, plus one. -/
def onePlus (thr : Nat) : Fl := .round (256 + thr) (-8)

/-- The Bayer value of a site of a quad-Bayer frame (R151). -/
def SiteWin.remosaic (v : SiteWin) (thr : Nat) (x y : Int) : Fl :=
  let c := v.g.bayer x y
  if v.g.quad x y = c then v.at x y
  else
    let hz := pair (v.nearest c x y (-1) 0) (v.nearest c x y 1 0)
    let vt := pair (v.nearest c x y 0 (-1)) (v.nearest c x y 0 1)
    match hz, vt with
    | some a, some b =>
      let g := fun (dx dy : Int) => (v.nearest 1 x y dx dy).getD .zero
      let gh := (g (-1) 0).dist (g 1 0)
      let gv := (g 0 (-1)).dist (g 0 1)
      if (gh.mul (onePlus thr)).lt gv then a
      else if (gv.mul (onePlus thr)).lt gh then b
      else a.mean2 b
    | some a, none => a
    | none, some b => b
    | none, none =>
      let q := [((-1 : Int), (-1 : Int)), (1, -1), (-1, 1), (1, 1)].filterMap (fun d => v.nearest c x y d.1 d.2)
      match q with
      | [] => v.at x y
      | a :: t => (t.foldl Fl.add a).div (.ofInt q.length)

/-- A Bayer frame: the value and the colour of a site. -/
structure Bayer where
  val : Int → Int → Fl
  col : Int → Int → Nat

/-- The Bayer frame that the demosaic works on (R151). -/
def SiteWin.toBayer (v : SiteWin) (thr : Nat) : Bayer :=
  if v.g.cfa = 2 then { val := v.remosaic thr, col := v.g.bayer } else { val := v.at, col := v.g.bayer }

/-! ### Demosaic (R148 to R150) -/

/-- DH of R148 over a site function; DV is the same with i and j exchanged. -/
def gradient (v : Int → Int → Fl) : Fl :=
  let term := fun (j : Int) =>
    ((v (-1) j).dist (v 1 j)).add ((((Fl.ofInt 2).mul (v 0 j)).sub (v (-2) j)).sub (v 2 j)).abs
  (((((term (-2)).add ((Fl.ofInt 2).mul (term 0))).add (term 2)).add ((v (-3) 0).dist (v (-1) 0))).add ((v 1 0).dist (v 3 0)))

/-- GH of R148. -/
def greenAlong (v : Int → Int → Fl) : Fl :=
  ((v (-1) 0).mean2 (v 1 0)).add (((((Fl.ofInt 2).mul (v 0 0)).sub (v (-2) 0)).sub (v 2 0)).mul (.round 1 (-2)))

/-- Green at a site in DIRECTIONAL mode (R148). -/
def Bayer.green (b : Bayer) (thr : Nat) (x y : Int) : Fl :=
  if b.col x y = 1 then b.val x y
  else
    let v := fun (i j : Int) => b.val (x + i) (y + j)
    let t := fun (i j : Int) => v j i
    let dh := gradient v
    let dv := gradient t
    let gh := greenAlong v
    let gv := greenAlong t
    if (dh.mul (onePlus thr)).lt dv then gh
    else if (dv.mul (onePlus thr)).lt dh then gv
    else
      let sum := dh.add dv
      if sum = .zero ∨ sum.floor = 0 ∧ !(Fl.lt .zero sum) then gh.mean2 gv
      else ((dv.mul gh).add (dh.mul gv)).div sum

/-- Mean of colour differences at offsets, added to the green estimate (R149). -/
def Bayer.byDiff (b : Bayer) (thr : Nat) (x y : Int) (ofs : List (Int × Int)) : Fl :=
  let diffs := ofs.map (fun o => (b.val (x + o.1) (y + o.2)).sub (b.green thr (x + o.1) (y + o.2)))
  match diffs with
  | [] => .zero
  | a :: t => (b.green thr x y).add ((t.foldl Fl.add a).div (.ofInt ofs.length))

/-- R, G, B of a pixel in DIRECTIONAL mode. -/
def Bayer.directional (b : Bayer) (thr : Nat) (x y : Int) : Fl × Fl × Fl :=
  let c := b.col x y
  let want := fun (k : Nat) =>
    if k = c then b.val x y
    else if k = 1 then b.green thr x y
    else if c = 1 then
      if b.col (x + 1) y = k then b.byDiff thr x y [(-1, 0), (1, 0)] else b.byDiff thr x y [(0, -1), (0, 1)]
    else b.byDiff thr x y [(-1, -1), (1, -1), (-1, 1), (1, 1)]
  (want 0, want 1, want 2)

/-- R, G, B of a pixel in BILINEAR mode (R150). -/
def Bayer.bilinear (b : Bayer) (x y : Int) : Fl × Fl × Fl :=
  let around := ([(-1, -1), (0, -1), (1, -1), (-1, 0), (1, 0), (-1, 1), (0, 1), (1, 1)] : List (Int × Int))
  let want := fun (k : Nat) =>
    if b.col x y = k then b.val x y
    else
      match around.filterMap (fun o => if b.col (x + o.1) (y + o.2) = k then some (b.val (x + o.1) (y + o.2)) else none) with
      | [] => .zero
      | a :: t => (t.foldl Fl.add a).div (.ofInt (t.length + 1))
  (want 0, want 1, want 2)

/-! ### White balance, highlights, matrix (R152 to R154) -/

/-- Apply a function to the three components. -/
def map3 (f : Fl → Fl) (p : Fl × Fl × Fl) : Fl × Fl × Fl := (f p.1, f p.2.1, f p.2.2)

/-- The terms of Table CSE-4. -/
def mtxTerms (p : Fl × Fl × Fl) : List Fl :=
  let r := p.1
  let g := p.2.1
  let b := p.2.2
  let rp := r.max .zero
  let gp := g.max .zero
  let bp := b.max .zero
  [r, g, b, (rp.mul gp).root 2, (gp.mul bp).root 2, (bp.mul rp).root 2, ((rp.mul gp).mul bp).root 3,
   ((rp.mul rp).mul gp).root 3, ((gp.mul gp).mul bp).root 3, ((bp.mul bp).mul rp).root 3]

/-- Sum of products, left to right, each operation rounded. -/
def dotProd (c t : List Fl) : Fl :=
  match (c.zip t).map (fun e => e.1.mul e.2) with
  | [] => .zero
  | a :: r => r.foldl Fl.add a

/-- One component of stage 5 (R154). -/
def State.mtx (s : State) (k : Nat) (terms : List Fl) : Fl :=
  (dotProd ((List.range 10).map (fun t => lf24 (s.get (Reg.CSE_MTX_V (10 * k + t))))) terms).stage

/-- Stages 2 to 5 of a pixel: working-space R, G, B. -/
def State.scenePixel (s : State) (v : SiteWin) (b : Bayer) (x y : Nat) : Fl × Fl × Fl :=
  let thr := s.get Reg.CSE_SCN_CFG_DIR_THR
  let rgb :=
    if v.g.cfa = 0 then (v.at x y, v.at x y, v.at x y)
    else if s.get Reg.CSE_SCN_CFG_DEMOSAIC = 0 then b.directional thr x y
    else b.bilinear x y
  let rgb := map3 Fl.stage rgb
  let rgb := ((rgb.1.mul (lf24 (s.get Reg.CSE_WB_R_V))).stage, (rgb.2.1.mul (lf24 (s.get Reg.CSE_WB_G_V))).stage,
    (rgb.2.2.mul (lf24 (s.get Reg.CSE_WB_B_V))).stage)
  let clipped := s.flag Reg.CSE_SCN_CFG_CLIP_EN && ([-1, 0, 1] : List Int).any (fun j => ([-1, 0, 1] : List Int).any (fun i =>
    decide (s.get Reg.CSE_CLIP_CODE ≤ v.g.code (x + i) (y + j))))
  let rgb := if clipped then let m := (rgb.1.max rgb.2.1).max rgb.2.2; (m, m, m) else rgb
  let t := mtxTerms rgb
  (s.mtx 0 t, s.mtx 1 t, s.mtx 2 t)

/-! ### Temporal noise reduction (R156 to R163) -/

/-- Stride of a history buffer. -/
def histStride (w : Nat) : Nat := ceilDiv (w * 6) 64 * 64

/-- A history pixel. -/
def State.histPixel (s : State) (base w x y : Nat) : Fl × Fl × Fl :=
  let a := base + y * histStride w + 6 * x
  (half (s.readLe a 2), half (s.readLe (a + 2) 2), half (s.readLe (a + 4) 2))

/-- An entry of the motion field: MVX, MVY, COST, VALID (Table CSE-7). -/
def State.mfEntry (s : State) (m : MfDesc) (i : Nat) : Int × Int × Nat × Bool :=
  let e := s.readLe (m.addr + 4 * i) 4
  (toSigned 13 (bits e 31 19), toSigned 12 (bits e 18 7), bits e 6 1, bitAt e 0)

/-- The scene vector of a block in quarter pixels, and whether it was clamped (R163). -/
def State.sceneVector (s : State) (f : SceneFrame) (m : MfDesc) (x0 y0 : Nat) : Int × Int × Bool :=
  let u : Int := (((x0 : Int) + 32 - m.cx) * m.wo) / (16 * max 1 m.cw : Nat)
  let w : Int := (((y0 : Int) + 4 - m.cy) * m.ho) / (16 * max 1 m.ch : Nat)
  let bx := (clampI 0 (m.bx - 1 : Nat) u).toNat
  let by' := (clampI 0 (m.by' - 1 : Nat) w).toNat
  let i := by' * m.bx + bx
  let (mx, my, cost, valid) := s.mfEntry m i
  if !m.valid || !valid || f.mfLost.contains (i / 16) || decide (s.get Reg.CSE_TNR_THR_COST_MAX < cost) then (0, 0, false)
  else
    let vx := roundDivI (mx * m.cw) (max 1 m.wo)
    let vy := roundDivI (my * m.ch) (max 1 m.ho)
    let cx := clampI (-2048) 2048 vx
    let cy := clampI (-1024) 1024 vy
    (cx, cy, cx != vx || cy != vy)

/-- A history pixel is lost. -/
def SceneFrame.lostAt (f : SceneFrame) (x y : Nat) : Bool := f.histLost.any (fun l => l.1 == y && decide (l.2.1 ≤ x ∧ x ≤ l.2.2))

/-- The history sample at (x + vx, y + vy), in quarter pixels; none where it draws on a lost pixel (R156, R157). -/
def State.histSample (s : State) (f : SceneFrame) (base x y : Nat) (vx vy : Int) : Option (Fl × Fl × Fl) :=
  let px : Int := 4 * (x : Int) + vx
  let py : Int := 4 * (y : Int) + vy
  let cl := fun (n : Nat) (i : Int) => (clampI 0 (n - 1 : Nat) i).toNat
  let ax := px % 4
  let ay := py % 4
  let x0 := cl f.w (px / 4)
  let x1 := cl f.w (px / 4 + 1)
  let y0 := cl f.h (py / 4)
  let y1 := cl f.h (py / 4 + 1)
  let pts := [(x0, y0, (4 - ax) * (4 - ay)), (x1, y0, ax * (4 - ay)), (x0, y1, (4 - ax) * ay), (x1, y1, ax * ay)].filter (fun p => p.2.2 != 0)
  if pts.any (fun p => f.lostAt p.1 p.2.1) then none
  else
    let part := fun (c : Fl × Fl × Fl → Fl) =>
      dotProd (pts.map (fun p => Fl.round p.2.2 (-4))) (pts.map (fun p => c (s.histPixel base f.w p.1 p.2.1)))
    some (part (fun p => p.1), part (fun p => p.2.1), part (fun p => p.2.2))

/-- 0.25R + 0.5G + 0.25B. -/
def luma (p : Fl × Fl × Fl) : Fl :=
  (((Fl.round 1 (-2)).mul p.1).add ((Fl.round 1 (-1)).mul p.2.1)).add ((Fl.round 1 (-2)).mul p.2.2)

/-- The blend weight k of R156. -/
def State.blendWeight (s : State) (c h : Fl × Fl × Fl) : Fl :=
  let yc := luma c
  let sigma := ((lf24 (s.get Reg.CSE_TNR_N0_V)).add ((lf24 (s.get Reg.CSE_TNR_N1_V)).mul (yc.max .zero))).root 2
  if !(Fl.lt .zero sigma) then .zero
  else
    let ratio := ((yc.sub (luma h)).abs).div ((Fl.round (s.get Reg.CSE_TNR_THR_THR) (-4)).mul sigma)
    (Fl.round (s.get Reg.CSE_TNR_CFG_K_MAX) (-8)).mul (((Fl.ofInt 1).sub ratio).clamp .zero (.ofInt 1))

/-- Stage 6 of a pixel (R156, R157). -/
def State.tnr (s : State) (f : SceneFrame) (poison : List Nat) (x y : Nat) (vx vy : Int) (c : Fl × Fl × Fl) : Fl × Fl × Fl :=
  match f.histIn with
  | none => c
  | some base =>
    if f.mode = 0 ∨ !f.histValid ∨ poison.contains (tileAt f.w x y) then c
    else
      match s.histSample f base x y vx vy with
      | none => c
      | some h =>
        let k := s.blendWeight c h
        let mix := fun (a b : Fl) => (a.add (k.mul (b.sub a))).stage
        (mix c.1 h.1, mix c.2.1 h.2.1, mix c.2.2 h.2.2)

/-- A row of the Scene Bus, with the number of scene blocks whose vector was clamped at their first row. -/
def State.sceneRow (s : State) (f : SceneFrame) (o : RawOut) (y : Nat) : List Pixel × Nat :=
  let g := s.rawWin o y (sceneReach (bits o.cfg 27 26) (s.get Reg.CSE_SCN_CFG_DEMOSAIC))
  let v := g.scale o.pedestal (lf24 (s.get Reg.CSE_IN_SCALE_V))
  let b := v.toBayer (s.get Reg.CSE_SCN_CFG_DIR_THR)
  let vecs := (List.range (ceilDiv f.w 64)).map (fun i =>
    match f.mode, f.field with
    | 2, some m => s.sceneVector f m (64 * i) (y / 8 * 8)
    | _, _ => (0, 0, false))
  let px := (List.range f.w).map (fun x =>
    let (vx, vy, _) := vecs.getD (x / 64) (0, 0, false)
    let p := s.tnr f o.tag.poison x y vx vy (s.scenePixel v b x y)
    (p.1.toLf24, p.2.1.toLf24, p.2.2.toLf24))
  (px, if y % 8 = 0 then (vecs.filter (fun v => v.2.2)).length else 0)

/-- A row of history as bytes (R158). -/
def histBytes (px : List Pixel) : List Byte :=
  px.flatMap (fun p => leBytes 2 (lf24 p.1).toHalf ++ leBytes 2 (lf24 p.2.1).toHalf ++ leBytes 2 (lf24 p.2.2).toHalf)

end Sys2Proof.Machine
end

