-- ==== Sys2Proof/Machine/RenderPix.lean ====
section
/-!
DEFINITION. The pixels of a render path: crop, decimation, scaling, transform, shaper, 3D LUT, output transfer and
encoding (07_render_paths.md R173 to R188).
-/

namespace Sys2Proof.Machine

/-! ### Tables -/

/-- A render path. -/
def State.rp (s : State) (p : Nat) : RpSt := getN s.cse.rps p RpSt.reset

/-- Replace a render path. -/
def State.setRp (s : State) (p : Nat) (f : RpSt → RpSt) : State := { s with cse := { s.cse with rps := updN s.cse.rps p f } }

/-- Reset word of a coefficient table (R175): bilinear; the shaper resets to 0. -/
def rpTblReset (k : Nat) : Nat :=
  if 512 ≤ k then 0
  else
    let ph := k % 256 / 4
    if k % 4 = 1 then (1024 - 16 * ph) * 2 ^ 16 else if k % 4 = 2 then 16 * ph else 0

/-- The table copy in use. -/
def State.rpTbl (s : State) (p c : Nat) : SMap Nat := getN (s.rp p).tbl c []

/-- A word of a table copy. -/
def State.rpWord (s : State) (p c k : Nat) : Nat := SMap.getD (s.rpTbl p c) (rpTblReset k) k

/-- Coefficient of a phase and tap (Table RP-6): signed, with 10 fraction bits; table 0 horizontal, 1 vertical. -/
def State.rpCoef (s : State) (p c t ph tap : Nat) : Int :=
  let w := s.rpWord p c (256 * t + 4 * ph + tap / 2)
  toSigned 16 (if tap % 2 = 0 then w % 2 ^ 16 else bits w 31 16)

/-- R175: the coefficients of every phase sum to 1,024. -/
def State.rpSumsOk (s : State) (p c : Nat) : Bool :=
  (List.range 2).all (fun t => (List.range 64).all (fun ph =>
    decide (((List.range 8).map (fun k => s.rpCoef p c t ph k)).foldl (· + ·) 0 = 1024)))

/-- Entry i of component c of the shaper table (R177). -/
def State.rpShaper (s : State) (p copy c i : Nat) : Fl := .round (min 65536 (s.rpWord p copy (512 + 1025 * c + i) % 2 ^ 17)) (-16)

/-! ### Geometry (R173, R174) -/

/-- The geometry of a render path. -/
structure RpGeom where
  cx : Nat
  cy : Nat
  cw : Nat
  ch : Nat
  dx : Nat
  dy : Nat
  ow : Nat
  oh : Nat
  deriving DecidableEq, Repr

/-- Geometry of path p. -/
def State.rpGeom (s : State) (p : Nat) : RpGeom :=
  { cx := s.get (Reg.RP_CROP_XY_CX p), cy := s.get (Reg.RP_CROP_XY_CY p),
    cw := s.get (Reg.RP_CROP_WH_CW p), ch := s.get (Reg.RP_CROP_WH_CH p),
    dx := 2 ^ s.get (Reg.RP_SCALE_DX p), dy := 2 ^ s.get (Reg.RP_SCALE_DY p),
    ow := s.get (Reg.RP_OUT_SIZE_OW p), oh := s.get (Reg.RP_OUT_SIZE_OH p) }

/-- Filter position of output sample o: k and the phase (R174), for a source of n decimated samples and m outputs.
s = (o + 0.5) × n ÷ m − 0.5. -/
def tapBase (n m o : Nat) : Int × Nat :=
  let num : Int := ((2 * o + 1) * n : Nat) - (m : Int)
  let den : Int := 2 * max 1 m
  let k := num / den
  let ph := ((num - k * den) * 128 + den) / (2 * den)
  if ph = 64 then (k + 1, 0) else (k, ph.toNat)

/-- Decimated sample that tap t of a position draws on, clamped to the crop. -/
def tapAt (n : Nat) (k : Int) (t : Nat) : Nat := (clampI 0 (n - 1 : Nat) (k - 3 + t)).toNat

/-- Decimated columns and rows. -/
def RpGeom.nx (g : RpGeom) : Nat := g.cw / g.dx
def RpGeom.ny (g : RpGeom) : Nat := g.ch / g.dy

/-- Last scene row that output row j draws on. -/
def RpGeom.lastRow (g : RpGeom) (j : Nat) : Nat :=
  let (k, _) := tapBase g.ny g.oh j
  g.cy + g.dy * tapAt g.ny k 7 + g.dy - 1

/-! ### Stages 1 and 2 -/

/-- A decimated pixel (R173). -/
def decimate (rows : SMap (Array Pixel)) (g : RpGeom) (i j : Nat) : Fl × Fl × Fl :=
  let px := (List.range g.dy).flatMap (fun b => (List.range g.dx).map (fun a =>
    ((SMap.getD rows #[] (g.cy + g.dy * j + b))).getD (g.cx + g.dx * i + a) (0, 0, 0)))
  let part := fun (c : Pixel → Nat) =>
    match px.map (fun q => lf24 (c q)) with
    | [] => Fl.zero
    | a :: t => (((t.foldl Fl.add a).div (.ofInt (g.dx * g.dy : Nat)))).stage
  (part (fun q => q.1), part (fun q => q.2.1), part (fun q => q.2.2))

/-- The eight coefficients of a phase, as binary32. -/
def State.rpCoefs (s : State) (p copy t ph : Nat) : List Fl := (List.range 8).map (fun k => .round (s.rpCoef p copy t ph k) (-10))

/-- Output row j after stage 2: horizontal, then vertical (R174). -/
def State.rpScaleRow (s : State) (p copy : Nat) (rows : SMap (Array Pixel)) (g : RpGeom) (j : Nat) : List (Fl × Fl × Fl) :=
  let (ky, phy) := tapBase g.ny g.oh j
  let vy := s.rpCoefs p copy 1 phy
  let lines := (List.range 8).map (fun t =>
    let r := tapAt g.ny ky t
    let dec := ((List.range g.nx).map (fun i => decimate rows g i r)).toArray
    (List.range g.ow).map (fun o =>
      let (kx, phx) := tapBase g.nx g.ow o
      let vx := s.rpCoefs p copy 0 phx
      let px := (List.range 8).map (fun t => dec.getD (tapAt g.nx kx t) (.zero, .zero, .zero))
      (dotProd vx (px.map (fun q => q.1)), dotProd vx (px.map (fun q => q.2.1)), dotProd vx (px.map (fun q => q.2.2)))))
  (List.range g.ow).map (fun o =>
    let px := lines.map (fun l => l.getD o (.zero, .zero, .zero))
    map3 Fl.stage (dotProd vy (px.map (fun q => q.1)), dotProd vy (px.map (fun q => q.2.1)), dotProd vy (px.map (fun q => q.2.2))))

/-! ### Stage 3 (R176) -/

/-- A 3 × 3 matrix, row by row. -/
abbrev M3 := List Fl

/-- An element of a matrix. -/
def M3.at (m : M3) (r c : Nat) : Fl := m.getD (3 * r + c) .zero

/-- Matrix times vector, left to right. -/
def M3.app (m : M3) (v : Fl × Fl × Fl) : Fl × Fl × Fl :=
  let row := fun (r : Nat) => dotProd [m.at r 0, m.at r 1, m.at r 2] [v.1, v.2.1, v.2.2]
  (row 0, row 1, row 2)

/-- Matrix product. -/
def M3.mul (a b : M3) : M3 :=
  (List.range 9).map (fun i => dotProd [a.at (i / 3) 0, a.at (i / 3) 1, a.at (i / 3) 2] [b.at 0 (i % 3), b.at 1 (i % 3), b.at 2 (i % 3)])

/-- Cofactor of row r and column c. -/
def M3.cof (m : M3) (r c : Nat) : Fl :=
  let r1 := (r + 1) % 3
  let r2 := (r + 2) % 3
  let c1 := (c + 1) % 3
  let c2 := (c + 2) % 3
  ((m.at r1 c1).mul (m.at r2 c2)).sub ((m.at r1 c2).mul (m.at r2 c1))

/-- Inverse by cofactors. -/
def M3.inv (m : M3) : M3 :=
  let det := dotProd [m.at 0 0, m.at 0 1, m.at 0 2] [m.cof 0 0, m.cof 0 1, m.cof 0 2]
  (List.range 9).map (fun i => (m.cof (i % 3) (i / 3)).div det)

/-- Diagonal matrix. -/
def M3.diag (v : Fl × Fl × Fl) : M3 := [v.1, .zero, .zero, .zero, v.2.1, .zero, .zero, .zero, v.2.2]

/-- The identity. -/
def M3.one : M3 := M3.diag (.ofInt 1, .ofInt 1, .ofInt 1)

/-- Chromaticities of a space, in 1 ÷ 100,000: red, green, blue, white x and y (Tables CSE-5 and RP-2). -/
def primaries (n : Nat) : List Int :=
  match n with
  | 0 => [73000, 28000, 14000, 85500, 10000, -3000, 31270, 32900]
  | 1 => [70800, 29200, 17000, 79700, 13100, 4600, 31270, 32900]
  | 2 => [73470, 26530, 0, 100000, 10, -7700, 32168, 33767]
  | 3 => [71300, 29300, 16500, 83000, 12800, 4400, 32168, 33767]
  | 4 => [64000, 33000, 30000, 60000, 15000, 6000, 31270, 32900]
  | 5 => [70800, 29200, 17000, 79700, 13100, 4600, 31270, 32900]
  | _ => [68000, 32000, 26500, 69000, 15000, 6000, 31270, 32900]

/-- X, Y, Z of a chromaticity with Y = 1. -/
def xyz (x y : Int) : Fl × Fl × Fl :=
  (.ofFrac (if y < 0 then Int.neg x else x) y.natAbs, .ofInt 1,
   .ofFrac (if y < 0 then Int.neg (100000 - x - y) else 100000 - x - y) y.natAbs)

/-- White of a space. -/
def white (n : Nat) : Fl × Fl × Fl := xyz ((primaries n).getD 6 0) ((primaries n).getD 7 1)

/-- Normalised primary matrix of SMPTE RP 177: columns x, y, z of the primaries scaled so that they sum to the white. -/
def npm (n : Nat) : M3 :=
  let q := primaries n
  let part := fun (i k : Nat) =>
    let x := q.getD (2 * i) 0
    let y := q.getD (2 * i + 1) 0
    Fl.ofFrac (if k = 0 then x else if k = 1 then y else 100000 - x - y) 100000
  let m : M3 := (List.range 9).map (fun i => part (i % 3) (i / 3))
  m.mul (M3.diag (m.inv.app (white n)))

/-- The Bradford cone matrix. -/
def bradford : M3 :=
  [.dec 8951 4, .dec 2664 4, .dec (-1614) 4, .dec (-7502) 4, .dec 17135 4, .dec 367 4, .dec 389 4, .dec (-685) 4, .dec 10296 4]

/-- Adaptation from one white to another. -/
def adapt (a b : Nat) : M3 :=
  if (primaries a).drop 6 = (primaries b).drop 6 then M3.one
  else
    let x := bradford.app (white a)
    let y := bradford.app (white b)
    (bradford.inv.mul (M3.diag (y.1.div x.1, y.2.1.div x.2.1, y.2.2.div x.2.2))).mul bradford

/-- G of R176: from working space ws to GAMUT g. -/
def gamut (ws g : Nat) : M3 := if g = 0 then M3.one else ((npm (g + 3)).inv.mul (adapt ws (g + 3))).mul (npm ws)

/-- X × G of path p for a frame. -/
def State.rpMatrix (s : State) (p ws : Nat) : M3 :=
  M3.mul ((List.range 9).map (fun i => lf24 (s.get (Reg.RP_XFORM_V p i)))) (gamut ws (s.get (Reg.RP_CFG_GAMUT p)))

/-! ### Stages 4 to 6 (R177 to R179, R184, R185) -/

/-- c of R185. -/
def elogC : Fl := .dec 492625860 9

/-- The Elota Log curve E (R185). -/
def elog (x : Fl) : Fl :=
  if x.isNeg then
    ((Fl.dec 80125860 9).add ((Fl.ofFrac (768 * fixOne) (10 * fixLn2.toNat)).mul x)).max .zero
  else ((Fl.dec 375 4).mul (x.add (.round 1 (-11))).log2).add elogC

/-- 1.0. -/
def Fl.one : Fl := .ofInt 1

/-- Stage 4 of a component (R177). -/
def State.rpShape (s : State) (p copy c : Nat) (x : Fl) : Fl :=
  match s.get (Reg.RP_TF_CFG_SHAPER p) with
  | 0 => x.clamp .zero .one
  | 1 => ((elog x).clamp .zero .one).stage
  | _ =>
    let t := (elog x).clamp .zero .one
    let u := (Fl.ofInt 1024).mul t
    let i := (clampI 0 1023 u.floor).toNat
    let f := u.sub (.ofInt i)
    let a := s.rpShaper p copy c i
    (a.add (f.mul ((s.rpShaper p copy c (i + 1)).sub a))).stage

/-- Side of the LUT of path p. -/
def lutSide (p : Nat) : Nat := if p < 4 then 65 else 33

/-- A LUT value on load (R178). -/
def lutValue (h : Nat) : Fl := (half h).stage

/-- An entry of a LUT copy. -/
def LutCopy.entry (l : LutCopy) (n : Nat) (r g b : Int) : Fl × Fl × Fl :=
  let v := l.data.getD (r.toNat + n * g.toNat + n * n * b.toNat) 0
  (lutValue (v % 65536), lutValue (bits v 31 16), lutValue (bits v 47 32))

/-- Stage 5 (R179): the weights and the entries of the tetrahedron, in the order written. -/
def LutCopy.interp (l : LutCopy) (n : Nat) (v : Fl × Fl × Fl) : Fl × Fl × Fl :=
  let side := fun (c : Fl) =>
    let q := c.mul (.ofInt (n - 1 : Nat))
    let i := clampI 0 (n - 2 : Nat) q.floor
    (i, q.sub (.ofInt i))
  let (ir, fr) := side v.1
  let (ig, fg) := side v.2.1
  let (ib, fb) := side v.2.2
  let e := fun (a b c : Int) => l.entry n (ir + a) (ig + b) (ib + c)
  let mix := fun (w0 w1 w2 w3 : Fl) (e1 e2 : Fl × Fl × Fl) =>
    let e0 := e 0 0 0
    let e3 := e 1 1 1
    let one := fun (c : Fl × Fl × Fl → Fl) => dotProd [w0, w1, w2, w3] [c e0, c e1, c e2, c e3]
    (one (fun q => q.1), one (fun q => q.2.1), one (fun q => q.2.2))
  let o := Fl.one
  if fg.le fr && fb.le fg then mix (o.sub fr) (fr.sub fg) (fg.sub fb) fb (e 1 0 0) (e 1 1 0)
  else if fb.le fr && fg.le fb then mix (o.sub fr) (fr.sub fb) (fb.sub fg) fg (e 1 0 0) (e 1 0 1)
  else if fr.le fb && fg.le fr then mix (o.sub fb) (fb.sub fr) (fr.sub fg) fg (e 0 0 1) (e 1 0 1)
  else if fr.le fg && fb.le fr then mix (o.sub fg) (fg.sub fr) (fr.sub fb) fb (e 0 1 0) (e 1 1 0)
  else if fb.le fg && fr.le fb then mix (o.sub fg) (fg.sub fb) (fb.sub fr) fr (e 0 1 0) (e 0 1 1)
  else mix (o.sub fb) (fb.sub fg) (fg.sub fr) fr (e 0 0 1) (e 0 1 1)

/-- Stage 6 of a component (R184). -/
def State.rpTransfer (s : State) (p : Nat) (x : Fl) : Fl :=
  let gx := (lf24 (s.get (Reg.RP_TF_GAIN_V p))).mul x
  let y := match s.get (Reg.RP_TF_CFG_TRANSFER p) with
    | 0 => x.clamp .zero .one
    | 1 => if s.flag (Reg.RP_ENC_CFG_FLOAT p) then gx else gx.clamp .zero .one
    | 2 => (elog gx).clamp .zero .one
    | 3 =>
      let l := ((gx.mul (.ofInt (s.get (Reg.RP_TF_CFG_PQ_NITS p)))).div (.ofInt 10000)).clamp .zero .one
      let m := l.pow 2610 16384
      (((Fl.round 3424 (-12)).add ((Fl.round 2413 (-7)).mul m)).div (Fl.one.add ((Fl.round 2392 (-7)).mul m))).pow 2523 32
    | 4 =>
      let e := gx.clamp .zero .one
      if e.le (Fl.ofFrac 1 12) then ((Fl.ofInt 3).mul e).root 2
      else ((Fl.dec 17883277 8).mul ((((Fl.ofInt 12).mul e).sub (.dec 28466892 8)).ln)).add (.dec 55991073 8)
    | _ => (gx.clamp .zero .one).pow 5 12
  y.stage

/-- Stages 3 to 6 of a pixel. -/
def State.rpPixel (s : State) (p copy lut : Nat) (m : M3) (v : Fl × Fl × Fl) : Fl × Fl × Fl :=
  let v := map3 Fl.stage (m.app v)
  let v :=
    if s.get (Reg.RP_CFG_LUT_MODE p) = 0 then v
    else
      let w := (s.rpShape p copy 0 v.1, s.rpShape p copy 1 v.2.1, s.rpShape p copy 2 v.2.2)
      map3 Fl.stage ((getN (s.rp p).lut lut { addr := 0, data := [] }).interp (lutSide p) w)
  map3 (s.rpTransfer p) v

/-! ### Stage 7 (R186 to R188) -/

/-- DEPTH in bits. -/
def depthBits (d : Nat) : Nat := ([8, 10, 12, 16] : List Nat).getD d 16

/-- Y′, Cb, Cr or R′, G′, B′ of a pixel, exactly. -/
def encodePixel (matrix : Nat) (v : Fl × Fl × Fl) : Rat × Rat × Rat :=
  let r := v.1.toRat
  let g := v.2.1.toRat
  let b := v.2.2.toRat
  if matrix = 0 then (r, g, b)
  else
    let kr : Rat := if matrix = 1 then 2126 / 10000 else 2627 / 10000
    let kb : Rat := if matrix = 1 then 722 / 10000 else 593 / 10000
    let y := kr * r + (1 - kr - kb) * g + kb * b
    (y, (b - y) / (2 * (1 - kb)), (r - y) / (2 * (1 - kr)))

/-- The code of a value at depth n (R186), and whether it was clamped. -/
def encodeValue (n : Nat) (chroma narrow safe : Bool) (v : Rat) : Nat × Bool :=
  let k : Rat := ((2 ^ n - 1 : Nat) : Rat)
  let x : Rat :=
    if narrow then
      ((if chroma then 224 * v + 128 else 219 * v + 16) * ((2 ^ (n - 8) : Nat) : Rat))
    else if chroma then v * k + ((2 ^ (n - 1) : Nat) : Rat) else v * k
  let r := (x + 1 / 2).floor
  let c := clampI 0 ((2 ^ n - 1 : Nat) : Int) r
  let c := if safe then clampI ((2 ^ (n - 8) : Nat) : Int) ((2 ^ n - 1 - 2 ^ (n - 8) : Nat) : Int) c else c
  (c.toNat, c != r)

/-- Horizontal 4:2:2 chroma at even columns (R187): edge columns replicated. -/
def subsample (l : List Rat) : List Rat :=
  let n := l.length
  (List.range (n / 2)).map (fun i =>
    (l.getD (2 * i - 1) 0 + 2 * l.getD (2 * i) 0 + l.getD (min (2 * i + 1) (n - 1)) 0) / 4)

/-- Interleave Cb and Cr codes as 16-bit words. -/
def cbcrBytes (cb cr : List Nat) : List Byte := (cb.zip cr).flatMap (fun e => leBytes 2 e.1 ++ leBytes 2 e.2)

/-- Bytes of a row of a format with all components at every pixel: PACKED32 or W16_444. -/
def packRow (fmt : Nat) (px : List (Nat × Nat × Nat)) : List Byte :=
  px.flatMap (fun c =>
    if fmt = 0 then leBytes 4 (c.2.2 * 2 ^ 20 + c.2.1 * 2 ^ 10 + c.1)
    else leBytes 2 c.1 ++ leBytes 2 c.2.1 ++ leBytes 2 c.2.2)

/-- Bytes per row of the (first) plane of a format. -/
def planeBytes (fmt w : Nat) : Nat := if fmt = 0 then 4 * w else if fmt = 1 then 6 * w else 2 * w

/-- Row stride of a plane (R188). -/
def planeStride (fmt w : Nat) : Nat := ceilDiv (planeBytes fmt w) 64 * 64

/-- Bytes of a whole frame (R188). -/
def rpFrameBytes (fmt w h : Nat) : Nat :=
  planeStride fmt w * (h + if fmt = 2 then h else if fmt = 3 then h / 2 else 0)

/-- Buffer bytes per pixel (Table RP-4). -/
def fmtBpp (fmt : Nat) : Nat := ([4, 6, 4, 3] : List Nat).getD fmt 4

end Sys2Proof.Machine
end

