-- ==== Sys2Proof/Machine/Render.lean ====
section
/-!
DEFINITION. Scene frames and render path frames: the scene SOF, the rows, history, motion field selection, LUT and
table copies, buffers and statistics (06_colour_pipeline.md R144 to R168; 07_render_paths.md R171, R180 to R192).
-/

namespace Sys2Proof.Machine

/-- Change the colour engine's state. -/
def State.setCse (s : State) (f : CseSt → CseSt) : State := { s with cse := f s.cse }

/-- Count for a counter of the scene section or of a render path, which shows it with the frame's last beat. -/
def State.countCse (s : State) (f : Fld) (n : Nat) : State := s.setCse (fun c => { c with late := addLate c.late f n })

/-- Counters take what waits for them in the colour engine. -/
def State.takeCse (s : State) (fs : List Fld) : State := (s.takeLate s.cse.late fs).setCse (fun c => { c with late := dropLate c.late fs })

/-- The scene section's counters (Table CSE-10). -/
def cseCounters : List Fld :=
  [Reg.CSE_CNT_MF_FALLBACK, Reg.CSE_CNT_MF_CLAMP, Reg.CSE_CNT_MF_DROP, Reg.CSE_CNT_HIST_LOST, Reg.CSE_CNT_PARITY, Reg.CSE_CNT_LB_REFILL,
    Reg.CSE_CNT_CONCEAL]

/-! ### Which paths pass a render path -/

/-- The render path a timing generator displays. -/
def State.tgRp (s : State) (t : Nat) : Option Nat :=
  if s.get (Reg.ORE_TG_CFG_SRC_KIND t) = 0 then some (s.get (Reg.ORE_TG_CFG_SRC_INDEX t)) else none

/-- The render path a booked path passes. -/
def State.rpOf (s : State) (b : Booking) : Option Nat :=
  match b.kind with
  | 1 => s.tgRp b.idx
  | 8 => s.tgRp b.idx
  | 2 => s.tgRp (s.get (Reg.ORE_TX_CFG_TG b.idx))
  | 3 => some (s.get (Reg.PCD_SES_CFG_SRC_RP b.idx))
  | _ => none

/-- The booked paths through render path p. -/
def State.rpPaths (s : State) (p : Nat) : List Booking := s.plan.bookings.filter (fun b => s.rpOf b == some p)

/-- R171: render path p takes the frame: it is enabled, and a path through it accepted the frame or is not shed. -/
def State.rpTakes (s : State) (tag : FrameTag) (p : Nat) : Bool :=
  decide (p < s.variant.renderPaths) && s.flag (Reg.RP_CFG_EN p) &&
    (s.rpPaths p).any (fun b => (tag.on b.path).isSome || !s.pathShed b.path)

/-- The CSE is idle (R23). -/
def State.cseIdle (s : State) : Bool :=
  !s.enabled .cse || (s.cse.scene.isNone && (s.rfeIdle || s.idle.contains .scene))

/-! ### Copies (R180 to R183) -/

/-- A frame of the ring retains a copy: its buffer can still need recomputing (R183, R349). -/
def State.rpFrameKept (s : State) (o : RenderOut) : Bool :=
  !o.done || (match o.base with
    | some b => ((SMap.lookup s.mss.lin b).map (fun d => decide (0 < d.retain))).getD false
    | none => false)

/-- A table copy (or a LUT copy) of path p is retained by some frame. -/
def State.rpRetained (s : State) (p : Nat) (lut : Bool) (c : Nat) : Bool :=
  (s.rp p).outs.any (fun o => (if lut then o.lutCopy else o.tblCopy) == c && s.rpFrameKept o)

/-- MASTER_RETAINED of RP_LUT_STATUS: the region of copy c is active or retained (R181). -/
def State.lutMasterKept (s : State) (p c : Nat) : Bool :=
  !(getN (s.rp p).lut c { addr := 0, data := [] }).data.isEmpty && (s.get (Reg.RP_LUT_STATUS_ACTIVE p) == c || s.rpRetained p true c)

/-- Copy the active tables into the inactive copy, unless that copy is retained (R182, R183). -/
def State.rpCopyTables (s : State) (p : Nat) : State :=
  let a := s.get (Reg.RP_TBL_STATUS_ACTIVE p)
  if s.rpRetained p false (1 - a) then
    (s.setRp p (fun x => { x with heldCopy := true })).put (Reg.RP_TBL_STATUS_STATE p) 3
  else
    (s.setRp p (fun x => { x with heldCopy := false, tbl := updN x.tbl (1 - a) (fun _ => getN x.tbl a []) })).put (Reg.RP_TBL_STATUS_STATE p) 0

/-- Write the active tables into the master region: horizontal, vertical, shaper (notes/assumptions/21.md). -/
def State.rpWriteMaster (s : State) (p : Nat) : State :=
  let a := s.get (Reg.RP_TBL_STATUS_ACTIVE p)
  let base := s.addr40 (Reg.RP_TBL_MASTER_LO p) (Reg.RP_TBL_MASTER_HI p)
  s.write base (((List.range 3587).flatMap (fun k => leBytes 4 (s.rpWord p a k))) ++ zeros 52)

/-- A pending table swap takes effect (R182). -/
def State.rpTblSwap (s : State) (p : Nat) : State :=
  if s.get (Reg.RP_TBL_STATUS_STATE p) = 2 then
    let s := s.put (Reg.RP_TBL_STATUS_ACTIVE p) (1 - s.get (Reg.RP_TBL_STATUS_ACTIVE p))
    ((s.rpWriteMaster p).rpCopyTables p).raise .cse (16 + p)
  else s

/-- A pending LUT becomes active (R180). -/
def State.rpLutSwap (s : State) (p : Nat) : State :=
  if s.get (Reg.RP_LUT_STATUS_STATE p) = 2 then
    (s.puts [(Reg.RP_LUT_STATUS_ACTIVE p, 1 - s.get (Reg.RP_LUT_STATUS_ACTIVE p)), (Reg.RP_LUT_STATUS_STATE p, 0)]).raise .cse (16 + p)
  else s

/-- Every swap that is due at a scene SOF (R180, R182): held back by a pending Change Set that selects the CSE. -/
def State.rpSwaps (s : State) : State :=
  if s.csHolds 3 then s else (List.range 8).foldl (fun s p => (s.rpTblSwap p).rpLutSwap p) s

/-- Start the fetch of a LUT: the copy names its region (R180). -/
def State.lutStart (s : State) (p : Nat) : State :=
  (s.setRp p (fun x => { x with heldLoad := false })).put (Reg.RP_LUT_STATUS_STATE p) 1

/-- LOAD (R180, R183). -/
def State.lutLoad (s : State) (p : Nat) : State :=
  let f : Fld := Reg.RP_LUT_CTL p
  if s.get (Reg.RP_LUT_STATUS_STATE p) ≠ 0 then s.refuse .cse 0x0313 f
  else if s.addr40 (Reg.RP_LUT_ADDR_LO p) (Reg.RP_LUT_ADDR_HI p) % 64 ≠ 0 then s.refuse .cse 0x0314 f
  else if s.rpRetained p true (1 - s.get (Reg.RP_LUT_STATUS_ACTIVE p)) then
    (s.setRp p (fun x => { x with heldLoad := true })).put (Reg.RP_LUT_STATUS_STATE p) 3
  else s.lutStart p

/-- The fetch ends: the inactive copy holds the LUT and is pending, or active at once while the CSE is idle. -/
def State.lutDone (s : State) (p : Nat) : State :=
  if s.get (Reg.RP_LUT_STATUS_STATE p) ≠ 1 then s
  else
    let a := s.addr40 (Reg.RP_LUT_ADDR_LO p) (Reg.RP_LUT_ADDR_HI p)
    let n := lutSide p
    let l : LutCopy := { addr := a, data := (List.range (n * n * n)).map (fun i => s.readLe (a + 8 * i) 8) }
    let s := (s.setRp p (fun x => { x with lut := updN x.lut (1 - s.get (Reg.RP_LUT_STATUS_ACTIVE p)) (fun _ => l) })).put (Reg.RP_LUT_STATUS_STATE p) 2
    if s.cseIdle then s.rpLutSwap p else s

/-- The table words of path p that a window offset of the CSE selects (Table RP-6): path and word. -/
def rpTblKey (ofs : Nat) : Nat × Nat :=
  if ofs < 0x20000 then ((ofs - 0x10000) / 0x1000, ofs % 0x1000 / 4 % 512)
  else ((ofs - 0x20000) / 0x8000, 512 + 1025 * (ofs % 0x8000 / 0x2000) + ofs % 0x2000 / 4)

/-- Defined bits of a table word. -/
def rpTblMask (k v : Nat) : Nat := if k < 512 then v % 2 ^ 32 else v % 2 ^ 17

/-- Store a word of the inactive copy. -/
def State.rpStoreWord (s : State) (p k v : Nat) : State :=
  let i := 1 - s.get (Reg.RP_TBL_STATUS_ACTIVE p)
  s.setRp p (fun x => { x with tbl := updN x.tbl i (fun m => SMap.setD m (rpTblReset k) k (rpTblMask k v)) })

/-- A write through a table window (R182, R183). -/
def State.rpTableWrite (s : State) (ofs : Nat) (v : Word) : State :=
  let (p, k) := rpTblKey ofs
  if s.get (Reg.RP_TBL_STATUS_STATE p) = 2 then s.refuse .cse 0x0313 ⟨0x300000 + ofs, 31, 0⟩
  else if s.get (Reg.RP_TBL_STATUS_STATE p) = 3 ∨ s.rpRetained p false (1 - s.get (Reg.RP_TBL_STATUS_ACTIVE p)) then
    (s.setRp p (fun x => { x with heldWrites := x.heldWrites ++ [(k, v.toNat)] })).put (Reg.RP_TBL_STATUS_STATE p) 3
  else s.rpStoreWord p k v.toNat

/-- A read through a table window: the copy that UNIT_VIEW selects (R182, R472). -/
def State.rpTableRead (s : State) (view : Bool) (ofs : Nat) : Nat :=
  let (p, k) := rpTblKey ofs
  let a := s.get (Reg.RP_TBL_STATUS_ACTIVE p)
  s.rpWord p (if view then 1 - a else a) k

/-- SWAP (R182, R175). -/
def State.rpRequestSwap (s : State) (p : Nat) : State :=
  if s.get (Reg.RP_TBL_STATUS_STATE p) ≠ 0 then s.refuse .cse 0x0313 (Reg.RP_TBL_CTL p)
  else if !s.rpSumsOk p (1 - s.get (Reg.RP_TBL_STATUS_ACTIVE p)) then s.refuse .cse 0x0312 (Reg.RP_TBL_CTL p)
  else
    let s := s.put (Reg.RP_TBL_STATUS_STATE p) 2
    if s.cseIdle then s.rpTblSwap p else s

/-- The retention of an inactive copy has ended: what it held proceeds (R183). -/
def State.rpHeldStart (s : State) (p : Nat) : State :=
  let s :=
    if (s.rp p).heldLoad && !s.rpRetained p true (1 - s.get (Reg.RP_LUT_STATUS_ACTIVE p)) then s.lutStart p else s
  if s.get (Reg.RP_TBL_STATUS_STATE p) = 3 ∧ !s.rpRetained p false (1 - s.get (Reg.RP_TBL_STATUS_ACTIVE p)) then
    let s := if (s.rp p).heldCopy then s.rpCopyTables p else s.put (Reg.RP_TBL_STATUS_STATE p) 0
    let w := (s.rp p).heldWrites
    w.foldl (fun s e => s.rpStoreWord p e.1 e.2) (s.setRp p (fun x => { x with heldWrites := [] }))
  else s

/-! ### Render path frames (R189, R192) -/

/-- A render path begins a frame: its ring slot and its buffer. -/
def State.rpBegin (s : State) (f : SceneFrame) (p : Nat) : State :=
  let paths := s.rpPaths p
  let n := (paths.findSome? (fun (b : Booking) => (f.tag.begun.find? (fun e => e.1 == b.path)).map (·.2))).getD f.tag.counter
  let count := s.bufCount .render p
  let slot := if count = 0 then 0 else n % count
  let buf := s.buf .render p slot
  let s := match buf with
    | some b => s.startBuffer b n (paths.filter (fun (b : Booking) => (f.tag.on b.path).isSome)).length
    | none => s
  let o : RenderOut := {
    tag := { f.tag with poison := [] }, slot := slot, base := buf.map (·.base), w := s.get (Reg.RP_OUT_SIZE_OW p), h := s.get (Reg.RP_OUT_SIZE_OH p),
    fmt := s.get (Reg.RP_ENC_CFG_FMT p), depth := s.get (Reg.RP_ENC_CFG_DEPTH p), matrix := s.get (Reg.RP_ENC_CFG_MATRIX p),
    range := s.get (Reg.RP_ENC_CFG_RANGE p), safe := s.get (Reg.RP_ENC_CFG_SDI_SAFE p),
    crop := (s.get (Reg.RP_CROP_XY_CX p), s.get (Reg.RP_CROP_XY_CY p), s.get (Reg.RP_CROP_WH_CW p), s.get (Reg.RP_CROP_WH_CH p)),
    gamut := s.get (Reg.RP_CFG_GAMUT p), transfer := s.get (Reg.RP_TF_CFG_TRANSFER p), ws := f.ws, done := false, doneAt := 0,
    tblCopy := s.get (Reg.RP_TBL_STATUS_ACTIVE p), lutCopy := s.get (Reg.RP_LUT_STATUS_ACTIVE p) }
  (s.setRp p (fun x => { x with
    frame := some { tag := f.tag, slot := slot, base := buf.map (·.base), next := 0, clamped := 0 }
    outs := (o :: x.outs.filter (fun o => o.slot != slot)).take (max count 1) })).put (Reg.RP_BUF_STATUS_COUNT p) count

/-- Rows of the scene in hand, as arrays. -/
def sceneRows (f : SceneFrame) : SMap (Array Pixel) := f.rows.map (fun r => (r.1, r.2.toArray))

/-- R′, G′, B′ of output row j. -/
def State.rpRow (s : State) (p : Nat) (f : SceneFrame) (j : Nat) : List (Fl × Fl × Fl) :=
  let copy := s.get (Reg.RP_TBL_STATUS_ACTIVE p)
  let lut := s.get (Reg.RP_LUT_STATUS_ACTIVE p)
  let m := s.rpMatrix p f.ws
  (s.rpScaleRow p copy (sceneRows f) (s.rpGeom p) j).map (s.rpPixel p copy lut m)

/-- Encode a list of values: codes, and how many were clamped. -/
def encodeList (n : Nat) (chroma narrow safe : Bool) (l : List Rat) : List Nat × Nat :=
  let c := l.map (encodeValue n chroma narrow safe)
  (c.map (·.1), (c.filter (·.2)).length)

/-- Write output row j of path p (R186 to R188). -/
def State.rpWriteRow (s : State) (p : Nat) (f : SceneFrame) (j : Nat) : State :=
  match (s.rp p).frame with
  | none => s
  | some x =>
    let fmt := s.get (Reg.RP_ENC_CFG_FMT p)
    let matrix := s.get (Reg.RP_ENC_CFG_MATRIX p)
    let n := depthBits (s.get (Reg.RP_ENC_CFG_DEPTH p))
    let narrow := s.flag (Reg.RP_ENC_CFG_RANGE p)
    let safe := s.flag (Reg.RP_ENC_CFG_SDI_SAFE p)
    let g := s.rpGeom p
    let stride := planeStride fmt g.ow
    let base := x.base.getD 0
    let px := s.rpRow p f j
    let rows : List (Nat × List Byte) × Nat :=
      if s.flag (Reg.RP_ENC_CFG_FLOAT p) then
        ([(base + j * stride, packRow 1 (px.map (fun v => (v.1.toHalf, v.2.1.toHalf, v.2.2.toHalf))))], 0)
      else
        let e := px.map (encodePixel matrix)
        let y := encodeList n false narrow safe (e.map (fun v => v.1))
        let cb := e.map (fun v => v.2.1)
        let cr := e.map (fun v => v.2.2)
        if fmt ≤ 1 then
          let b := encodeList n (matrix != 0) narrow safe cb
          let r := encodeList n (matrix != 0) narrow safe cr
          ([(base + j * stride, packRow fmt (y.1.zip (b.1.zip r.1)))], y.2 + b.2 + r.2)
        else if fmt = 2 then
          let b := encodeList n true narrow safe (subsample cb)
          let r := encodeList n true narrow safe (subsample cr)
          ([(base + j * stride, y.1.flatMap (leBytes 2)), (base + stride * (g.oh + j), cbcrBytes b.1 r.1)], y.2 + b.2 + r.2)
        else if j % 2 = 0 then ([(base + j * stride, y.1.flatMap (leBytes 2))], y.2)
        else
          let above := (s.rpRow p f (j - 1)).map (encodePixel matrix)
          let mean := fun (a b : List Rat) => (a.zip b).map (fun e => (e.1 + e.2) / 2)
          let b := encodeList n true narrow safe (mean (subsample (above.map (fun v => v.2.1))) (subsample cb))
          let r := encodeList n true narrow safe (mean (subsample (above.map (fun v => v.2.2))) (subsample cr))
          ([(base + j * stride, y.1.flatMap (leBytes 2)), (base + stride * (g.oh + j / 2), cbcrBytes b.1 r.1)], y.2 + b.2 + r.2)
    let s := if x.base.isSome then rows.1.foldl (fun s r => s.write r.1 r.2) s else s
    s.setRp p (fun y => { y with frame := y.frame.map (fun q => { q with next := j + 1, clamped := q.clamped + rows.2 }) })

/-- A code of a stored render frame (R192): component c of output pixel (x, y). -/
def State.rpCode (s : State) (o : RenderOut) (base c x y : Nat) : Nat :=
  let stride := planeStride o.fmt o.w
  match o.fmt with
  | 0 => bits (s.readLe (base + y * stride + 4 * x) 4) (10 * c + 9) (10 * c)
  | 1 => s.readLe (base + y * stride + 6 * x + 2 * c) 2
  | k =>
    if c = 0 then s.readLe (base + y * stride + 2 * x) 2
    else s.readLe (base + stride * (o.h + if k = 2 then y else y / 2) + x / 2 * 4 + 2 * (c - 1)) 2

/-- The bytes that RP_FRAME_CRC covers: each plane's rows in order, stride padding excluded. -/
def State.rpPlaneBytes (s : State) (o : RenderOut) (base : Nat) : List Byte :=
  let stride := planeStride o.fmt o.w
  let n := planeBytes o.fmt o.w
  let rows := o.h + if o.fmt = 2 then o.h else if o.fmt = 3 then o.h / 2 else 0
  (List.range rows).flatMap (fun y => s.read (base + y * stride) n)

/-- Statistics of a completed frame (R192). The mean has 8 fraction bits; which way an inexact mean is rounded, and the
values over an empty window, the spec does not say: free values. -/
def State.rpStats (s : State) (p : Nat) (o : RenderOut) (base clamped : Nat) : State :=
  let x0 := s.get (Reg.RP_STAT_WIN0_X p)
  let y0 := s.get (Reg.RP_STAT_WIN0_Y p)
  let x1 := min (s.get (Reg.RP_STAT_WIN1_X p)) (o.w - 1)
  let y1 := min (s.get (Reg.RP_STAT_WIN1_Y p)) (o.h - 1)
  let comp := s.get (Reg.RP_STAT_CFG_COMP p)
  let code := fun (x y : Nat) =>
    if comp < 3 then s.rpCode o base comp x y
    else max (max (s.rpCode o base 0 x y) (s.rpCode o base 1 x y)) (s.rpCode o base 2 x y)
  let l := (List.range (y1 + 1 - y0)).flatMap (fun j => (List.range (x1 + 1 - x0)).map (fun i => code (x0 + i) (y0 + j)))
  let s := s.gaugeAll 8 p (l.map (fun (c : Nat) => (c : Int)))
  let (v, s) := s.fresh
  let vals : Nat × Nat × Nat :=
    match l with
    | [] => (v % 65536, v / 65536 % 65536, v / 2 ^ 32 % 2 ^ 24)
    | a :: t =>
      let sum := 256 * sumN l
      (t.foldl min a, maxN l, sum / l.length + (if sum % l.length = 0 then 0 else v % 2))
  s.puts [(Reg.RP_STAT_MIN p, vals.1), (Reg.RP_STAT_MAX p, vals.2.1), (Reg.RP_STAT_MEAN p, vals.2.2), (Reg.RP_CNT_CLAMP p, sat32 clamped),
    (Reg.RP_FRAME_CRC p, crc32 (s.rpPlaneBytes o base))]

/-- Decimated samples that outputs [a, b) draw on with a non-zero tap. -/
def State.footprint (s : State) (p copy t n m a b : Nat) : List Nat :=
  dedup ((List.range (b - a)).flatMap (fun i =>
    let (k, ph) := tapBase n m (a + i)
    (List.range 8).filterMap (fun j => if s.rpCoef p copy t ph j = 0 then none else some (tapAt n k j))))

/-- Render tiles that draw on a poisoned scene tile (R189). -/
def State.renderPoison (s : State) (p : Nat) (o : RenderOut) (sceneW : Nat) (poison : List Nat) : List Nat :=
  if poison.isEmpty then []
  else
    let g := s.rpGeom p
    let across := ceilDiv o.w 256
    (List.range (tileCount o.w o.h)).filter (fun t =>
      let (tw, th) := tileSize o.w o.h t
      let xs := s.footprint p o.tblCopy 0 g.nx g.ow (t % across * 256) (t % across * 256 + tw)
      let ys := s.footprint p o.tblCopy 1 g.ny g.oh (t / across * 64) (t / across * 64 + th)
      ys.any (fun y => xs.any (fun x => (List.range g.dy).any (fun b => (List.range g.dx).any (fun a =>
        poison.contains (tileAt sceneW (g.cx + g.dx * x + a) (g.cy + g.dy * y + b)))))))

/-- A render path writes its last row (R189, R192). -/
def State.rpDone (s : State) (p : Nat) (f : SceneFrame) (poison : List Nat) (incomplete : Bool) : State :=
  match (s.rp p).frame, (s.rp p).outs.head? with
  | some (x : RpFrame), some (o : RenderOut) =>
    let tiles := s.renderPoison p o f.w poison
    let s := match x.base with
      | some b => s.rpStats p o b x.clamped
      | none => s
    let s := ((s.takeCse [Reg.RP_CNT_RP_PARITY p]).put (Reg.RP_BUF_STATUS_SLOT p) x.slot).bump (Reg.RP_FRAME_SEQ p)
    (s.setRp p (fun r => { r with
      frame := none
      outs := r.outs.map (fun q => if q.slot = x.slot then
        { q with done := true, doneAt := s.now, tag := { q.tag with incomplete := incomplete, poison := tiles } } else q) })).raise .cse (8 + p)
  | _, _ => s

/-- Write every output row of path p whose scene rows are in hand. -/
def State.rpAdvance (s : State) (p fuel : Nat) : State :=
  match fuel with
  | 0 => s
  | k + 1 =>
    match s.cse.scene, (s.rp p).frame with
    | some f, some x =>
      let g := s.rpGeom p
      if x.next < g.oh ∧ g.lastRow x.next < f.next then (s.rpWriteRow p f x.next).rpAdvance p k else s
    | _, _ => s

/-! ### Scene frames -/

/-- The oldest raw frame after the last one processed that a path through the scene section accepted (R145). -/
def State.nextScene (s : State) : Option RawOut :=
  let newer : List RawOut := match s.cse.last with
    | some l => s.rfe.outs.takeWhile (fun o => o.tag.seq != l.seq)
    | none => s.rfe.outs
  newer.reverse.find? (fun o => s.plan.bookings.any (fun b => b.units.contains 3 && (o.tag.on b.path).isSome))

/-- The frame number that motion field descriptors count in: that of the session's path. -/
def State.mfNumber (s : State) (tag : FrameTag) : Nat :=
  let ses := s.get Reg.CSE_TNR_CFG_MF_SESSION
  ((s.plan.bookings.find? (fun b => b.kind == 3 && b.idx == ses)).bind (fun b =>
    (tag.begun.find? (fun e => e.1 == b.path)).map (·.2))).getD tag.counter

/-- The descriptor with the largest FRAME of age 1 to MAX_AGE (R162). -/
def State.mfPick (s : State) (n : Nat) : Option MfDesc :=
  let ok := s.cse.mfs.filter (fun d => decide (d.frame + 1 ≤ n ∧ n ≤ d.frame + s.get Reg.CSE_TNR_CFG_MAX_AGE))
  ok.foldl (fun best d => match best with
    | none => some d
    | some b => if b.frame ≤ d.frame then some d else some b) none

/-- MF_STATE in MC mode without a descriptor that meets R162 (R164). -/
def State.mfCause (s : State) : Nat :=
  let ses := s.get Reg.CSE_TNR_CFG_MF_SESSION
  if !s.variant.has .pcd then 3
  else if !(s.enabled .pcd && s.flag (Reg.PCD_SES_CFG_EN ses)) then 4
  else 2

/-- Choose how the frame runs (R162, R164): mode, field and age, and MF_STATE. -/
def State.mfSelect (s : State) (tag : FrameTag) : Nat × Option MfDesc × Nat × State :=
  let mode := s.get Reg.CSE_TNR_CFG_MODE
  if mode ≠ 2 then (mode, none, 0, s.put Reg.CSE_TNR_STATUS_MF_STATE 0)
  else
    let n := s.mfNumber tag
    match if s.variant.has .pcd then s.mfPick n else none with
    | some d =>
      let s := s.setCse (fun c => { c with mfs := c.mfs.filter (fun e => decide (d.frame ≤ e.frame)) })
      (2, some d, n - d.frame, s.put Reg.CSE_TNR_STATUS_MF_STATE 1)
    | none =>
      let s := (s.put Reg.CSE_TNR_STATUS_MF_STATE s.mfCause).countCse Reg.CSE_CNT_MF_FALLBACK 1
      (1, none, 0, s.raise .cse 1)

/-- The history that the last frame left is valid for this frame (R157). -/
def State.histOk (s : State) (o : RawOut) (ws mode : Nat) : Bool :=
  match s.cse.last with
  | none => false
  | some l => !s.cse.histReset && (l.seq + 1) % 2 ^ 32 == o.tag.seq && l.w == o.w && l.h == o.h && l.ws == ws && l.mode != 0 &&
      mode != 0 && l.hist.isSome

/-- The scene SOF (R145): the boundary of the scene section and the render paths, then the frame's first read. -/
def State.sceneSof (s : State) : State :=
  if !s.on .cse ∨ s.cse.scene.isSome then s
  else
    match s.nextScene with
    | none => s
    | some o =>
      if o.written < min 4 o.h then s
      else
        let s := (s.boundary .scene o.tag.begun false).rpSwaps
        let ws := s.get Reg.CSE_SCN_CFG_WS
        let (mode, field, age, s) := s.mfSelect o.tag
        let valid := s.histOk o ws (s.get Reg.CSE_TNR_CFG_MODE)
        let count := s.bufCount .history 0
        let slot := if mode = 0 ∨ count = 0 then s.cse.histSlot else (s.cse.histSlot + 1) % count
        let out := if mode = 0 then none else s.buf .history 0 slot
        let s := match out with
          | some b => s.startBuffer b o.tag.counter 1
          | none => s
        let f : SceneFrame := {
          tag := o.tag, w := o.w, h := o.h, ws := ws, mode := mode, field := field, age := age, histValid := valid,
          histIn := if mode = 0 then none else s.cse.last.bind (·.hist), histOut := out.map (·.base), histLost := [], mfLost := [],
          next := 0, rows := [], takers := (List.range 8).filter (s.rpTakes o.tag) }
        let s := s.setCse (fun c => { c with scene := some f, histSlot := slot, histReset := false })
        let s := s.puts [(Reg.CSE_TNR_STATUS_HIST_VALID, b2n valid), (Reg.CSE_TNR_STATUS_AGE, age)]
        f.takers.foldl (fun s p => s.rpBegin f p) s

/-- The last beat of a frame is emitted (R145, Table CSE-10). -/
def State.sceneDone (s : State) (f : SceneFrame) (o : RawOut) : State :=
  let s := f.takers.foldl (fun s p => s.rpDone p f o.tag.poison o.tag.incomplete) s
  let s := ((s.takeCse cseCounters).bump Reg.CSE_FRAME_SEQ).raise .cse 0
  let s := match o.corr with
    | some b => s.releaseBuffer b
    | none => s
  let s := match f.histIn with
    | some b => s.releaseBuffer b
    | none => s
  s.setCse (fun c => { c with
    scene := none
    last := some { seq := o.tag.seq, w := f.w, h := f.h, ws := f.ws, mode := s.get Reg.CSE_TNR_CFG_MODE, hist := f.histOut } })

/-- The scene section reads and emits its next row (R29, R166): the render paths take it as it is presented (R28). -/
def State.sceneStep (s : State) : State :=
  match s.cse.scene with
  | none => s
  | some f =>
    match s.rawOut f.tag.seq with
    | none => s
    | some o =>
      let reach := sceneReach (bits o.cfg 27 26) (s.get Reg.CSE_SCN_CFG_DEMOSAIC)
      if !s.live .cse ∨ o.written < min (f.next + reach + 1) f.h then s
      else
        let y := f.next
        let (px, clamped) := s.sceneRow f o y
        let s := s.countCse Reg.CSE_CNT_MF_CLAMP clamped
        let s := match f.histOut with
          | some b => s.write (b + y * histStride f.w) (histBytes px)
          | none => s
        let f := { f with next := y + 1, rows := f.rows ++ [(y, px)] }
        let s := s.setCse (fun c => { c with scene := some f })
        let s := f.takers.foldl (fun s p => s.rpAdvance p 10369) s
        if f.next = f.h then s.sceneDone f o else s

/-- A motion field descriptor (Table CSE-6). -/
def mfDecode (b : List Byte) : MfDesc :=
  let g := fun (o n : Nat) => leVal (bytesAt b o n)
  { frame := g 0 6, dist := g 6 2, addr := g 8 5, valid := bitAt (g 13 1) 0, bx := g 16 2, by' := g 18 2, wo := g 20 2, ho := g 22 2,
    cx := g 24 2, cy := g 26 2, cw := g 28 2, ch := g 30 2, session := g 32 1 }

/-- A descriptor arrives on MF_QUEUE (R162, R168). -/
def State.mfReceive (s : State) : State :=
  let q := s.get Reg.CSE_TNR_CFG_MF_QUEUE
  if !s.on .cse ∨ s.get Reg.CSE_TNR_CFG_MODE ≠ 2 ∨ q = 0 then s
  else
    let (cells, s) := s.readItem q 4096
    match cells with
    | [] => s
    | c :: _ =>
      if itemPoison cells ≠ 0 then
        (s.countCse Reg.CSE_CNT_MF_DROP 1).logEvt .cse 0 0x82 0x02 0 q 0
      else s.setCse (fun x => { x with mfs := x.mfs ++ [mfDecode c.data] })

/-- CLR of CSE_TNR_CTL (R167): the scene section's counters. -/
def State.cseClr (s : State) : State := s.puts (cseCounters.map (fun f => (f, 0)))

/-- A parity error of a scene line buffer (R167). -/
def State.cseParity (s : State) (k : CseBuf) : State :=
  match s.cse.scene with
  | none => s
  | some f =>
    let s := ((s.countCse Reg.CSE_CNT_PARITY 1).raise .cse 2).logFree .cse 0 2 0x02 f.tag.counter
    match k with
    | .raw failed =>
      let s := s.countCse Reg.CSE_CNT_LB_REFILL 1
      failed.foldl (fun s t => (s.concealTile f.tag.seq 0 t failed .cse (some 4)).countCse Reg.CSE_CNT_CONCEAL 1) s
    | .history row x0 x1 => s.setCse (fun c => { c with scene := some { f with histLost := f.histLost ++ [(row, x0, x1)] } })
    | .demosaic => s

/-- A parity error of a render path buffer or table (R190): the word is reloaded and the tiles recomputed. -/
def State.rpParity (s : State) (p : Nat) : State :=
  ((s.countCse (Reg.RP_CNT_RP_PARITY p) 1).raise .cse 24).logFree .cse p 24 0x02 (((s.rp p).outs.head?.map (·.tag.counter)).getD 0)

/-- The CSE is enabled: frames already in the raw buffers are not processed, and the history is invalid (R24, R157). -/
def State.cseEnabled (s : State) : State :=
  s.setCse (fun c => { c with
    scene := none
    mfs := []
    last := s.rfe.outs.head?.map (fun o => { seq := o.tag.seq, w := 0, h := 0, ws := 0, mode := 0, hist := none }) })

/-! ### The commands -/

def execSceneSof (t : Nat) (s : State) : Res := .next (s.tick t).sceneSof
def execSceneRow (t : Nat) (s : State) : Res := .next (s.tick t).sceneStep
def execMfDescriptorReceive (t : Nat) (s : State) : Res := .next (s.tick t).mfReceive
def execHistReset (t : Nat) (s : State) : Res :=
  .next ((s.tick t).cmd .cse true Reg.CSE_TNR_CTL 1 (fun s => s.setCse (fun c => { c with histReset := true })))
def execCseClr (t : Nat) (s : State) : Res := .next ((s.tick t).cmd .cse true Reg.CSE_TNR_CTL 2 (fun s => s.cseClr))
def execCseParity (t : Nat) (k : CseBuf) (s : State) : Res := .next ((s.tick t).cseParity k)
def execLutLoad (t p : Nat) (s : State) : Res := 
  .next ((s.tick t).cmd .cse (decide (p < s.variant.renderPaths)) (Reg.RP_LUT_CTL p) 1 (fun s => s.lutLoad p))
def execLutFetchDone (t p : Nat) (s : State) : Res := .next ((s.tick t).lutDone p)
def execRpTableSwap (t p : Nat) (s : State) : Res := 
  .next ((s.tick t).cmd .cse (decide (p < s.variant.renderPaths)) (Reg.RP_TBL_CTL p) 1 (fun s => s.rpRequestSwap p))
def execRpHeldLoadStart (t p : Nat) (s : State) : Res := .next ((s.tick t).rpHeldStart p)
def execRpParity (t p : Nat) (s : State) : Res := .next ((s.tick t).rpParity p)

end Sys2Proof.Machine
end

