-- ==== Sys2Proof/Machine/Rtu.lean ====
section
/-!
DEFINITION. The Reference and Time Unit: reference edges, lock states, rate changes, PTP, time of day and LTC
(12_reference_and_time.md, R309 to R327).
-/

namespace Sys2Proof.Machine

/-- Change the unit's state. -/
def State.setRtu (s : State) (f : RtuSt → RtuSt) : State := { s with rtu := f s.rtu }

/-- STATE of the media clock: 0 FREE, 1 ACQUIRING, 2 LOCKING, 3 LOCKED, 4 HOLDOVER. -/
def State.rtuState (s : State) : Nat := s.get Reg.RTU_STATUS_STATE

/-- The reference selected (Table RTU-1). -/
def State.rtuSrc (s : State) : Nat := s.get Reg.RTU_REF_CFG_SRC

/-- Signed RTU_FREQ. -/
def State.rtuFreq (s : State) : Int := toSigned 32 (s.get Reg.RTU_FREQ)

/-! ### Frequency and states (R312 to R314) -/

/-- End the spell of the frequency in force in LOCKED. -/
def State.endSpell (s : State) : State :=
  if s.rtuState = 3 then
    let f := s.rtuFreq
    s.setRtu (fun r => { r with spells := ((s.now - r.spellFrom, f) :: r.spells).take 65536, spellFrom := s.now })
  else s

/-- Weighted sum and weight of spells, newest first, over a number of cycles. -/
def spellSum (left : Nat) : List (Nat × Int) → Int × Nat
  | [] => (0, 0)
  | (n, f) :: t =>
    let k := min n left
    let r := spellSum (left - k) t
    (r.1 + k * f, r.2 + k)

/-- The holdover value (R314): the mean over the last 16 s in LOCKED, reached within ±2 ppb; the frequency in force where
the clock never was LOCKED. -/
def State.holdoverValue (s : State) : Int × State :=
  let r := spellSum 6400000000 s.rtu.spells
  if r.2 = 0 then (s.rtuFreq, s)
  else
    let (v, s) := s.fresh
    (roundDivI r.1 r.2 + (v % 263 : Nat) - 131, s)

/-- Change STATE (Table RTU-7, R468). -/
def State.setRtuState (s : State) (st : Nat) : State :=
  if s.rtuState = st then s
  else
    let s := s.endSpell
    ((((s.put Reg.RTU_STATUS_STATE st).setRtu (fun r => { r with good := 0, bad := 0, spellFrom := s.now, slewAt := s.now })).raise .rtu 0)).gpioSync

/-- The media clock enters HOLDOVER (R314). -/
def State.enterHoldover (s : State) : State :=
  if s.rtuState = 4 then s
  else
    let (h, s) := s.endSpell.holdoverValue
    (s.setRtu (fun r => { r with holdover := some h })).setRtuState 4

/-- A loss of the reference (R312): counted, logged, and HOLDOVER. -/
def State.refLost (s : State) : State :=
  if s.rtuState = 2 ∨ s.rtuState = 3 then
    ((s.count Reg.RTU_CNT_HOLDOVER 1).enterHoldover).logFree .rtu 0 0 0x05 0
  else s

/-- A glitch (R312). -/
def State.glitch (s : State) : State := ((s.count Reg.RTU_CNT_GLITCH 1).raise .rtu 3).logFree .rtu 0 3 0x05 0

/-- The servo sets the frequency (R310, R313): a free value within ±200 ppm of nominal, within PULL_MAX of the holdover
value, and no further from the frequency in force than SLEW allows since it was set. -/
def State.servo (s : State) : State :=
  let f := s.rtuFreq
  let slew : Int := s.get Reg.RTU_REF_CFG_SLEW * 65536 * (s.now - s.rtu.slewAt) / 400000000
  let lim : Int := 200 * 65536
  let pull : Int := s.get Reg.RTU_REF_CFG_PULL_MAX * 65536
  let h := s.rtu.holdover.getD f
  let lo := max (max (f - slew) (h - pull)) (Int.neg lim)
  let hi := min (min (f + slew) (h + pull)) lim
  let (v, s) := s.fresh
  let g := if hi < lo then toward f h slew else lo + (v % ((hi - lo).toNat + 1) : Nat)
  let s := s.endSpell
  (s.setRtu (fun r => { r with slewAt := s.now })).puts
    [(Reg.RTU_FREQ, ofSigned 32 g), (Reg.RTU_STATUS_FREQ_LIMIT, b2n (decide (lim ≤ g ∨ g ≤ Int.neg lim)))]

/-- An accepted update of a phase error (R313). -/
def State.rtuUpdate (s : State) (err : Int) : State :=
  let s := s.put Reg.RTU_PHASE_ERR (ofSigned 32 err)
  let thr := s.get Reg.RTU_LOCK_THR_NS
  let s := if s.rtuState = 1 ∨ s.rtuState = 4 then s.setRtuState 2 else s
  let s := s.setRtu (fun r => { r with good := if err.natAbs ≤ thr then r.good + 1 else 0
                                       bad := if 4 * thr < err.natAbs then r.bad + 1 else 0 })
  let s := s.servo
  if s.rtuState = 2 ∧ 16 ≤ s.rtu.good then s.setRtuState 3
  else if s.rtuState = 3 ∧ 4 ≤ s.rtu.bad then s.setRtuState 2
  else s

/-- Time is established (R317). -/
def State.establish (s : State) : State :=
  if s.established then s else (s.put Reg.RTU_STATUS_ESTABLISHED 1).raise .rtu 4

/-! ### Grids and anchors (R316, R319) -/

/-- A grid user is enabled: links 0, 1; decode sessions 4, 5; FIELD generators 8 + t. -/
def State.gridUserOn (s : State) (u : Nat) : Bool :=
  if u < 2 then s.enabled .slr && s.linkUsed u
  else if u < 6 then s.enabled .pcd && s.flag (Reg.PCD_DEC_CFG_EN (u - 4))
  else s.enabled .ore && s.flag (Reg.ORE_TG_CFG_EN (u - 8)) && s.get (Reg.ORE_TG_CFG_SRC_KIND (u - 8)) == 3

/-- The users of grids that are enabled. -/
def State.gridUsers (s : State) : List Nat := [0, 1, 4, 5, 8, 9, 10, 11, 12, 13, 14, 15].filter s.gridUserOn

/-- A sensor link, timing generator or decode session is enabled (R324). -/
def State.timeUsers (s : State) : Bool :=
  !s.gridUsers.isEmpty || (s.enabled .ore && (List.range 8).any (fun t => s.flag (Reg.ORE_TG_CFG_EN t)))

/-- A user that is not enabled keeps no grid: it takes the system anchor when it is enabled (R316). -/
def State.pruneGrids (s : State) : State := s.setRtu (fun r => { r with grids := SMap.keep r.grids s.gridUserOn })

/-- Set the system anchor; the users that run keep theirs (R316). -/
def State.setAnchor (s : State) (a : Int) : State :=
  let s := s.pruneGrids
  let keep := s.gridUsers.map (fun u => (u, s.userGrids u))
  let s := if s.established then s.setRtu (fun r => { r with grids := keep.foldl (fun m e => SMap.insert m e.1 e.2) r.grids }) else s
  s.putTime Reg.RTU_ANCHOR_S_HI_V Reg.RTU_ANCHOR_S_LO Reg.RTU_ANCHOR_NS a.toNat

/-- The grid of a generator's source changes with the reference. -/
def State.tgFollows (s : State) (t : Nat) : Bool :=
  let i := s.get (Reg.ORE_TG_CFG_SRC_INDEX t)
  let on := fun (u : Nat) => bitAt (s.get Reg.RTU_FOLLOW_V) (followBit u)
  match s.get (Reg.ORE_TG_CFG_SRC_KIND t) with
  | 0 => on s.rfeLink
  | 1 => on i
  | 3 => on (8 + t)
  | _ => false

/-- Adoption of rate code c at declaring edge e (R319). -/
def State.adoptRate (s : State) (c e : Nat) : State :=
  let s := s.setAnchor ((e : Int) - toSigned 32 (s.get Reg.RTU_REF_OFS))
  let s := s.puts [(Reg.RTU_STATUS_ACTIVE_RATE, c), (Reg.RTU_STATUS_RATE_CHANGED, 0)]
  let s := s.gridUsers.foldl (fun s u =>
    if bitAt (s.get Reg.RTU_FOLLOW_V) (followBit u) then
      let g := s.userGrid u e
      let r := s.followRate u c
      let n : UserGrid := { now := g, next := some ((g.after e).toNat, { anchor := s.anchorNs, num := r.1, den := r.2 }) }
      if g.num = 0 then s else s.setRtu (fun x => { x with grids := SMap.insert x.grids u n })
    else s) s
  let s := (List.range 8).foldl (fun s t =>
    if s.enabled .ore && s.flag (Reg.ORE_TG_CFG_EN t) && s.tgFollows t then
      { s with ore := { s.ore with tgs := updN s.ore.tgs t (fun x => { x with changeover := true }) } }
    else s) s
  (s.setRtu (fun r => { r with edge := some e, good := 0, bad := 0, outside := [] })).raise .rtu 2

/-! ### Reference edges (R312, R318) -/

/-- Expected period of the reference as numerator and denominator in ns; none for a source without edges. -/
def State.refPeriod (s : State) : Option (Nat × Nat) :=
  let pos := fun (n d : Nat) => if n = 0 ∨ d = 0 then none else some (n, d)
  match s.rtuSrc with
  | 1 => let r := s.refRate (s.get Reg.RTU_STATUS_ACTIVE_RATE); pos (r.2 * 1000000000) r.1
  | 2 => pos (s.get Reg.RTU_REF_CLK_DIV_DIV * 1000000000) (s.get Reg.RTU_REF_CLK_HZ)
  | 3 => some (([(1000000000, 24), (1000000000, 25), (1000000000, 30), (1001000000, 30)] : List (Nat × Nat)).getD
      (s.get Reg.RTU_LTC_IN_STATUS_RATE) (1000000000, 30))
  | _ => none

/-- The prediction whose window edge e falls nearest below or in: its number k from the last accepted edge E. The window
of prediction E + k·P ends at E + k·P + P ÷ 50. -/
def predNumber (p : Nat × Nat) (d : Nat) : Nat := max 1 ((50 * d * p.2 - p.1 + 50 * p.1 - 1) / (50 * p.1))

/-- The edge lies within ±0.02 P of prediction k. -/
def inWindow (p : Nat × Nat) (d k : Nat) : Bool :=
  decide (p.1 * (50 * k - 1) ≤ 50 * d * p.2 ∧ 50 * d * p.2 ≤ p.1 * (50 * k + 1))

/-- A candidate's period matches an interval within ±0.05 % (R318). -/
def rateMatches (r : Nat × Nat) (d : Nat) : Bool :=
  let p := r.2 * 1000000000
  decide (r.1 ≠ 0 ∧ 2000 * (max (d * r.1) p - min (d * r.1) p) ≤ p)

/-- The third consecutive edge outside its window declares a rate change (R318). `o` are the three edges, newest
first. -/
def State.declareRate (s : State) (e3 e2 e1 : Nat) : State :=
  let s := ((s.count Reg.RTU_CNT_RATE_CHANGE 1).enterHoldover).setRtu (fun r => { r with outside := [] })
  let now := s.get Reg.RTU_STATUS_ACTIVE_RATE
  let cand := ([0, 1, 2, 3] : List Nat).filter (fun c => c != now && rateMatches (s.refRate c) (e3 - e2) && rateMatches (s.refRate c) (e2 - e1))
  match (if s.rtuSrc = 2 then none else cand.head?) with
  | some c => (s.adoptRate c e3).logFree .rtu 0 2 0x05 0
  | none => ((s.put Reg.RTU_STATUS_RATE_CHANGED 1).raise .rtu 1).logFree .rtu 0 1 0x05 0

/-- The phase error of an edge (R313, R316): against the grid at the rate in force plus REF_OFS, or against the
prediction where the source gives frequency alone. -/
def State.edgeError (s : State) (p : Nat × Nat) (e k : Nat) : Int :=
  if s.rtuSrc = 2 then (e : Int) - s.rtu.edge.getD e - (roundDiv (k * p.1) p.2 : Nat)
  else
    let g : Grid := { anchor := s.anchorNs + toSigned 32 (s.get Reg.RTU_REF_OFS), num := p.2 * 1000000000, den := p.1 }
    (e : Int) - g.inst (g.nearest e)

/-- A reference edge arrives. -/
def State.refEdge (s : State) (src : Nat) : State :=
  if !s.on .rtu ∨ src ≠ s.rtuSrc then s
  else
    match s.refPeriod with
    | none => s
    | some p =>
      let e := s.mediaNs
      match s.rtu.edge with
      | none =>
        -- the first edge: the anchor (R316) and time (R317)
        let s := if s.rtu.anchored ∨ src = 2 then s
          else (s.setAnchor ((e : Int) - toSigned 32 (s.get Reg.RTU_REF_OFS))).setRtu (fun r => { r with anchored := true })
        let s := s.establish
        let err := s.edgeError p e 0
        (s.setRtu (fun r => { r with edge := some e, outside := [] })).rtuUpdate err
      | some b =>
        let d := e - b
        let k := predNumber p d
        if inWindow p d k then
          let err := s.edgeError p e k
          (s.setRtu (fun r => { r with edge := some e, outside := [] })).rtuUpdate err
        else
          let s := s.glitch
          match s.rtu.outside with
          | e2 :: e1 :: _ => s.declareRate e e2 e1
          | l => s.setRtu (fun r => { r with outside := e :: l })

/-- 1.5 P have passed since the last accepted edge (R312). -/
def State.refTimeout (s : State) : State :=
  match s.refPeriod, s.rtu.edge with
  | some p, some b => if s.on .rtu ∧ 3 * p.1 ≤ 2 * (s.mediaNs - b) * p.2 then s.refLost else s
  | _, _ => s

/-! ### Selecting the reference (R311, R322, R324) -/

/-- Reason code of a write to RTU_REF_CFG, if it is refused. -/
def State.refCfgRefusal (s : State) (v : Nat) : Option Nat :=
  let src := bits v 3 0
  if 4 < src ∨ bits v 30 24 = 0 ∨ 100 < bits v 30 24 ∨ bits v 23 20 = 0 ∨ 10 < bits v 23 20 ∨ bits v 19 16 < 2 then some 0x0801
  else if bitAt v 6 ∧ (src = 0 ∨ src = 4) then some 0x0805
  else if src ≠ s.rtuSrc ∧ src = 4 ∧ s.established ∧ !s.rtu.stepped ∧ s.timeUsers then some 0x0803
  else none

/-- The offset of a PTP slot, its domain time minus media time. -/
def State.ptpOfs (s : State) (d : Nat) : Int := toSigned 64 (s.get (Reg.RTU_PTP_OFS_LO d) + 2 ^ 32 * s.get (Reg.RTU_PTP_OFS_HI d))

/-- Store it. -/
def State.putPtpOfs (s : State) (d : Nat) (v : Int) : State :=
  let n := ofSigned 64 v
  s.puts [(Reg.RTU_PTP_OFS_LO d, n % 2 ^ 32), (Reg.RTU_PTP_OFS_HI d, n / 2 ^ 32)]

/-- A PTP slot. -/
def State.ptpSlot (s : State) (d : Nat) : PtpSlot := getN s.rtu.slots d { masters := [], selected := none, updates := 0 }

/-- Replace a slot. -/
def State.setSlot (s : State) (d : Nat) (f : PtpSlot → PtpSlot) : State := s.setRtu (fun r => { r with slots := updN r.slots d f })

/-- SRC has changed (R311, R316, R317, Table RTU-2). -/
def State.srcChanged (s : State) : State :=
  let src := s.rtuSrc
  let s := (s.put Reg.RTU_STATUS_RATE_CHANGED 0).setRtu (fun r => { r with edge := none, outside := [], anchored := false })
  let s := if src = 1 ∨ src = 3 then s else s.setAnchor 0
  let s :=
    if src = 0 then (s.setRtuState 0).put Reg.RTU_FREQ 0
    else if s.rtuState = 2 ∨ s.rtuState = 3 then s.enterHoldover
    else if s.rtuState = 0 then s.setRtuState 1
    else s
  if src = 0 ∨ src = 2 then s.establish else s

/-- PTP_ACTIVE has changed while SRC is PTP: the other slot steers at once, without a step (R322). -/
def State.ptpSwitched (s : State) : State :=
  let d := s.get Reg.RTU_REF_CFG_PTP_ACTIVE
  if s.rtuSrc ≠ 4 ∨ !s.rtu.stepped then s
  else if (s.ptpSlot d).selected.isNone then s.enterHoldover
  else if (s.ptpOfs d).natAbs ≤ s.get Reg.RTU_LOCK_THR_NS ∧ 16 ≤ (s.ptpSlot d).updates then s.setRtuState 3
  else s.setRtuState 2

/-- A write to RTU_REF_CFG: it takes effect when it completes. -/
def State.refCfgWrite (s : State) (v : Word) : State :=
  match s.refCfgRefusal v.toNat with
  | some c => s.refuse .rtu c Reg.RTU_REF_CFG
  | none =>
    let src := s.rtuSrc
    let act := s.get Reg.RTU_REF_CFG_PTP_ACTIVE
    let s := s.setReg Reg.RTU_REF_CFG.ofs (v &&& 0x7FFF01FF)
    if !s.enabled .rtu then s
    else if s.rtuSrc ≠ src then s.srcChanged
    else if s.get Reg.RTU_REF_CFG_PTP_ACTIVE ≠ act then s.ptpSwitched
    else s

/-! ### PTP (R321 to R323) -/

/-- A slot listens: it starts when EN sets (Table RTU-6). -/
def State.slotState (s : State) (d st : Nat) : State := s.put (Reg.RTU_PTP_STATUS_STATE d) st

/-- A port an Ethernet slot may listen on is present and its MODE is not off. -/
def State.ethOn (s : State) (p : Nat) : Bool := decide (p < s.variant.ethPorts) && s.get (Reg.ORE_ETH_CFG_MODE p) != 0

/-- A write to RTU_PTP_CFG(d) (R321). -/
def State.ptpCfgWrite (s : State) (d : Nat) (v : Word) : State :=
  let n := v.toNat
  let en := bitAt n 31
  let bad := decide (127 < bits n 23 16) || decide (0 < toSigned 4 (bits n 15 12) ∨ toSigned 4 (bits n 15 12) < -7) ||
    (en && ((bitAt n 29 && !s.ethOn 0) || (bitAt n 30 && !s.ethOn 1) ||
      (s.flag (Reg.RTU_PTP_CFG_EN (1 - d)) && s.get (Reg.RTU_PTP_CFG_DOMAIN (1 - d)) == bits n 23 16)))
  if bad then s.refuse .rtu 0x0804 (Reg.RTU_PTP_CFG d)
  else
    let was := s.flag (Reg.RTU_PTP_CFG_EN d)
    let s := s.setReg (Reg.RTU_PTP_CFG d).ofs (v &&& 0xF0FFF000)
    if en = was then s
    else
      (s.setSlot d (fun _ => { masters := [], selected := none, updates := 0 })).put (Reg.RTU_PTP_STATUS d)
        (if en && s.enabled .rtu then 2 ^ 29 else 0)

/-- Media time moves by an offset (R324): predictions and the other domain's offset move with it. -/
def State.stepTime (s : State) (by' : Int) : State :=
  let shift := fun (t : Nat) => ((t : Int) + by').toNat
  let s := { s with media := ((s.media : Int) + by' * (mediaUnit : Nat)).toNat }
  let s := s.setRtu (fun r => { r with edge := r.edge.map shift, outside := r.outside.map shift })
  let s := (List.range 2).foldl (fun s d => if s.flag (Reg.RTU_PTP_STATUS_OFS_VALID d) then s.putPtpOfs d (s.ptpOfs d - by') else s) s
  s.raise .rtu 4

/-- A Sync of a slot's selected master (R312, R313, R321, R324): the offset, the servo's prediction of it, the mean path
delay and the frequency ratio as the slot's servo measures them. -/
def State.ptpSync (s : State) (d : Nat) (ofs pred : Int) (mpd : Nat) (freq : Int) : State :=
  if !s.on .rtu ∨ !s.flag (Reg.RTU_PTP_CFG_EN d) ∨ (s.ptpSlot d).selected.isNone then s
  else
    let active : Bool := s.rtuSrc == 4 && s.get Reg.RTU_REF_CFG_PTP_ACTIVE == d
    if active && s.rtu.stepped && decide (10000 < (ofs - pred).natAbs) then s.glitch
    else
      let s := (s.setSlot d (fun x => { x with updates := x.updates + 1 })).puts
        [(Reg.RTU_PTP_STATUS_OFS_VALID d, 1), (Reg.RTU_PTP_STATUS_STATE d, 3), (Reg.RTU_PTP_MPD d, mpd),
         (Reg.RTU_PTP_FREQ d, ofSigned 32 freq)]
      let s := s.putPtpOfs d ofs
      if !active then s
      else if !s.rtu.stepped then
        let s := ((s.stepTime ofs).setRtu (fun r => { r with stepped := true }))
        (s.put Reg.RTU_STATUS_ESTABLISHED 1).rtuUpdate 0
      else s.rtuUpdate ofs

/-- Lexicographic order of what the BMCA compares. -/
def rankLt : List Nat → List Nat → Bool
  | [], _ :: _ => true
  | a :: s, b :: t => decide (a < b) || (a == b && rankLt s t)
  | _, [] => false

/-- The best of a slot's masters. -/
def bestMaster (l : List PtpMaster) : Option PtpMaster :=
  l.foldl (fun b m => match b with
    | none => some m
    | some x => if rankLt m.rank x.rank then some m else some x) none

/-- A slot selects its best master (R321, Table RTU-7). -/
def State.selectMaster (s : State) (d : Nat) : State :=
  let x := s.ptpSlot d
  let m := bestMaster x.masters
  if m.map (fun m => (m.identity, m.port)) = x.selected.map (fun m => (m.identity, m.port)) then s.setSlot d (fun x => { x with selected := m })
  else
    let s := s.setSlot d (fun x => { x with selected := m, updates := 0 })
    let id := (m.map (·.identity)).getD 0
    (s.puts [(Reg.RTU_PTP_STATUS d, (if m.isSome then 2 else 1) * 2 ^ 29 + (m.map (fun m => m.port % 2)).getD 0),
      (Reg.RTU_PTP_GM_HI d, id / 2 ^ 32), (Reg.RTU_PTP_GM_LO d, id % 2 ^ 32)]).raise .rtu 7

/-- An Announce message reaches a slot on a port it listens on. -/
def State.ptpAnnounce (s : State) (d : Nat) (m : PtpMaster) : State :=
  let listens := if m.port = 0 then s.flag (Reg.RTU_PTP_CFG_ETH0 d) else s.flag (Reg.RTU_PTP_CFG_ETH1 d)
  if !s.on .rtu ∨ !s.flag (Reg.RTU_PTP_CFG_EN d) ∨ !listens then s
  else (s.setSlot d (fun x => { x with
    masters := m :: x.masters.filter (fun y => (y.identity, y.port) != (m.identity, m.port)) })).selectMaster d

/-- SYNC_LOSS Syncs in a row are missing, or the announce receipt timeout of the selected master expires (R312). -/
def State.ptpLoss (s : State) (d : Nat) (announce : Bool) : State :=
  if !s.on .rtu ∨ !s.flag (Reg.RTU_PTP_CFG_EN d) then s
  else
    let active : Bool := s.rtuSrc == 4 && s.get Reg.RTU_REF_CFG_PTP_ACTIVE == d
    let s :=
      if announce then
        (s.setSlot d (fun x => { x with
          masters := x.masters.filter (fun (y : PtpMaster) => some (y.identity, y.port) != x.selected.map (fun (m : PtpMaster) => (m.identity, m.port))) })).selectMaster d
      else (s.count (Reg.RTU_CNT_SYNC_MISS d) (s.get Reg.RTU_REF_CFG_SYNC_LOSS)).setSlot d (fun x => { x with updates := 0 })
    if active then s.refLost else s

/-- The head of a stamp FIFO in its registers. -/
def State.tsShow (s : State) (p : Nat) : State :=
  let l := getN s.rtu.fifos p []
  let s := s.put (Reg.RTU_TS_STATUS_ENTRIES p) l.length
  match l with
  | [] => s
  | x :: _ => (s.putTime (Reg.RTU_TS_S_HI_V p) (Reg.RTU_TS_S_LO p) (Reg.RTU_TS_NS p) x.ns).put (Reg.RTU_TS_TAG p) (b2n x.tx * 2 ^ 31 + x.tag % 2 ^ 16)

/-- A MAC's event-message interrupt latches media time (R323). -/
def State.ptpStamp (s : State) (p : Nat) (tx : Bool) (tag : Nat) : State :=
  if !s.on .rtu ∨ s.variant.ethPorts ≤ p then s
  else
    let l := getN s.rtu.fifos p []
    if 16 ≤ l.length then
      (s.put (Reg.RTU_TS_STATUS_DROPPED p) (min 65535 (s.get (Reg.RTU_TS_STATUS_DROPPED p) + 1))).raise .rtu 6
    else
      let s := (s.setRtu (fun r => { r with fifos := updN r.fifos p (fun l => l ++ [{ ns := s.mediaNs, tx := tx, tag := tag }]) })).tsShow p
      if l.isEmpty then s.raise .rtu 5 else s

/-- RTU_TS_POP (R323). -/
def State.tsPop (s : State) (p : Nat) : State := (s.setRtu (fun r => { r with fifos := updN r.fifos p List.tail })).tsShow p

/-- ETH_EVT_LAT of a port's mode (Table RTU-5): receive and transmit. -/
def State.ethLat (s : State) (p : Nat) : Nat × Nat :=
  match s.get (Reg.ORE_ETH_CFG_MODE p), s.flag (Reg.ORE_ETH_CFG_RS_FEC p) with
  | 1, _ => (118, 92)
  | 2, false => (64, 51)
  | 2, true => (212, 176)
  | _, _ => (0, 0)

/-! ### Time of day (R324) -/

/-- SNAP of RTU_TIME_CTL. -/
def State.snapTime (s : State) : State :=
  s.putTime Reg.RTU_TIME_SNAP_S_HI_V Reg.RTU_TIME_SNAP_S_LO Reg.RTU_TIME_SNAP_NS s.mediaNs

/-- SET of RTU_TIME_CTL. -/
def State.setTime (s : State) : State :=
  if 1000000000 ≤ s.get Reg.RTU_TIME_SET_NS then s.refuse .rtu 0x0801 Reg.RTU_TIME_SET_NS
  else if s.timeUsers then s.refuse .rtu 0x0803 Reg.RTU_TIME_CTL
  else
    let v := s.getTime Reg.RTU_TIME_SET_S_HI_V Reg.RTU_TIME_SET_S_LO Reg.RTU_TIME_SET_NS
    s.stepTime ((v : Int) - s.mediaNs)

/-! ### LTC (R324, R326, R327) -/

/-- Rate of an LTC rate code. -/
def ltcRate (c : Nat) : Nat × Nat := ([(24, 1), (25, 1), (30, 1), (30000, 1001)] : List (Nat × Nat)).getD c (30, 1)

/-- A number as two BCD digits. -/
def bcd (n : Nat) : Nat := n / 10 % 10 * 16 + n % 10

/-- Frames since midnight of a time code at b frames per second. -/
def tcFrames (h m sec f b : Nat) (drop : Bool) : Nat :=
  let n := ((h * 60 + m) * 60 + sec) * b + f
  if drop then n - 2 * ((h * 60 + m) - (h * 60 + m) / 10) else n

/-- A frame of LTC_IN: time code, drop flag, rate code, and the media time at which it started (R326); a jam (R324). -/
def State.ltcIn (s : State) (good : Bool) (h m sec f : Nat) (drop : Bool) (rate start : Nat) : State :=
  if !s.on .rtu then s
  else
    let was := s.get Reg.RTU_LTC_IN_STATUS_STATE
    let st := if good then 1 else 2
    let s := s.put Reg.RTU_LTC_IN_STATUS_STATE st
    let s := if st = was then s else s.raise .rtu 8
    if !good then s.count Reg.RTU_CNT_LTC_ERR 1
    else
      let s := s.puts [(Reg.RTU_LTC_IN_TC, bcd h * 2 ^ 24 + bcd m * 2 ^ 16 + bcd sec * 2 ^ 8 + bcd f), (Reg.RTU_LTC_IN_STATUS_DROP, b2n drop),
        (Reg.RTU_LTC_IN_STATUS_RATE, rate)]
      if !s.flag Reg.RTU_REF_CFG_LTC_JAM ∨ s.rtu.jammed ∨ s.rtuSrc = 0 ∨ s.rtuSrc = 4 then s
      else if s.timeUsers then s.refuse .rtu 0x0803 Reg.RTU_REF_CFG
      else
        let r := ltcRate rate
        let n := tcFrames h m sec f (ceilDiv r.1 r.2) drop
        let v : Int := (s.get Reg.RTU_DATE_DAYS * 86400 - s.tcOfs) * 1000000000 + (roundDiv (n * r.2 * 1000000000) r.1 : Nat)
        (s.setRtu (fun x => { x with jammed := true })).stepTime (v - start)

/-- The 80 bits of an LTC frame, in transmission order (SMPTE ST 12-1, as the family lays them out): time code digits,
user bits, flags, and the sync word. -/
def ltcBits (t : TimeCode) (ub : Nat) (b25 : Bool) : List Bool :=
  let d := fun (n v : Nat) => lsbBits n v
  let u := fun (i : Nat) => lsbBits 4 (ub / 16 ^ i)
  let body := fun (pol : Bool) =>
    d 4 (t.f % 10) ++ u 0 ++ d 2 (t.f / 10) ++ [t.drop, false] ++ u 1 ++
    d 4 (t.s % 10) ++ u 2 ++ d 3 (t.s / 10) ++ [if b25 then t.pair else pol] ++ u 3 ++
    d 4 (t.m % 10) ++ u 4 ++ d 3 (t.m / 10) ++ [false] ++ u 5 ++
    d 4 (t.h % 10) ++ u 6 ++ d 2 (t.h / 10) ++ [false, if b25 then pol else false] ++ u 7 ++
    lsbBits 16 0xBFFC
  let zeroCount := ((body false).filter (fun x => !x)).length
  body (zeroCount % 2 == 1)

/-- LTC_OUT starts a frame at an instant of its grid (R327). -/
def State.ltcOut (s : State) : State :=
  if !s.on .rtu ∨ !s.flag Reg.RTU_LTC_OUT_CFG_EN ∨ !s.established then s
  else
    let c := s.get Reg.RTU_LTC_OUT_CFG_RATE
    let r := ltcRate c
    let g : Grid := { anchor := s.anchorNs, num := r.1, den := r.2 }
    s.out (.ltc (ltcBits (s.timeCode g (g.inst (g.nearest s.mediaNs))) (s.get Reg.RTU_LTC_OUT_UB) (c == 1)))

/-- Media time reaches a whole second (R468). -/
def State.mediaSecond (s : State) : State := if s.on .rtu ∧ s.established then s.gpioStart 3 0 else s

/-! ### Other writes, and the enable -/

/-- A write to a register of the RTU with a range (Table RTU-6, Table RTU-8): whether 0x0801 refuses it. -/
def State.rtuParam (s : State) (ofs v : Nat) : Bool :=
  if ofs = Reg.RTU_REF_OFS.ofs then
    let r := s.refRate 0
    decide (r.1 ≠ 0 ∧ r.2 * 1000000000 ≤ 2 * (toSigned 32 v).natAbs * r.1)
  else if ofs = Reg.RTU_REF_CLK.ofs then decide (v % 2 ^ 27 < 1000 ∨ 100000000 < v % 2 ^ 27)
  else if ofs = Reg.RTU_REF_CLK_DIV.ofs then
    let d := v % 2 ^ 20
    let hz := s.get Reg.RTU_REF_CLK_HZ
    decide (d = 0 ∨ (hz ≠ 0 ∧ (hz < 100 * d ∨ 100000 * d < hz)))
  else if ofs = Reg.RTU_TC_OFS.ofs then decide (86400 < (toSigned 32 v).natAbs)
  else false

/-- The unit is enabled or disabled (R316, R317, Table RTU-2). -/
def State.rtuEnable (s : State) (on : Bool) : State :=
  let s := ({ s with rtu := RtuSt.reset }).puts [(Reg.RTU_STATUS, 0), (Reg.RTU_FREQ, 0)]
  let s : State := (List.range 2).foldl (fun (s : State) (d : Nat) => (s.put (Reg.RTU_PTP_STATUS d) (if on && s.flag (Reg.RTU_PTP_CFG_EN d) then 2 ^ 29 else 0)).tsShow d) s
  if !on then s.gpioSync
  else
    let s := if s.rtuSrc = 1 ∨ s.rtuSrc = 3 then s else s.setAnchor 0
    let s := if s.rtuSrc = 0 then s else s.setRtuState 1
    if s.rtuSrc = 0 ∨ s.rtuSrc = 2 then s.establish else s

/-! ### The commands -/

def execRefEdge (t src : Nat) (s : State) : Res := .next ((s.tick t).refEdge src)
def execRefEdgeTimeout (t : Nat) (s : State) : Res := .next (s.tick t).refTimeout
def execPtpSync (t : Nat) (slot : Fin 2) (ofs pred : Int) (mpd : Nat) (freq : Int) (s : State) : Res :=
  .next ((s.tick t).ptpSync slot ofs pred mpd freq)
def execPtpAnnounce (t : Nat) (slot : Fin 2) (m : PtpMaster) (s : State) : Res := .next ((s.tick t).ptpAnnounce slot m)
def execPtpSyncLoss (t : Nat) (slot : Fin 2) (announce : Bool) (s : State) : Res := .next ((s.tick t).ptpLoss slot announce)
def execRefSrcWrite (t : Nat) (v : Word) (s : State) : Res := .next ((s.tick t).ctl .rtu true Reg.RTU_REF_CFG (fun s => s.refCfgWrite v))
def execPtpActiveSwitch (t : Nat) (v : Word) (s : State) : Res := .next ((s.tick t).ctl .rtu true Reg.RTU_REF_CFG (fun s => s.refCfgWrite v))
/-- SET, with SNAP in the same write acting first. -/
def execSet (t : Nat) (snap : Bool) (s : State) : Res :=
  .next ((s.tick t).cmd .rtu true Reg.RTU_TIME_CTL (2 + b2n snap) (fun s => (if snap then s.snapTime else s).setTime))
def execSnapTime (t : Nat) (s : State) : Res := .next ((s.tick t).cmd .rtu true Reg.RTU_TIME_CTL 1 (fun s => s.snapTime))
def execPtpEventStamp (t : Nat) (port : Fin 2) (tx : Bool) (tag : Nat) (s : State) : Res := .next ((s.tick t).ptpStamp port tx tag)
def execTsPop (t : Nat) (port : Fin 2) (s : State) : Res :=
  .next ((s.tick t).cmd .rtu (decide (port.val < s.variant.ethPorts)) (Reg.RTU_TS_POP port) 1 (fun s => s.tsPop port))
def execLtcInFrame (t : Nat) (good : Bool) (h m sec f : Nat) (drop : Bool) (rate : Fin 4) (start : Nat) (s : State) : Res :=
  .next ((s.tick t).ltcIn good h m sec f drop rate start)
def execLtcOutFrame (t : Nat) (s : State) : Res := .next (s.tick t).ltcOut
def execMediaTimeSecond (t : Nat) (s : State) : Res := .next (s.tick t).mediaSecond

end Sys2Proof.Machine
end

