-- ==== Sys2Proof/Machine/Canopy.lean ====
section
/-!
DEFINITION. The Canopy compositor: palettes, and the pixels of a generator's raster (10_outputs_and_raster.md, R255,
R264 to R269, R277, R278).
-/

namespace Sys2Proof.Machine

/-- A generator. -/
def State.tg (s : State) (g : Nat) : TgSt := getN s.ore.tgs g TgSt.reset

/-- Replace a generator. -/
def State.setTg (s : State) (g : Nat) (f : TgSt → TgSt) : State := { s with ore := { s.ore with tgs := updN s.ore.tgs g f } }

/-- An ingest. -/
def State.ri (s : State) (i : Nat) : RiSt := getN s.ore.ris i RiSt.reset

/-- Replace an ingest. -/
def State.setRi (s : State) (i : Nat) (f : RiSt → RiSt) : State := { s with ore := { s.ore with ris := updN s.ore.ris i f } }

/-- Three 10-bit components: R, G, B or Y, Cb, Cr. -/
abbrev Code3 := Int × Int × Int

/-- Word w of palette entry e of the copy in use. -/
def State.palWord (s : State) (g e w : Nat) : Nat := SMap.getD (getN (s.tg g).pal (s.tg g).palActive []) 0 (2 * e + w)

/-- Colour of palette entry e (Table of the palette window): [9:0] R or Y, [19:10] G or Cb, [29:20] B or Cr. -/
def State.palColour (s : State) (g e : Nat) : Code3 :=
  let v := s.palWord g e 0
  (bits v 9 0, bits v 19 10, bits v 29 20)

/-- out = c + α × (o − c) ÷ 255 to nearest, ties up (R267). -/
def blend1 (a : Nat) (o c : Int) : Int := c + (2 * a * (o - c) + 255) / 510

/-- Blend a palette entry over a pixel (R267). -/
def State.blend (s : State) (g e : Nat) (c : Code3) : Code3 :=
  let a := s.palWord g e 1 % 256
  let o := s.palColour g e
  (blend1 a o.1 c.1, blend1 a o.2.1 c.2.1, blend1 a o.2.2 c.2.2)

/-- A pixel of a stored frame at 4:4:4: the chroma of an even column serves the odd one (R264). -/
def State.storedPixel (s : State) (base fmt w h x y : Nat) : Code3 :=
  let st := planeStride fmt w
  if fmt = 0 then
    let v := s.readLe (base + y * st + 4 * x) 4
    (bits v 9 0, bits v 19 10, bits v 29 20)
  else
    let row := base + st * (h + if fmt = 2 then y else y / 2) + x / 2 * 4
    (s.readLe (base + y * st + 2 * x) 2, s.readLe row 2, s.readLe (row + 2) 2)

/-- The main plane: the frame shown, or palette colour 0 of a FIELD source, of LOSS_BLACK and before the first frame
(R255, R277). -/
def State.mainPixel (s : State) (g x y : Nat) : Code3 :=
  match (s.tg g).shown with
  | some f => if (s.tg g).black || !bitAt (s.get (Reg.ORE_CNP_CFG_PLANES g)) 0 then s.palColour g 0 else s.storedPixel f.base f.fmt f.w f.h x y
  | none => s.palColour g 0

/-- The return plane over a pixel (R266): transparent while the ingest is not RUNNING or has no complete frame. -/
def State.returnPixel (s : State) (g x y : Nat) (c : Code3) : Code3 :=
  let i := s.get (Reg.ORE_CNP_CFG_RET_SRC g)
  let px := s.get (Reg.ORE_CNP_RET_POS_X g)
  let py := s.get (Reg.ORE_CNP_RET_POS_Y g)
  if bitAt (s.get (Reg.ORE_CNP_CFG_PLANES g)) 1 && s.get (Reg.ORE_RI_STATUS_STATE i) == 3 &&
      decide (px ≤ x ∧ x < px + s.get (Reg.ORE_CNP_RET_WH_W g) ∧ py ≤ y ∧ y < py + s.get (Reg.ORE_CNP_RET_WH_H g)) then
    match (s.ri i).outs with
    | f :: _ => s.storedPixel f.base 2 f.w f.h (s.get (Reg.ORE_CNP_RET_SRC_XY_X g) + x - px) (s.get (Reg.ORE_CNP_RET_SRC_XY_Y g) + y - py)
    | [] => c
  else c

/-- The overlay over a pixel (R267). -/
def State.overlayPixel (s : State) (g x y : Nat) (c : Code3) : Code3 :=
  if bitAt (s.get (Reg.ORE_CNP_CFG_PLANES g)) 2 then
    let stride := ceilDiv (s.get (Reg.ORE_TG_H_HA g)) 64 * 64
    s.blend g (s.readByte (s.addr40 (Reg.ORE_CNP_OVL_LO g) (Reg.ORE_CNP_OVL_HI_V g) + y * stride + x)).toNat c
  else c

/-- The guides over a pixel (R268). -/
def State.guidePixel (s : State) (g x y : Nat) (c : Code3) : Code3 :=
  if bitAt (s.get (Reg.ORE_CNP_CFG_PLANES g)) 3 then
    (List.range 8).foldl (fun c i =>
      let x0 := s.get (Reg.ORE_CNP_GUIDE_A_X0 g i)
      let y0 := s.get (Reg.ORE_CNP_GUIDE_A_Y0 g i)
      let x1 := s.get (Reg.ORE_CNP_GUIDE_B_X1 g i)
      let y1 := s.get (Reg.ORE_CNP_GUIDE_B_Y1 g i)
      let w := s.get (Reg.ORE_CNP_GUIDE_C_W_M1 g i) + 1
      if s.flag (Reg.ORE_CNP_GUIDE_C_EN g i) && decide (x0 ≤ x ∧ x ≤ x1 ∧ y0 ≤ y ∧ y ≤ y1) &&
          decide (x - x0 < w ∨ x1 - x < w ∨ y - y0 < w ∨ y1 - y < w) then s.blend g (s.get (Reg.ORE_CNP_GUIDE_C_IDX g i)) c
      else c) c
  else c

/-- Y, or G for an RGB main plane (R269). -/
def State.assistY (s : State) (g x y : Nat) : Int :=
  let p := s.mainPixel g x y
  if ((s.tg g).shown.map (·.matrix)).getD 1 = 0 then p.2.1 else p.1

/-- The assist entry of a pixel (R269). The neighbour of an edge column that lies outside the raster the spec gives no
value: a free one. -/
def State.assistEntry (s : State) (g x y : Nat) : Option Nat :=
  let ha := s.get (Reg.ORE_TG_H_HA g)
  let v := s.assistY g x y
  let left : Int := if x = 0 then (Config.free (s.freeCtr + 2 * y) % 1024 : Nat) else s.assistY g (x - 1) y
  let right : Int := if ha ≤ x + 1 then (Config.free (s.freeCtr + 2 * y + 1) % 1024 : Nat) else s.assistY g (x + 1) y
  let t := s.get (Reg.ORE_CNP_CFG_TESTS g)
  let fc := s.get (Reg.ORE_CNP_FC_IDX g (v.toNat / 64))
  if bitAt t 0 && decide (s.get (Reg.ORE_CNP_ASSIST_PEAK_THR g) ≤ (2 * v - left - right).natAbs) then some (s.get (Reg.ORE_CNP_ASSIST_IDX_PEAK g))
  else if bitAt t 1 && decide ((s.get (Reg.ORE_CNP_ASSIST_ZEBRA_LVL g) : Int) ≤ v ∧ (x + y) % 16 < 8) then
    some (s.get (Reg.ORE_CNP_ASSIST_IDX_ZEBRA g))
  else if bitAt t 2 && fc != 0xFF then some fc
  else none

/-- The composed pixel (R264). -/
def State.composed (s : State) (g x y : Nat) : Code3 :=
  let c := s.guidePixel g x y (s.overlayPixel g x y (s.returnPixel g x y (s.mainPixel g x y)))
  if bitAt (s.get (Reg.ORE_CNP_CFG_PLANES g)) 4 then
    match s.assistEntry g x y with
    | some e => s.blend g e c
    | none => c
  else c

/-- A composed line for a 4:2:2 sink: Y, and Cb or Cr in turn. A 4:4:4 main buffer is subsampled after composition with
the filter of R187, to nearest with ties up; of a 4:2:2 one the even column's chroma is sent (R264). -/
def State.line422 (s : State) (g y : Nat) : List Nat :=
  let px := (List.range (s.get (Reg.ORE_TG_H_HA g))).map (fun x => s.composed g x y)
  let sub : Bool := ((s.tg g).shown.map (·.fmt)).getD 2 == 0
  let chroma := fun (l : List Int) =>
    if sub then (subsample (l.map (fun (v : Int) => (v : Rat)))).map (fun v => (v + 1 / 2).floor)
    else (List.range (l.length / 2)).map (fun i => l.getD (2 * i) 0)
  let cb := chroma (px.map (·.2.1))
  let cr := chroma (px.map (·.2.2))
  px.zipIdx.map (fun e => (e.1.1 + 1024 * (if e.2 % 2 = 0 then cb else cr).getD (e.2 / 2) 0).toNat)

/-- An 8-bit component of a 10-bit code (R278). -/
def to8 (v : Int) : Nat := min 255 ((v.toNat + 2) / 4)

/-- A composed line for a panel (R278). -/
def State.linePanel (s : State) (g y : Nat) (ten : Bool) : List Nat :=
  (List.range (s.get (Reg.ORE_TG_H_HA g))).map (fun x =>
    let c := s.composed g x y
    if ten then c.1.toNat + 2 ^ 10 * c.2.1.toNat + 2 ^ 20 * c.2.2.toNat else to8 c.1 + 2 ^ 10 * to8 c.2.1 + 2 ^ 20 * to8 c.2.2)

/-- Repeat the last pixel sent over the runs of a line that were late (R262); `prev` is the last pixel sent before it. -/
def repeatRuns (runs : List UnderRun) (prev : Nat) (line : List Nat) : List Nat :=
  runs.foldl (fun l r =>
    let v := if r.x = 0 then prev else l.getD (r.x - 1) prev
    l.zipIdx.map (fun e => if r.x ≤ e.2 ∧ e.2 < r.x + r.n then v else e.1)) line

/-- A write through the palette window of the ORE (R114, 0x060D). -/
def State.palWrite (s : State) (ofs : Nat) (v : Word) : State :=
  let o := ofs - 0x10000
  let g := o / 0x800
  if (s.tg g).palPending then s.refuse .ore 0x060D ⟨0x600000 + ofs, 31, 0⟩
  else
    let k := o % 0x800 / 4
    s.setTg g (fun x => { x with pal := updN x.pal (1 - x.palActive) (fun m =>
      SMap.setD m 0 k (v.toNat % (if k % 2 = 0 then 2 ^ 30 else 2 ^ 8))) })

/-- A read through it: the copy that UNIT_VIEW selects. -/
def State.palRead (s : State) (view : Bool) (ofs : Nat) : Nat :=
  let o := ofs - 0x10000
  let x := s.tg (o / 0x800)
  SMap.getD (getN x.pal (if view then 1 - x.palActive else x.palActive) []) 0 (o % 0x800 / 4)

/-- The palettes exchange, and the new active copy is copied to the inactive one (R114). -/
def State.palSwap (s : State) (g : Nat) : State :=
  s.setTg g (fun x =>
    let a := 1 - x.palActive
    { x with palActive := a, palPending := false, pal := updN x.pal (1 - a) (fun _ => getN x.pal a []) })

/-- Bit 31 of ORE_TG_CTL (R114): at the next start of vertical blanking, or at once while the generator is idle. -/
def State.palRequest (s : State) (g : Nat) : State :=
  if s.enabled .ore ∧ s.flag (Reg.ORE_TG_CFG_EN g) then s.setTg g (fun x => { x with palPending := true })
  else s.palSwap g

end Sys2Proof.Machine
end

