-- ==== Sys2Proof/Machine/Ore.lean ====
section
/-!
DEFINITION. Outputs: timing generators, SDI audio and time code, underruns, Return Ingest, panel ports and Ethernet
(10_outputs_and_raster.md, R255 to R263, R270 to R288).
-/

namespace Sys2Proof.Machine

/-- The path delivers to sinks of generator g (R260). -/
def State.onTg (s : State) (g : Nat) (b : Booking) : Bool :=
  ((b.kind == 1 || b.kind == 8) && b.idx == g) || (b.kind == 2 && s.get (Reg.ORE_TX_CFG_TG b.idx) == g)

/-- The paths of generator g. -/
def State.tgPaths (s : State) (g : Nat) : List Booking := s.plan.bookings.filter (s.onTg g)

/-- A path of the generator accepted the frame. -/
def State.tgAccepted (s : State) (g : Nat) (t : FrameTag) : Bool := (s.tgPaths g).any (fun b => (t.on b.path).isSome)

/-- Complete frames of the generator's source, newest first, each with its completion cycle (R260). -/
def State.tgFrames (s : State) (g : Nat) : List (Shown × Nat) :=
  let i := s.get (Reg.ORE_TG_CFG_SRC_INDEX g)
  match s.get (Reg.ORE_TG_CFG_SRC_KIND g) with
  | 0 => (s.rp i).outs.filterMap (fun o =>
      match o.done, o.base with
      | true, some b => some ({ tag := o.tag, base := b, slot := o.slot, w := o.w, h := o.h, fmt := o.fmt, matrix := o.matrix, depth := o.depth }, o.doneAt)
      | _, _ => none)
  | 1 => (getN s.pcd.dec (i - 4) DecSt.reset).outs.map (fun o =>
      ({ tag := o.tag, base := o.base, slot := o.slot, w := o.w, h := o.h, fmt := o.fmt, matrix := 1, depth := o.depth }, o.doneAt))
  | 2 => (s.ri i).outs.map (fun o =>
      ({ tag := o.tag, base := o.base, slot := o.slot, w := o.w, h := o.h, fmt := 2, matrix := 1, depth := 1 }, o.doneAt))
  | _ => []

/-- The frame to show next (R260): the newest that a path of the generator accepted, complete before this cycle, and
not shown yet. -/
def State.tgPick (s : State) (g : Nat) : Option Shown :=
  let l := s.tgFrames g
  let fresh : List (Shown × Nat) := match (s.tg g).shown with
    | some f => l.takeWhile (fun e => (e.1.tag.src, e.1.tag.seq) != (f.tag.src, f.tag.seq))
    | none => l
  (fresh.find? (fun e => decide (e.2 < s.now) && s.tgAccepted g e.1.tag)).map (·.1)

/-- Frame period of a generator in ns. -/
def State.tgPeriod (s : State) (g : Nat) : Nat := periodNs (s.get (Reg.ORE_TG_RATE_NUM g)) (s.get (Reg.ORE_TG_RATE_DEN g))

/-- Change a panel port's state (Table ORE-3, Table ORE-6, R468). -/
def State.setPnl (s : State) (k st : Nat) : State :=
  if s.get (Reg.ORE_PNL_STATUS_STATE k) = st then s else ((s.put (Reg.ORE_PNL_STATUS_STATE k) st).raise .ore 13).gpioSync

/-- A panel port. -/
def State.pnl (s : State) (k : Nat) : PnlSt := getN s.ore.pnls k { exitQueued := false, retrain := false }

/-- Replace a panel port. -/
def State.setPnlSt (s : State) (k : Nat) (f : PnlSt → PnlSt) : State := { s with ore := { s.ore with pnls := updN s.ore.pnls k f } }

/-- A frame accepted on the panel path of generator g is still to be shown. -/
def State.pnlBusy (s : State) (g : Nat) : Bool :=
  s.plan.bookings.any (fun b => b.kind == 8 && b.idx == g && !(s.path b.path).inFlight.isEmpty)

/-- Panel ports follow EN, and a RETRAIN hold whose frames are sent ends (R279, R281, Table ORE-3). -/
def State.pnlSync (s : State) (k : Nat) : State :=
  if !s.enabled .ore || !s.flag (Reg.ORE_PNL_CFG_EN k) then (s.setPnl k 0).setPnlSt k (fun _ => { exitQueued := false, retrain := false })
  else if s.get (Reg.ORE_PNL_STATUS_STATE k) = 0 then s.setPnl k 1
  else if (s.pnl k).retrain && !s.pnlBusy (s.get (Reg.ORE_PNL_CFG_TG k)) then
    (s.setPnlSt k (fun x => { x with retrain := false })).setPnl k 1
  else s

/-- Change an ingest's state (Table ORE-6). -/
def State.setRiState (s : State) (i st : Nat) : State :=
  if s.get (Reg.ORE_RI_STATUS_STATE i) = st then s else (s.put (Reg.ORE_RI_STATUS_STATE i) st).raise .ore 10

/-- Ingests and panel ports follow the configuration in effect. -/
def State.oreSync (s : State) : State :=
  let s := (List.range 4).foldl (fun s i =>
    if !s.enabled .ore || !s.flag (Reg.ORE_RI_CFG_EN i) then (s.setRiState i 0).setRi i (fun _ => RiSt.reset)
    else if s.get (Reg.ORE_RI_STATUS_STATE i) = 0 then s.setRiState i 1 else s) s
  (List.range 2).foldl (fun s k => s.pnlSync k) s

/-- A consumer of a shown frame has finished with it: every path of the generator that accepted it (R349). -/
def State.tgRelease (s : State) (g : Nat) (f : Shown) : State :=
  ((s.tgPaths g).filter (fun (b : Booking) => (f.tag.on b.path).isSome)).foldl (fun s _ => s.releaseBuffer f.base) s

/-- A repeat is counted (R260). -/
def State.tgRepeat (s : State) (g : Nat) : State :=
  let x := s.tg g
  let paths := s.tgPaths g
  let held := paths.all (fun b => s.pathShed b.path || s.pathHeld b)
  let n := x.repeats + 1
  let s := (s.setTg g (fun x => { x with repeats := n, first := false, holding := x.holding || held,
                                         black := s.flag (Reg.ORE_TG_CFG_LOSS_BLACK g) && s.get (Reg.ORE_TG_CFG_SRC_KIND g) == 2 &&
                                           s.get (Reg.ORE_RI_STATUS_STATE (s.get (Reg.ORE_TG_CFG_SRC_INDEX g))) != 3 })).put (Reg.ORE_TG_STATUS_REPEAT g) 1
  if n ≤ s.get (Reg.ORE_TG_CFG_MULT g) - 1 then s
  else if held || x.holding || x.changeover then s.count (Reg.ORE_CNT_FRAME_HOLD g) 1
  else (s.count (Reg.ORE_CNT_FRAME_REPEAT g) 1).raise .ore 9

/-- The start of vertical blanking (R21, R259, R260, R114, R294, R468). -/
def State.tgVblank (s : State) (g : Nat) : State :=
  if !s.on .ore ∨ !s.established then s
  else
    let begun := ((s.tgPick g).map (fun f => f.tag.begun)).getD []
    let s := s.boundary (.tg g) begun false
    let s := if (s.tg g).palPending && !s.csHolds 6 then s.palSwap g else s
    let s := s.oreSync
    if !s.flag (Reg.ORE_TG_CFG_EN g) then s
    else
      let s := match s.tgPick g with
        | some f =>
          let s := match (s.tg g).shown with
            | some old => s.tgRelease g old
            | none => s
          (s.setTg g (fun x => { x with shown := some f, first := true, repeats := 0, holding := false, changeover := false, black := false })).puts
            [(Reg.ORE_TG_STATUS_SLOT g, f.slot), (Reg.ORE_TG_STATUS_REPEAT g, 0)]
        | none => if (s.tg g).shown.isSome then s.tgRepeat g else s
      let s := s.setTg g (fun x => { x with activeNs := none, under := [] })
      let s := (s.raise .ore g).gpioStart 1 g
      s.audioSource (8 + g) (((s.tg g).shown.map (fun f => f.tag.begun)).getD []) (s.tgPeriod g)

/-! ### The lanes (R263, R271 to R273) -/

/-- Lanes of a GROUP code. -/
def groupLanes (c : Nat) : Nat := if c = 1 then 2 else if c = 2 then 4 else 1

/-- Lowest lanes of the SDI groups of a generator. -/
def State.tgLanes (s : State) (g : Nat) : List Nat :=
  (List.range s.variant.programLanes).filter (fun n => s.flag (Reg.ORE_PL_CFG_TX_EN n) && s.get (Reg.ORE_PL_CFG_TG n) == g)

/-- Panel ports of a generator that send. -/
def State.tgPanels (s : State) (g : Nat) : List Nat :=
  (List.range 2).filter (fun k => s.flag (Reg.ORE_PNL_CFG_EN k) && s.get (Reg.ORE_PNL_CFG_TG k) == g &&
    (s.get (Reg.ORE_PNL_STATUS_STATE k) == 2 || s.get (Reg.ORE_PNL_STATUS_STATE k) == 3))

/-- Senders of a generator. -/
def State.tgSenders (s : State) (g : Nat) : List Nat :=
  (List.range 8).filter (fun k => s.flag (Reg.ORE_TX_CFG_EN k) && decide (k % 4 < 2) && s.get (Reg.ORE_TX_CFG_TG k) == g)

/-- The audio block at the head of a queue that accompanies a frame: its cells, and the older blocks before it gone. A
block accompanies the frame whose counter, on a path of its source, is its FRAME (R273, R294). -/
def State.takeBlock (s : State) (q : Nat) (frames : List Nat) (fuel : Nat) : List PCell × State :=
  match fuel with
  | 0 => ([], s)
  | k + 1 =>
    match if q = 0 then none else (s.queue q).front.head? with
    | none => ([], s)
    | some item =>
      let f := leVal (bytesAt ((item.head?.map (·.data)).getD []) 0 6)
      if frames.contains f then s.readItem q 4096
      else if frames.any (fun n => decide (f < n)) then ((s.readItem q 4096).2).takeBlock q frames k
      else ([], s)

/-- Samples of an audio block, n bits each, by audio frame; zeros where it is poisoned (R303). -/
def blockSamples (n : Nat) (cells : List PCell) : List (List Nat) :=
  let head := (cells.head?.map (·.data)).getD []
  let data := (cells.drop 1).flatMap (·.data)
  let c := leVal (bytesAt head 25 1)
  let pack := leVal (bytesAt head 26 1)
  let b := sampleBytes pack
  (List.range (leVal (bytesAt head 22 2))).map (fun j => (List.range c).map (fun k =>
    if itemPoison cells ≠ 0 then 0 else topBits pack n (bytesAt data ((j * c + k) * b) b)))

/-- An audio block is missing where a sink needs it (R273, R286). -/
def State.audioMissing (s : State) (inst : Nat) : State := (s.raise .ore 15).logFree .ore inst 15 0x07 0

/-- A time code as BCD. -/
def TimeCode.bcd (t : TimeCode) : Nat := Machine.bcd t.h * 2 ^ 24 + Machine.bcd t.m * 2 ^ 16 + Machine.bcd t.s * 2 ^ 8 + Machine.bcd t.f

/-- The ancillary data of a frame on a group: the ATC time code with ATC_EN (R272), and the audio block that accompanies the
frame with AUD_EN (R273). -/
def State.embed (s : State) (n : Nat) (f : Shown) (first : Bool) : State :=
  let atc := if s.flag (Reg.ORE_PL_CFG_ATC_EN n) then [(s.frameTimeCode (s.srcGrid f.tag.src f.tag.stamp) f.tag.stamp).bcd] else []
  if s.flag (Reg.ORE_PL_CFG_AUD_EN n) && first then
    let (cells, s) := s.takeBlock (s.get (Reg.ORE_PL_CFG_AUD_QUEUE n)) (f.tag.begun.map (·.2)) 1024
    match cells with
    | [] => ((s.count (Reg.ORE_CNT_AUD_UNDER n) 1).audioMissing n).out (.sdiFrame n atc)
    | c :: _ =>
      let s := if itemPoison cells ≠ 0 then s.audioPoison (leVal (bytesAt c.data 24 1)) f.tag.counter else s
      s.out (.sdiFrame n (atc ++ ((blockSamples 24 cells).map (fun l => l.take (s.get (Reg.ORE_PL_CFG_AUD_CH n) + 1))).flatten))
  else if atc.isEmpty then s
  else s.out (.sdiFrame n atc)

/-- The first active line starts, at G_j + VOFS (R257, R272, R273, R276). -/
def State.tgActive (s : State) (g : Nat) : State :=
  if !s.on .ore ∨ !s.established ∨ !s.flag (Reg.ORE_TG_CFG_EN g) then s
  else
    let s := s.setTg g (fun x => { x with activeNs := some s.mediaNs })
    match (s.tg g).shown with
    | none => s
    | some f =>
      let s := if 2 ≤ f.tag.src ∧ f.tag.src < 6 then
          s.setRi (f.tag.src - 2) (fun r => { r with waiting := r.waiting.filter (fun p => !(s.tgPaths g).any (fun b => b.path == p)) })
        else s
      let s := (s.tgLanes g).foldl (fun s n => s.embed n f (s.tg g).first) s
      (s.tgSenders g).foldl (fun s k =>
        { s with ore := { s.ore with txs := updN s.ore.txs k (fun x => { x with frame := some f, pixel := 0 }) } }) s

/-- Send a sink's lines, the late runs repeated (R262): `mk` makes a line's output. -/
def emitLines (mk : Nat → List Nat → Out) (line : Nat → List Nat) (runs : List UnderRun) : (n y prev : Nat) → State → State
  | 0, _, _, s => s
  | n + 1, y, prev, s =>
    let l := repeatRuns (runs.filter (fun r => r.line == y)) prev (line y)
    emitLines mk line runs n (y + 1) (l.getLast?.getD prev) (s.out (mk y l))

/-- The frame's last active pixel leaves the sinks (R260, Table JRN-2): the raster that they sent, and at its first
showing the frame's delivery on the generator's SDI and panel paths. -/
def State.tgEnd (s : State) (g : Nat) : State :=
  if !s.on .ore ∨ (s.tg g).activeNs.isNone then s
  else
    let x := s.tg g
    let va := s.get (Reg.ORE_TG_V_VA g)
    let (p, s) := s.fresh
    let s0 := s
    let s := (s.tgLanes g).foldl (fun s n =>
      emitLines (fun y l => .video 1 n y l) (s0.line422 g) (x.under.filter (fun r => r.sink == n)) va 0 p s) s
    let s := (s.tgPanels g).foldl (fun s k =>
      emitLines (fun y l => .video 8 k y l) (fun y => s0.linePanel g y (s0.flag (Reg.ORE_PNL_CFG_BPC10 k))) (x.under.filter (fun r => r.sink == 16 + k)) va 0 p s) s
    let s := { s with freeCtr := s.freeCtr + 2 * va }
    match x.shown with
    | none => s
    | some f =>
      let s := if x.first then
          s.deliverTag f.tag (fun b => (b.kind == 1 || b.kind == 8) && b.idx == g &&
            (s.path b.path).inFlight.contains ((f.tag.on b.path).getD 0)) else s
      s.setTg g (fun x => { x with first := false })

/-- A fetch engine has no data for a run of pixels that are due (R262, R263): sink 0 to 15 the lanes, 16, 17 the panel
ports, 32 to 39 the senders. Every member lane of a group repeats and counts. -/
def State.underrun (s : State) (sink line x n : Nat) : State :=
  if !s.on .ore ∨ n = 0 then s
  else
    let low := ((List.range 16).find? (fun m => s.flag (Reg.ORE_PL_CFG_TX_EN m) && decide (m ≤ sink ∧ sink < m + groupLanes (s.get (Reg.ORE_PL_CFG_GROUP m))))).getD sink
    let g := if sink < 16 then s.get (Reg.ORE_PL_CFG_TG low) else if sink < 32 then s.get (Reg.ORE_PNL_CFG_TG (sink - 16))
      else s.get (Reg.ORE_TX_CFG_TG (sink - 32))
    let s := s.setTg g (fun t => { t with under := t.under ++ [{ sink := if sink < 16 then low else sink, line := line, x := x, n := n }] })
    let s := if sink < 16 then
        (List.range (groupLanes (s.get (Reg.ORE_PL_CFG_GROUP low)))).foldl (fun s k =>
          (s.count (Reg.ORE_CNT_UNDERRUN_PIX (low + k)) n).count (Reg.ORE_CNT_UNDERRUN_EVT (low + k)) 1) s
      else s
    (s.raise .ore 8).logFree .ore sink 8 0x06 (((s.tg g).shown.map (fun f => f.tag.counter)).getD 0)

/-- CLR of ORE_TG_CTL: the generator's and its sinks' counters (Table ORE-5). -/
def State.tgClr (s : State) (g : Nat) : State :=
  let s := s.puts [(Reg.ORE_CNT_FRAME_REPEAT g, 0), (Reg.ORE_CNT_FRAME_HOLD g, 0)]
  (s.tgLanes g).foldl (fun s n => (List.range (groupLanes (s.get (Reg.ORE_PL_CFG_GROUP n)))).foldl (fun s k =>
    s.puts ([Reg.ORE_CNT_UNDERRUN_PIX (n + k), Reg.ORE_CNT_UNDERRUN_EVT (n + k), Reg.ORE_CNT_CRC_Y (n + k), Reg.ORE_CNT_CRC_C (n + k),
      Reg.ORE_CNT_CRC_LINES (n + k), Reg.ORE_CNT_AUD_UNDER (n + k)].map (fun f => (f, 0)))) s) s

/-! ### Return Ingest (R274 to R277) -/

/-- Lanes of an ingest's group. -/
def State.riLanes (s : State) (i : Nat) : List Nat :=
  (List.range (groupLanes (s.get (Reg.ORE_RI_CFG_GROUP i)))).map (fun k => s.get (Reg.ORE_RI_CFG_LANE i) + k)

/-- The receivers of an ingest's group lock (R274). -/
def State.riLock (s : State) (i rate st352 : Nat) : State :=
  if !s.on .ore ∨ s.get (Reg.ORE_RI_STATUS_STATE i) ≠ 1 then s
  else
    let s := (s.riLanes i).foldl (fun s n => s.puts [(Reg.ORE_PL_STATUS_RX n, 2), (Reg.ORE_PL_STATUS_RATE n, rate), (Reg.ORE_PL_ST352 n, st352)]) s
    s.setRiState i 2

/-- The booked paths of an ingest to generators, and its capture path. -/
def State.riPaths (s : State) (i : Nat) : List Booking := s.plan.bookings.filter (fun b => b.src == 2 + i)

/-- The format of a received frame matches the declaration (R274): row of Table ORE-2, wide, PsF, rate. -/
def State.riMatches (s : State) (i row : Nat) (wide psf : Bool) (num den : Nat) : Bool :=
  s.get (Reg.ORE_RI_FMT_ROW i) == row && s.flag (Reg.ORE_RI_FMT_WIDE i) == wide && s.flag (Reg.ORE_RI_FMT_PSF i) == psf &&
    num * s.get (Reg.ORE_RI_RATE_DEN i) == den * s.get (Reg.ORE_RI_RATE_NUM i)

/-- Address of a ring slot of an ingest. -/
def State.riBase (s : State) (i slot w h : Nat) : Nat :=
  s.addr40 (Reg.ORE_RI_BASE_LO i) (Reg.ORE_RI_BASE_HI_V i) + slot * w422Bytes w h

/-- The SAV of a received frame's first active line (R275, R276). -/
def State.riFrame (s : State) (i row : Nat) (wide psf : Bool) (num den : Nat) : State :=
  if !s.on .ore ∨ s.get (Reg.ORE_RI_STATUS_STATE i) < 2 then s
  else
    let ok := s.riMatches i row wide psf num den
    let x := s.ri i
    let paths := (s.riPaths i).map (·.path)
    let busy := if ok then x.waiting else paths
    let (tag, s) := s.sourceBoundary (2 + i) ((x.seq + 1) % 2 ^ 32) s.mediaNs [.ri i] busy
    let s := s.setRi i (fun r => { r with seq := (r.seq + 1) % 2 ^ 32, frame := none })
    if !ok then (s.count (Reg.ORE_CNT_FMT_MISMATCH i) 1).setRiState i 2
    else
      let s := s.setRiState i 3
      let skipped := (s.riPaths i).any (fun b => b.kind != 6 && x.waiting.contains b.path)
      let s := if skipped then s.count (Reg.ORE_CNT_INGEST_SKIP i) 1 else s
      let shown := ((s.riPaths i).filter (fun (b : Booking) => b.kind != 6 && (tag.on b.path).isSome)).map (fun (b : Booking) => b.path)
      let s := s.setRi i (fun r => { r with waiting := dedup (r.waiting ++ shown) })
      if tag.accepted.isEmpty && !paths.isEmpty then s
      else
        let z := riSize row wide
        let slot := (x.slot + 1) % (s.get (Reg.ORE_RI_CFG_RING_M1 i) + 1)
        s.setRi i (fun r => { r with slot := slot, frame := some { tag := tag, slot := slot, base := s.riBase i slot z.1 z.2, w := z.1, h := z.2, doneAt := 0 } })

/-- Bytes of a W16_422 frame: Y rows, then CbCr rows, at their stride (R275). -/
def w422Frame (w h : Nat) (p : RiPixels) : List Byte :=
  let stride := ceilDiv (w * 2) 64 * 64
  let row := fun (b : List Byte) => bytesAt b 0 stride
  (List.range h).flatMap (fun y => row ((p.y.getD y []).flatMap (fun v => leBytes 2 v))) ++
    (List.range h).flatMap (fun y => row (((p.cb.getD y []).zip (p.cr.getD y [])).flatMap (fun e => leBytes 2 e.1 ++ leBytes 2 e.2)))

/-- A received frame is complete in its ring slot: it is the newest for its readers, and its capture entry delivers the
capture path (R275). -/
def State.riStore (s : State) (i : Nat) (f : RiFrameSt) (bytes : List Byte) : State :=
  let s := s.write f.base bytes
  let s := s.gaugeAll 9 i ((List.range f.h).flatMap (fun y =>
    (List.range f.w).map (fun x => (leVal (bytesAt bytes (y * (ceilDiv (f.w * 2) 64 * 64) + 2 * x) 2) : Int))))
  let s := (s.riPaths i).foldl (fun s b =>
    match b.kind, f.tag.on b.path with
    | 6, some n =>
      let r := s.get (Reg.ORE_RI_CFG_REEL i)
      match s.reservation r b.path n with
      | some v => (s.write (s.blockAddr v.block) bytes).indexFrame r b.path n 4 f.tag.flags bytes.length f.tag.stamp
      | none => s
    | _, _ => s) s
  let s := s.put (Reg.ORE_RI_STATUS_SLOT i) f.slot
  s.setRi i (fun r => { r with frame := none, outs := ({ f with doneAt := s.now } :: r.outs.filter (fun o => o.slot != f.slot)).take 8 })

/-- Line CRC errors of a received frame: lines with a Y error, a C error, and either, by lane (R277). -/
def State.riCrc (s : State) (i : Nat) (crc : List (Nat × Nat × Nat)) : State :=
  let s := ((s.riLanes i).zip crc).foldl (fun s e =>
    ((s.count (Reg.ORE_CNT_CRC_Y e.1) e.2.1).count (Reg.ORE_CNT_CRC_C e.1) e.2.2.1).count (Reg.ORE_CNT_CRC_LINES e.1) e.2.2.2) s
  if crc.any (fun e => e.2.2 != 0) then s.raise .ore 11 else s

/-- An ingest frame has been received whole: samples, ancillary packets other than ST 352, line CRC errors (R275). -/
def State.riWritten (s : State) (i : Nat) (p : RiPixels) (anc : List (List Byte)) (crc : List (Nat × Nat × Nat)) : State :=
  if !s.on .ore then s
  else
    let s := s.riCrc i crc
    match (s.ri i).frame with
    | none => s
    | some f =>
      let s := anc.foldl (fun s a => s.unitPost (s.get (Reg.ORE_RI_CFG_ANC_QUEUE i)) (leBytes 8 f.tag.counter ++ a)) s
      s.riStore i f (w422Frame f.w f.h p)

/-- The last line of a plane, repeated to a height. -/
def fillRows (h : Nat) (l : List (List Nat)) : List (List Nat) := l ++ List.replicate (h - l.length) (l.getLast?.getD [])

/-- The input loses lock (R277): outstanding lines repeat the last good line, the frame is incomplete, and the ingest
returns to ACQUIRING. `p` are the lines received. With no good line the frame's content is free. -/
def State.riLost (s : State) (i : Nat) (p : RiPixels) : State :=
  if !s.on .ore ∨ s.get (Reg.ORE_RI_STATUS_STATE i) < 2 then s
  else
    let s := (s.riLanes i).foldl (fun s n => s.put (Reg.ORE_PL_STATUS_RX n) 1) s
    let s := match (s.ri i).frame with
      | none => s
      | some f =>
        let f : RiFrameSt := { f with tag := { f.tag with incomplete := true } }
        let n := w422Bytes f.w f.h
        let (bytes, s) : List Byte × State :=
          if p.y.isEmpty then ((List.range n).map (fun k => BitVec.ofNat 8 (Config.free (s.freeCtr + k))), { s with freeCtr := s.freeCtr + n })
          else (w422Frame f.w f.h { y := fillRows f.h p.y, cb := fillRows f.h p.cb, cr := fillRows f.h p.cr }, s)
        ((s.riStore i f bytes).count (Reg.ORE_CNT_RI_INCOMPLETE i) 1).raise .ore 12
    s.setRiState i 1

/-! ### Panel ports (R279 to R282) -/

/-- STATE of a panel port. -/
def State.pnlState (s : State) (k : Nat) : Nat := s.get (Reg.ORE_PNL_STATUS_STATE k)

/-- PSR_ENTER. -/
def State.psrEnter (s : State) (k : Nat) : State :=
  if s.pnlState k ≠ 2 then s.refuse .ore 0x0607 (Reg.ORE_PNL_CTL k) else s.setPnl k 3

/-- In the blanking after the last accepted frame the port enters PSR; a queued PSR_EXIT acts there. -/
def State.psrDone (s : State) (k : Nat) : State :=
  if !s.on .ore ∨ s.pnlState k ≠ 3 ∨ s.pnlBusy (s.get (Reg.ORE_PNL_CFG_TG k)) then s
  else
    let s := (s.out (.panel k 1)).setPnl k 4
    if (s.pnl k).exitQueued then (s.setPnlSt k (fun x => { x with exitQueued := false })).setPnl k 1 else s

/-- PSR_EXIT. -/
def State.psrExit (s : State) (k : Nat) : State :=
  match s.pnlState k with
  | 4 => s.setPnl k 1
  | 5 => s.setPnl k 1
  | 3 => s.setPnlSt k (fun x => { x with exitQueued := true })
  | 2 => s.refuse .ore 0x0607 (Reg.ORE_PNL_CTL k)
  | 1 => s.refuse .ore 0x0607 (Reg.ORE_PNL_CTL k)
  | _ => s

/-- RETRAIN. -/
def State.pnlRetrain (s : State) (k : Nat) : State :=
  match s.pnlState k with
  | 4 => s.setPnl k 1
  | 5 => s.setPnl k 1
  | 2 => s.setPnlSt k (fun x => { x with retrain := true })
  | _ => s

/-- Link training ends; with HPD low it fails (Table ORE-3). `psr`: the panel's DPCD reports PSR. -/
def State.pnlTrained (s : State) (k : Nat) (ok psr : Bool) : State :=
  if !s.on .ore ∨ s.pnlState k ≠ 1 then s
  else (s.putB (Reg.ORE_PNL_STATUS_PSR_CAP k) psr).setPnl k (if ok && s.flag (Reg.ORE_PNL_STATUS_HPD k) then 2 else 5)

/-- HPD changes level, or an interrupt pulse arrives (R282). -/
def State.hpd (s : State) (k : Nat) (level irq : Bool) : State :=
  let was := s.flag (Reg.ORE_PNL_STATUS_HPD k)
  let s := s.putB (Reg.ORE_PNL_STATUS_HPD k) level
  let s := if irq then s.put (Reg.ORE_PNL_STATUS_HPD_IRQ k) 1 else s
  if was != level || irq then s.raise .ore 14 else s

/-- A software AUX transaction (R282, Table ORE-5): the command and the data go out, and a sink's reply is in the data
registers. -/
def State.auxCmd (s : State) (k : Nat) (v : Word) (reply : List Word) : State :=
  let s := s.out (.aux k (v.toNat :: (List.range 4).map (fun i => s.get (Reg.ORE_PNL_AUX_DATA k i))))
  (reply.take 4).zipIdx.foldl (fun s e => s.setReg (Reg.ORE_PNL_AUX_DATA k e.2).ofs e.1) s

/-! ### ST 2110 senders (R284 to R288) -/

/-- A sender. -/
def State.txs (s : State) (k : Nat) : TxSt := getN s.ore.txs k TxSt.reset

/-- Replace a sender. -/
def State.setTx (s : State) (k : Nat) (f : TxSt → TxSt) : State := { s with ore := { s.ore with txs := updN s.ore.txs k f } }

/-- The link of an Ethernet port is up. -/
def State.ethUp (s : State) (p : Nat) : Bool := getN s.ore.eth p false

/-- Hand a packet to a MAC: dropped and counted while the port's link is down (R288). -/
def State.toMac (s : State) (p : Nat) (b : List Byte) : State :=
  if s.ethUp p then s.out (.packet p b) else (s.count (Reg.ORE_CNT_TX_DROP p) 1).raise .ore 16

/-- The RTP packet of a sender: header of 12 bytes (version 2, payload type, sequence number, timestamp, SSRC), then the
payload (R284). Under DUP both ports get it (R287). -/
def State.sendRtp (s : State) (k : Nat) (marker : Bool) (ts : Nat) (payload : List Byte) : State :=
  let x := s.txs k
  let b := [0x80, BitVec.ofNat 8 (b2n marker * 128 + s.get (Reg.ORE_TX_CFG_PT k))] ++ beBytes 2 x.seq ++ beBytes 4 ts ++
    beBytes 4 (s.get (Reg.ORE_TX_SSRC k)) ++ payload
  let s := s.setTx k (fun x => { x with seq := (x.seq + 1) % 2 ^ 32 })
  if s.flag (Reg.ORE_TX_CFG_DUP k) then (s.toMac 0 b).toMac 1 b else s.toMac (k / 4) b

/-- The 5-byte groups of a composed 4:2:2 line: Cb, Y0, Cr, Y1 of 10 bits, most significant first. -/
def pgroups (line : List Nat) : List (List Byte) :=
  (chunks 2 line).map (fun p =>
    let a := p.getD 0 0
    let b := p.getD 1 0
    beBytes 5 (((a / 1024 * 1024 + a % 1024) * 1024 + b / 1024) * 1024 + b % 1024))

/-- The segments of one packet: line, first pixel, pixels. -/
def segments (ha : Nat) : (fuel pixel left : Nat) → List (Nat × Nat × Nat)
  | 0, _, _ => []
  | f + 1, p, left =>
    if left = 0 then []
    else
      let n := min left (ha - p % ha)
      (p / ha, p % ha, n) :: segments ha f (p + n) (left - n)

/-- A video sender hands its next packet to the MAC (R285): the payload header and packing of RFC 4175, which ST 2110-20
takes over. The last packet of the frame carries the marker, and delivers the frame. -/
def State.txVideo (s : State) (k : Nat) : State :=
  match (s.txs k).frame with
  | none => s
  | some f =>
    if !s.on .ore ∨ !s.flag (Reg.ORE_TX_CFG_EN k) ∨ 2 ≤ k % 4 then s
    else
      let g := s.get (Reg.ORE_TX_CFG_TG k)
      let ha := s.get (Reg.ORE_TG_H_HA g)
      let total := ha * s.get (Reg.ORE_TG_V_VA g)
      let p := (s.txs k).pixel
      let n := min (total - p) (s.get (Reg.ORE_TX_PKT_BYTES k) / 5 * 2)
      let segs := segments ha 64 p n
      let runs := (s.tg g).under.filter (fun r => r.sink == 32 + k)
      let line := fun y => repeatRuns (runs.filter (fun r => r.line == y)) 0 (s.line422 g y)
      let heads := segs.zipIdx.flatMap (fun e =>
        beBytes 2 (e.1.2.2 / 2 * 5) ++ beBytes 2 (e.1.1 % 2 ^ 15) ++ beBytes 2 (e.1.2.1 % 2 ^ 15 + if e.2 + 1 < segs.length then 2 ^ 15 else 0))
      let data := segs.flatMap (fun e => ((pgroups ((line e.1).drop e.2.1)).take (e.2.2 / 2)).flatten)
      let last := decide (total ≤ p + n)
      let ts := f.tag.stamp * 90000 / 1000000000 % 2 ^ 32
      let s := s.sendRtp k last ts (beBytes 2 ((s.txs k).seq / 65536) ++ heads ++ data)
      if last then
        let s := s.setTx k (fun x => { x with frame := none, pixel := 0 })
        s.deliverTag f.tag (fun b => b.kind == 2 && b.idx == k && (s.path b.path).inFlight.contains ((f.tag.on b.path).getD 0))
      else s.setTx k (fun x => { x with pixel := p + n })

/-- An audio sender's packet time (R286): 48 or 6 samples of each channel from AUD_QUEUE, zero where none is there. -/
def State.txAudio (s : State) (k : Nat) : State :=
  if !s.on .ore ∨ !s.flag (Reg.ORE_TX_CFG_EN k) ∨ k % 4 < 2 then s
  else
    let n := if s.flag (Reg.ORE_TX_CFG_PTIME k) then 6 else 48
    let w := if s.get (Reg.ORE_TX_CFG_FMT k) = 0 then 16 else 24
    let chans := s.get (Reg.ORE_TX_CFG_CH_M1 k) + 1
    let q := s.get (Reg.ORE_TX_CFG_AUD_QUEUE k)
    let s :=
      if n ≤ (s.txs k).audio.length ∨ q = 0 then s
      else
        let (cells, s) := s.readItem q 4096
        match cells.head? with
        | none => s
        | some c =>
          let s := if itemPoison cells ≠ 0 then s.audioPoison (leVal (bytesAt c.data 24 1)) (leVal (bytesAt c.data 0 6)) else s
          s.setTx k (fun x => { x with
            audioNs := if x.audio.isEmpty then leVal (bytesAt c.data 12 6) * 1000000000 + leVal (bytesAt c.data 18 4) else x.audioNs
            audio := x.audio ++ blockSamples w cells })
    let x := s.txs k
    let short := decide (x.audio.length < n)
    let t := if x.audio.isEmpty then s.mediaNs else x.audioNs
    let s := if short then s.audioMissing (0x30 + k) else s
    let data := (List.range n).flatMap (fun j => (List.range chans).flatMap (fun c => beBytes (w / 8) ((x.audio.getD j []).getD c 0)))
    let s := s.setTx k (fun x => { x with audio := x.audio.drop n, audioNs := x.audioNs + n * 1000000000 / 48000 })
    s.sendRtp k false (t * 48000 / 1000000000 % 2 ^ 32) data

/-- The link of an Ethernet port goes up or down (R288). -/
def State.ethLink (s : State) (p : Nat) (up : Bool) : State := { s with ore := { s.ore with eth := updN s.ore.eth p (fun _ => up) } }

/-- STATE of a generator (Table of ORE_TG_STATUS): 0 DISABLED, 1 WAIT_GRID, 2 RUNNING, 3 HOLDOVER. -/
def State.tgState (s : State) (g : Nat) : Nat :=
  if !s.enabled .ore ∨ !s.flag (Reg.ORE_TG_CFG_EN g) then 0
  else if !s.established then 1
  else if s.rtuState = 4 then 3
  else 2

/-- Current line of a generator, 0 at the first active line. -/
def State.tgLine (s : State) (g : Nat) : Nat :=
  match (s.tg g).activeNs with
  | none => 0
  | some a =>
    let p := s.tgPeriod g
    if p = 0 then 0 else min (s.get (Reg.ORE_TG_V_VT g) - 1) ((s.mediaNs - a) * s.get (Reg.ORE_TG_V_VT g) / p)

/-- The unit is enabled or disabled: what its instances held is gone. -/
def State.oreEnable (s : State) : State :=
  let s := { s with ore := { s.ore with
    tgs := s.ore.tgs.map (fun (x : TgSt) => { TgSt.reset with pal := x.pal, palActive := x.palActive }), ris := Vector.replicate 4 RiSt.reset,
    txs := Vector.replicate 8 TxSt.reset } }
  let s := (List.range 8).foldl (fun s g => s.put (Reg.ORE_TG_STATUS g) 0) s
  s.oreSync

/-! ### The commands -/

def execTgVblank (t : Nat) (g : Fin 8) (s : State) : Res := .next ((s.tick t).tgVblank g)
def execTgActiveStart (t : Nat) (g : Fin 8) (s : State) : Res := .next ((s.tick t).tgActive g)
def execTgActiveEnd (t : Nat) (g : Fin 8) (s : State) : Res := .next ((s.tick t).tgEnd g)
def execUnderrun (t sink line x n : Nat) (s : State) : Res := .next ((s.tick t).underrun sink line x n)
def execTgClr (t : Nat) (g : Fin 8) (s : State) : Res := .next ((s.tick t).cmd .ore true (Reg.ORE_TG_CTL g) 1 (fun s => s.tgClr g))
def execPaletteSwap (t : Nat) (g : Fin 8) (s : State) : Res := .next ((s.tick t).cmd .ore true (Reg.ORE_TG_CTL g) (2 ^ 31) (fun s => s.palRequest g))
def execRiLock (t : Nat) (i : Fin 4) (rate : Fin 4) (st352 : Word) (s : State) : Res := .next ((s.tick t).riLock i rate st352.toNat)
def execRiFrame (t : Nat) (i : Fin 4) (row : Nat) (wide psf : Bool) (num den : Nat) (s : State) : Res :=
  .next ((s.tick t).riFrame i row wide psf num den)
def execRiFrameWritten (t : Nat) (i : Fin 4) (p : RiPixels) (anc : List (List Byte)) (crc : List (Nat × Nat × Nat)) (s : State) : Res :=
  .next ((s.tick t).riWritten i p anc crc)
def execRiLockLost (t : Nat) (i : Fin 4) (p : RiPixels) (s : State) : Res := .next ((s.tick t).riLost i p)
def execPsrEnter (t : Nat) (k : Fin 2) (s : State) : Res := .next ((s.tick t).cmd .ore true (Reg.ORE_PNL_CTL k) 1 (fun s => s.psrEnter k))
def execPsrEntryDone (t : Nat) (k : Fin 2) (s : State) : Res := .next ((s.tick t).psrDone k)
def execPsrExit (t : Nat) (k : Fin 2) (s : State) : Res := .next ((s.tick t).cmd .ore true (Reg.ORE_PNL_CTL k) 2 (fun s => s.psrExit k))
def execRetrain (t : Nat) (k : Fin 2) (s : State) : Res := .next ((s.tick t).cmd .ore true (Reg.ORE_PNL_CTL k) 4 (fun s => s.pnlRetrain k))
def execPanelTrainDone (t : Nat) (k : Fin 2) (ok psr : Bool) (s : State) : Res := .next ((s.tick t).pnlTrained k ok psr)
def execHpdChange (t : Nat) (k : Fin 2) (level irq : Bool) (s : State) : Res := .next ((s.tick t).hpd k level irq)
def execAuxCmd (t : Nat) (k : Fin 2) (v : Word) (reply : List Word) (s : State) : Res :=
  .next ((s.tick t).cmd .ore true (Reg.ORE_PNL_AUX_CMD k) v.toNat (fun s => s.auxCmd k v reply))
def execSt2110VideoPacket (t : Nat) (k : Fin 8) (s : State) : Res := .next ((s.tick t).txVideo k)
def execSt2110AudioPacket (t : Nat) (k : Fin 8) (s : State) : Res := .next ((s.tick t).txAudio k)
def execEthLinkChange (t : Nat) (p : Fin 2) (up : Bool) (s : State) : Res := .next ((s.tick t).ethLink p up)

end Sys2Proof.Machine
end

