-- ==== Sys2Proof/Machine/Pcd.lean ====
section
/-!
DEFINITION. The picture coder: picture starts and ends of the encode sessions with rate control and the motion field
export, the decode sessions' grid and outputs, and the coder's commands (08_picture_coder.md R193 to R220).
-/

namespace Sys2Proof.Machine

/-! ### Encode sessions -/

/-- An encode session. -/
def State.enc (s : State) (i : Nat) : EncSt := getN s.pcd.enc i EncSt.reset

/-- Replace an encode session. -/
def State.setEnc (s : State) (i : Nat) (f : EncSt → EncSt) : State :=
  { s with pcd := { s.pcd with enc := updN s.pcd.enc i f } }

/-- A decode session, 0 for session 4. -/
def State.dec (s : State) (i : Nat) : DecSt := getN s.pcd.dec i DecSt.reset

/-- Replace a decode session. -/
def State.setDec (s : State) (i : Nat) (f : DecSt → DecSt) : State :=
  { s with pcd := { s.pcd with dec := updN s.pcd.dec i f } }

/-- The booked path that session i codes. -/
def State.encPath (s : State) (i : Nat) : Option Booking := s.plan.bookings.find? (fun b => b.kind == 3 && b.idx == i)

/-- Hierarchy length G of a GOP_STRUCT code, 1 for IPPP, and its logarithm. -/
def gopG (g : Nat) : Nat := 2 ^ g

/-- Layer of position k in a hierarchy of length 2^l (R198). -/
def layerOf (l k : Nat) : Nat := if k = 2 ^ l then 0 else l - ((List.range l).takeWhile (fun j => k % 2 ^ (j + 1) == 0)).length

/-- The references of a picture of a layer (R198), most recent first. -/
def refsOf (gop numRef layer : Nat) (dpb : List RefPic) : List RefPic :=
  if gop = 0 then dpb.take (numRef + 1)
  else (dpb.filter (fun p => decide (p.layer < layer) || (layer == 0 && p.layer == 0))).take 2

/-- The pictures that some later picture may still reference. -/
def keptRefs (gop numRef : Nat) (dpb : List RefPic) : List RefPic :=
  if gop = 0 then dpb.take (numRef + 1)
  else dpb.filter (fun p => (List.range (gop + 1)).any (fun l => (refsOf gop numRef l dpb).contains p))

/-- What makes the next picture an IRAP when it changes (R219). -/
def State.encSig (s : State) (i : Nat) (o : RenderOut) : List Nat :=
  [s.get (Reg.PCD_SES_CFG_SRC_RP i), s.get (Reg.PCD_SES_CFG_PROFILE i), s.get (Reg.PCD_SES_CFG_TIER i),
   s.get (Reg.PCD_SES_CFG_LEVEL_IDC i), s.get (Reg.PCD_SES_CFG_GOP_STRUCT i), s.get (Reg.PCD_SES_CFG_NUM_REF i),
   s.get (Reg.PCD_SES_CFG_IRAP_TYPE i), s.get (Reg.PCD_SES_CFG_SKIP i), o.w, o.h, o.fmt, o.depth, o.matrix, o.range, o.safe]

/-- Frame allowance R_f (R205). -/
def State.encAllowance (s : State) (i src : Nat) : Nat :=
  let g := s.srcGrid src s.mediaNs
  if g.num = 0 then 0 else s.get (Reg.PCD_RC_BITRATE i) * 1000 * g.den * (s.get (Reg.PCD_SES_CFG_SKIP i) + 1) / g.num

/-- WT of a class: I, then layers 0 to 3. -/
def State.encWeight (s : State) (i cls : Nat) : Nat :=
  match cls with
  | 0 => s.get (Reg.PCD_RC_WT_WT_I i)
  | 1 => s.get (Reg.PCD_RC_WT_WT_L0 i)
  | 2 => s.get (Reg.PCD_RC_WT_WT_L1 i)
  | 3 => s.get (Reg.PCD_RC_WT_WT_L2 i)
  | _ => s.get (Reg.PCD_RC_WT2_WT_L3 i)

/-- The budget of R205. -/
def budgetOf (rf wt debt spread maxPic buf : Nat) : Int :=
  max ((rf / 16 : Nat) : Int)
    (min (((rf * wt / 32 : Nat) : Int) - ((debt / spread : Nat) : Int)) (min (8 * (maxPic : Int) - 4096) ((buf : Int) - debt)))

/-- The budget of session i for a class. -/
def State.encBudget (s : State) (i rf cls : Nat) : Int :=
  budgetOf rf (s.encWeight i cls) (s.enc i).debt (2 ^ (s.get (Reg.PCD_RC_CFG_SPREAD_SH i) + 1))
    (s.get (Reg.PCD_RC_MAXPIC i)) (s.get (Reg.PCD_RC_BUF i))

/-- A value to the nearest integer, ties away from zero. -/
def Fl.nearest (a : Fl) : Int :=
  if a.isNeg then -((a.neg.add (.ofFrac 1 2)).floor) else (a.add (.ofFrac 1 2)).floor

/-- gain ÷ 8 × 6 × log2(a ÷ b) in binary32, rounded; 0 where a or b is not positive (R206, R207). -/
def logStep (gain : Nat) (a b : Fl) : Int :=
  if Fl.zero.lt a && Fl.zero.lt b then
    (((Fl.ofFrac gain 8).mul (.ofInt 6)).mul (a.div b).log2).nearest
  else 0

/-- QP_base (R206, R210). -/
def State.qpBase (s : State) (i cls : Nat) (bud : Int) : Nat :=
  let init := s.get (Reg.PCD_RC_CFG_QP_INIT i)
  if s.get (Reg.PCD_RC_CFG_MODE i) = 0 then init
  else match SMap.lookup (s.enc i).classes cls with
    | none => init
    | some c =>
      let q := clampI ((c.qp : Int) - 6) (c.qp + 6) (c.qp + logStep 8 (.ofInt c.bits) (.ofInt bud))
      (clampI (s.get (Reg.PCD_RC_CFG_QP_MIN i)) (s.get (Reg.PCD_RC_CFG_QP_MAX i)) q).toNat

/-- VUI colour_primaries (Table PCD-6). -/
def vuiPrimaries (gamut ws : Nat) : Nat :=
  match gamut with
  | 1 => 1 | 2 => 9 | 3 => 12
  | _ => if ws = 1 then 9 else 2

/-- VUI transfer_characteristics (Table PCD-6). -/
def vuiTransfer (t : Nat) : Nat :=
  match t with
  | 0 => 8 | 1 => 8 | 3 => 16 | 4 => 18 | 5 => 1 | _ => 2

/-- VUI matrix_coeffs (Table PCD-6). -/
def vuiMatrix (m : Nat) : Nat := if m = 2 then 9 else 1

/-- The oldest complete frame of the session's render path that its path accepted after the last one coded (R195). -/
def State.nextPicture (s : State) (i : Nat) (b : Booking) : Option (RenderOut × Nat) :=
  ((s.rp (s.get (Reg.PCD_SES_CFG_SRC_RP i))).outs.reverse.filterMap (fun o => (o.tag.on b.path).map (fun n => (o, n)))).find?
    (fun e => e.1.done && (match (s.enc i).last with
      | some l => decide (l < e.2)
      | none => true) && (s.path b.path).inFlight.contains e.2)

/-- A picture is an IRAP (R199, R219, R220). -/
def State.isIrap (s : State) (i n : Nat) (sig : List Nat) : Bool :=
  let e := s.enc i
  !e.active || decide (s.get (Reg.PCD_SES_GOP_LEN i) ≤ e.sinceIrap + 1) ||
    e.last != some (n - (s.get (Reg.PCD_SES_CFG_SKIP i) + 1)) || (e.force.map (fun c => decide (c < s.now))).getD false || e.sig != sig

/-- Picture start of an encode session (R195, R198 to R200, R205, R206, R219). -/
def State.pictureStart (s : State) (i : Nat) : State :=
  if !s.on .pcd || (s.enc i).pic.isSome then s
  else
    match s.encPath i with
    | none => s
    | some b =>
      match s.nextPicture i b with
      | none => s
      | some (o, n) =>
        let s := s.boundary (.pcd i) o.tag.begun false
        if !s.flag (Reg.PCD_SES_CFG_EN i) then s
        else
          let gop := s.get (Reg.PCD_SES_CFG_GOP_STRUCT i)
          let sig := s.encSig i o
          let irap := s.isIrap i n sig
          let e := s.enc i
          let k := if irap then 0 else e.pos + 1
          let layer := if irap then 0 else layerOf gop k
          let dpb := if irap then [] else e.dpb
          let refs := refsOf gop (s.get (Reg.PCD_SES_CFG_NUM_REF i)) layer dpb
          let poc := if irap && s.get (Reg.PCD_SES_CFG_IRAP_TYPE i) == 0 then 0 else e.nextPoc
          let cls := if irap then 0 else layer + 1
          let rf := s.encAllowance i o.tag.src
          let bud := s.encBudget i rf cls
          let tc := s.frameTimeCode (s.srcGrid o.tag.src o.tag.stamp) o.tag.stamp
          let qp := s.qpBase i cls bud
          let h : PicHead := {
            frame := n, stamp := o.tag.stamp, irap := irap, typ := if irap then 0 else if gop = 0 then 1 else 2,
            poc := poc, layer := layer, refs := refs.map (·.poc), qpBase := qp, rowQp := [], exhaustRow := none,
            guard := none, poisoned := o.tag.poison.length, transfer := o.transfer, fullRange := o.range == 0,
            colourPrimaries := vuiPrimaries o.gamut o.ws, transferChar := vuiTransfer o.transfer,
            matrixCoeffs := vuiMatrix o.matrix, uuid := (List.range 4).map (fun j => s.get (Reg.PCD_SEI_UUID i j)),
            timecode := (tc.h, tc.m, tc.s, tc.f) }
          let dist := match refs with
            | r :: _ => poc - r.poc
            | [] => 1
          let p : EncPic := { out := o, path := some b.path, num := n, head := h, cls := cls, budget := bud, allowance := rf, dist := dist }
          s.setEnc i (fun x => { x with
            active := true, pic := some p, last := some n, nextPoc := poc + 1
            sinceIrap := if irap then 0 else x.sinceIrap + 1
            pos := if irap || k == gopG gop then 0 else k
            dpb := dpb, sig := sig
            force := match x.force with
              | some c => if c < s.now then none else some c
              | none => none })

/-- The QPs of rows 0 on (R207): `S` and `P` are the running sums of the picture's bits and of the profile. -/
def rowQps (base : Nat) (bud : Int) (gain dqp lo hi total : Nat) (S : Nat) (P : Nat) : List Nat → List Nat → List Nat
  | bits :: rest, prof =>
    let p := P + prof.headD 0
    let S' := S + bits
    let C := if total = 0 then Fl.zero else Fl.ofFrac (bud * p) total
    let q := clampI lo hi (clampI ((base : Int) - dqp) (base + dqp) (base + logStep gain (.ofInt S') C))
    q.toNat :: rowQps base bud gain dqp lo hi total S' p rest prof.tail
  | [], _ => []

/-- Rows of CTUs and CTUs in a row. -/
def ctuRows (h : Nat) : Nat := ceilDiv h 64
def ctuCols (w : Nat) : Nat := ceilDiv w 64

/-- The first row that is coded in exhaustion mode because the bits so far have reached the budget (R208). -/
def exhaustRow (bud : Int) (S r : Nat) : List Nat → Option Nat
  | bits :: b :: rest => if bud ≤ ((S + bits : Nat) : Int) then some (r + 1) else exhaustRow bud (S + bits) (r + 1) (b :: rest)
  | _ => none

/-- CTU from which exhaustion mode holds, from the budget and the guards (R208, R209). -/
def exhaustCtu (cols : Nat) (row guard : Option Nat) : Option Nat :=
  match row, guard with
  | some r, some g => some (min (r * cols) g)
  | some r, none => some (r * cols)
  | none, g => g

/-- Mean of the QPs of a picture's CTUs, exhaustion CTUs at QP_MAX, rounded (R206). -/
def meanQp (cols rows qpMax : Nat) (qps : List Nat) (from' : Option Nat) : Nat :=
  let n := cols * rows
  let l := (List.range n).map (fun j => match from' with
    | some f => if f ≤ j then qpMax else qps.getD (j / cols) 0
    | none => qps.getD (j / cols) 0)
  if n = 0 then 0 else roundDiv (sumN l) n

/-- An entry of the motion field (Table CSE-7, R161, R213). -/
def mfEntry (dist : Nat) (dead : Bool) (v : Int × Int × Nat × Bool) : Nat :=
  let x := ofSigned 13 (roundDivI v.1 dist)
  let y := ofSigned 12 (roundDivI v.2.1 dist)
  x * 2 ^ 19 + y * 2 ^ 7 + min 63 (v.2.2.1 / 1024) * 2 + b2n (v.2.2.2 && !dead)

/-- The motion field of a picture: its entries in raster order (R160, R213). -/
def mfField (w h : Nat) (irap : Bool) (dist : Nat) (from' : Option Nat) (vs : List (Int × Int × Nat × Bool)) : List Byte :=
  let bx := ceilDiv w 16
  (List.range (bx * ceilDiv h 16)).flatMap (fun k =>
    let ctu := k / bx / 4 * ctuCols w + k % bx / 4
    let dead := irap || (match from' with
      | some f => decide (f ≤ ctu)
      | none => false)
    leBytes 4 (mfEntry dist dead (vs.getD k (0, 0, 0, false))))

/-- The descriptor of a motion field (Table CSE-6). -/
def mfDescriptor (p : EncPic) (addr dist i : Nat) : List Byte :=
  let o := p.out
  leBytes 6 p.num ++ leBytes 2 dist ++ leBytes 5 addr ++ leBytes 1 (b2n !p.head.irap) ++ zeros 2 ++
    leBytes 2 (ceilDiv o.w 16) ++ leBytes 2 (ceilDiv o.h 16) ++ leBytes 2 o.w ++ leBytes 2 o.h ++
    leBytes 2 o.crop.1 ++ leBytes 2 o.crop.2.1 ++ leBytes 2 o.crop.2.2.1 ++ leBytes 2 o.crop.2.2.2 ++
    leBytes 1 i ++ zeros 31

/-- Write the motion field and post its descriptor (R213). -/
def State.mfExport (s : State) (i : Nat) (p : EncPic) (from' : Option Nat) (vs : List (Int × Int × Nat × Bool)) : State :=
  if !s.flag (Reg.PCD_MF_CFG_EN i) then s
  else
    let o := p.out
    let dist := if p.head.irap then 1 else (s.get (Reg.PCD_SES_CFG_SKIP i) + 1) * p.dist
    let stride := ceilDiv (4 * ceilDiv o.w 16 * ceilDiv o.h 16) 64 * 64
    let addr := s.addr40 (Reg.PCD_MF_BASE_LO i) (Reg.PCD_MF_BASE_HI_V i) + stride * (s.enc i).mfSlot
    let s := s.write addr (mfField o.w o.h p.head.irap dist from' vs)
    let s := s.setEnc i (fun x => { x with mfSlot := (x.mfSlot + 1) % 5 })
    s.unitPost (s.get (Reg.PCD_MF_CFG_QUEUE i)) (mfDescriptor p addr dist i)

/-- Keep the reconstructed picture in the first buffer that no kept reference holds (R198, R203). -/
def State.storeRecon (s : State) (i : Nat) (p : EncPic) (recon : List Byte) : State :=
  let gop := s.get (Reg.PCD_SES_CFG_GOP_STRUCT i)
  let top := gop != 0 && p.head.layer == gop && !p.head.irap
  let kept := keptRefs gop (s.get (Reg.PCD_SES_CFG_NUM_REF i)) (s.enc i).dpb
  let n := s.bufCount .pcdRef i
  let slot := ((List.range n).find? (fun k => !(s.enc i).dpb.any (fun r => r.slot == k))).getD 0
  let s := match s.buf .pcdRef i slot with
    | some b => (s.startBuffer b p.num 0).write b.base (recon.take b.bytes)
    | none => s
  let dpb := if top then kept else { layer := p.head.layer, poc := p.head.poc, slot := slot } :: kept
  s.setEnc i (fun x => { x with dpb := keptRefs gop (s.get (Reg.PCD_SES_CFG_NUM_REF i)) dpb })

/-- Count for a counter of an encode session, which shows it at picture end. -/
def State.countPcd (s : State) (f : Fld) (n : Nat) : State := { s with pcd := { s.pcd with late := addLate s.pcd.late f n } }

/-- At picture end the session's counters take what waits for them (Table PCD-11). -/
def State.takePcd (s : State) (i : Nat) : State :=
  let fs := [Reg.PCD_CNT_REF_INTRA i, Reg.PCD_CNT_PARITY i]
  let s := s.takeLate s.pcd.late fs
  { s with pcd := { s.pcd with late := dropLate s.pcd.late fs } }

/-- Rate control at picture end (R208, R209). -/
def State.rateEnd (s : State) (i : Nat) (p : EncPic) (bits : Nat) (row guard : Option Nat) : State :=
  let s := s.put (Reg.PCD_RC_LAST_BITS i) (sat32 bits)
  let s :=
    if s.get (Reg.PCD_RC_CFG_MODE i) = 0 then s
    else
      let debt := ((s.enc i).debt + bits) - p.allowance
      let s := (s.setEnc i (fun x => { x with debt := debt })).puts
        [(Reg.PCD_RC_OVERSHOOT i, sat32 ((bits : Int) - p.budget).toNat), (Reg.PCD_RC_DEBT i, sat32 debt)]
      if s.get (Reg.PCD_RC_BUF i) < debt then
        (s.count (Reg.PCD_CNT_BUF_OVER i) 1).raise .pcd 13
      else s
  let s := if guard.isSome then s.count (Reg.PCD_CNT_GUARD i) 1 else s
  if row.isSome || guard.isSome then (s.count (Reg.PCD_CNT_EXHAUST i) 1).raise .pcd 8 else s

/-- Picture end of an encode session: rate control, the reconstructed picture, the motion field, then the access unit
as a frame of the take and its index entry (R203, R206 to R213). -/
def State.pictureEnd (s : State) (i : Nat) (r : PicResult) : State :=
  if !s.live .pcd then s
  else
    match (s.enc i).pic with
    | none => s
    | some p =>
      let o := p.out
      let cqp := s.get (Reg.PCD_RC_CFG_MODE i) == 0
      let rows := (r.rows.map (·.2)).take (ctuRows o.h)
      let cols := ctuCols o.w
      let prof := match SMap.lookup (s.enc i).classes p.cls with
        | some c => c.rows
        | none => List.replicate (ctuRows o.h) 1
      let base := p.head.qpBase
      let later := rowQps base p.budget (s.get (Reg.PCD_RC_CFG_ROW_GAIN i)) (s.get (Reg.PCD_RC_CFG_DQP_ROW i))
        (s.get (Reg.PCD_RC_CFG_QP_MIN i)) (s.get (Reg.PCD_RC_CFG_QP_MAX i)) (sumN prof) 0 0 rows prof
      let qps := if cqp then rows.map (fun _ => base) else (base :: later).take rows.length
      let row := if cqp then none else exhaustRow p.budget 0 0 rows
      let guard := r.guard.filter (fun g => decide (g < cols * ctuRows o.h))
      let from' := exhaustCtu cols row guard
      let bits := sumN rows
      let s := s.rateEnd i p bits row guard
      let mean := meanQp cols (ctuRows o.h) (s.get (Reg.PCD_RC_CFG_QP_MAX i)) qps from'
      let h := { p.head with rowQp := qps, exhaustRow := row, guard := guard }
      let rec' : ClassRec := { bits := bits, qp := mean, rows := (r.rows.map (·.1)).take (ctuRows o.h) }
      let s := s.storeRecon i p r.recon
      let s := s.mfExport i p from' r.vectors
      let s := match p.path with
        | none => s
        | some path =>
          let reel := s.get (Reg.PCD_SES_OUT_REEL i)
          match s.reservation reel path p.num with
          | none => s
          | some v =>
            let au := r.au.take (s.get (Reg.PCD_RC_MAXPIC i))
            let s := s.write (s.blockAddr v.block) au
            s.indexFrame reel path p.num 3 o.tag.flags au.length o.tag.stamp
      let s := match o.base with
        | some b => s.releaseBuffer b
        | none => s
      let s := ((s.takePcd i).count (Reg.PCD_CNT_PIC i) 1).bump (Reg.PCD_FRAME_SEQ i)
      let s := s.puts [(Reg.PCD_SES_STATUS_EXHAUST i, b2n from'.isSome), (Reg.PCD_SES_STATUS_LAST_TYPE i, h.typ),
        (Reg.PCD_SES_STATUS_LAST_POC i, h.poc % 2 ^ 16), (Reg.PCD_SES_STATUS_LAST_QP i, base)]
      (s.setEnc i (fun x => { x with pic := none, head := some h, classes := SMap.insert x.classes p.cls rec' })).raise .pcd i

/-- The picture in progress of a session is cut: its frame is not delivered. -/
def State.pictureCut (s : State) (i : Nat) : State := s.setEnc i (fun x => { x with pic := none })

/-- STATE of PCD_SES_STATUS of an encode session. -/
def State.encState (s : State) (i : Nat) : Nat :=
  if !s.enabled .pcd ∨ !s.flag (Reg.PCD_SES_CFG_EN i) then 0
  else if (s.enc i).pic.isSome then 2
  else if ((s.encPath i).map (fun b => s.flag (Reg.DEV_PATH_SHED_SHED_NOW b.path))).getD false then 3 else 1

/-- The frame due after the last picture has begun and is not coded (R195, R199): its path did not accept it. -/
def State.dueMissed (s : State) (i : Nat) : Bool :=
  match s.encPath i, (s.enc i).last with
  | some b, some l =>
    let due := l + s.get (Reg.PCD_SES_CFG_SKIP i) + 1
    match (s.path b.path).inFlight.find? (fun m => decide (l < m)) with
    | some m => m != due
    | none => decide (due ≤ s.pathCount b.path)
  | _, _ => false

/-- IRAP_PENDING of PCD_SES_STATUS: the next picture is an IRAP, as far as what has happened tells. -/
def State.irapPending (s : State) (i : Nat) : Bool :=
  let e := s.enc i
  s.enabled .pcd && s.flag (Reg.PCD_SES_CFG_EN i) &&
    (!e.active || decide (s.get (Reg.PCD_SES_GOP_LEN i) ≤ e.sinceIrap + 1) || e.force.isSome || s.dueMissed i ||
     ((s.encPath i).map (fun b => s.pathShed b.path)).getD false)

/-- Stride of the reference format (R203). -/
def refStride (w : Nat) : Nat := ceilDiv (ceilDiv w 3 * 4) 64 * 64

/-- Bytes of a reconstructed picture: 4:2:2 or 4:2:0 (R203). -/
def refBytes (w h : Nat) (c422 : Bool) : Nat := refStride w * (h + if c422 then h else h / 2)

/-- References a session uses (R204). -/
def State.encRefs (s : State) (i : Nat) : Nat :=
  if s.get (Reg.PCD_SES_CFG_GOP_STRUCT i) = 0 then s.get (Reg.PCD_SES_CFG_NUM_REF i) + 1 else 2

/-- Bytes of the band pool that the enabled encode sessions use (R202). -/
def State.bandUsed (s : State) : Nat :=
  if !s.enabled .pcd then 0
  else sumN ((List.range 4).map (fun i =>
    if !s.flag (Reg.PCD_SES_CFG_EN i) then 0
    else
      let p := s.get (Reg.PCD_SES_CFG_SRC_RP i)
      s.encRefs i * ((if s.get (Reg.RP_ENC_CFG_FMT p) = 2 then 640 else 480) * refStride (s.get (Reg.RP_OUT_SIZE_OW p)))))

/-- CLR of PCD_SES_CTL. -/
def State.pcdClr (s : State) (i : Nat) : State :=
  if i < 4 then
    s.puts [(Reg.PCD_CNT_PIC i, 0), (Reg.PCD_CNT_EXHAUST i, 0), (Reg.PCD_CNT_GUARD i, 0), (Reg.PCD_CNT_BUF_OVER i, 0),
      (Reg.PCD_CNT_REF_INTRA i, 0), (Reg.PCD_CNT_PARITY i, 0)]
  else s

/-- A write of FORCE_IRAP (R220). -/
def State.forceIrap (s : State) (i : Nat) : State :=
  s.setEnc i (fun x => { x with force := match x.force with
    | some c => some c
    | none => some s.now })

/-! ### Decode sessions -/

/-- Bytes of a buffer of a decode session's output ring (R215). -/
def State.decStride (s : State) (i : Nat) : Nat := rpFrameBytes 2 (s.get (Reg.PCD_DEC_MAX_W i)) (s.get (Reg.PCD_DEC_MAX_H i))

/-- Base of a buffer of the output ring. -/
def State.decBase (s : State) (i slot : Nat) : Nat :=
  s.addr40 (Reg.PCD_DEC_OUT_LO i) (Reg.PCD_DEC_OUT_HI_V i) + slot * s.decStride i

/-- A decode output descriptor (Table PCD-7). -/
def decDescriptor (counter : Nat) (poc : Int) (addr flags : Nat) (missing : Int) (w h : Nat) : List Byte :=
  leBytes 6 counter ++ leBytes 4 (ofSigned 32 poc) ++ leBytes 5 addr ++ leBytes 1 flags ++ leBytes 4 (ofSigned 32 missing) ++
    leBytes 2 w ++ leBytes 2 h ++ zeros 40

/-- The frame of the grid instant in hand brings no output: its paths abandon it. -/
def State.decDrop (s : State) (i : Nat) : State :=
  match (s.dec i).frame with
  | none => s
  | some t =>
    let s := s.setDec i (fun x => { x with frame := none })
    t.accepted.foldl (fun (s : State) (a : Nat × Nat) =>
      (s.setPath a.1 (fun p => { p with inFlight := p.inFlight.filter (fun n => n != a.2) })).out (.abandoned a.1 a.2 a.2)) s

/-- Post a descriptor and record the output that a generator reads (R215). -/
def State.decPost (s : State) (i : Nat) (d : List Byte) (o : DecOut) : State :=
  let s := s.setDec i (fun x => { x with
    frame := none, last := some d, counter := (x.counter + 1) % 2 ^ 48
    outs := (o :: x.outs).take (s.get (Reg.PCD_DEC_CFG_OUT_COUNT i)) })
  (s.unitPost (s.get (Reg.PCD_DEC_QUEUE_QUEUE i)) d).raise .pcd (4 + i)

/-- Post the previous output again with REPEAT (R214); without one the frame brings nothing. -/
def State.decRepeat (s : State) (i : Nat) : State :=
  match (s.dec i).frame, (s.dec i).last, (s.dec i).outs with
  | some t, some d, o :: _ =>
    let d := putBytes (putBytes d 0 (leBytes 6 ((s.dec i).counter + 1))) 15 (leBytes 1 (leVal (bytesAt d 15 1) ||| 2))
    s.decPost i d { o with tag := t, doneAt := s.now }
  | _, _, _ => s.decDrop i

/-- A grid instant of a decode session (R214): its source frame boundary. -/
def State.decInstant (s : State) (i : Nat) (due : DecDue) : State :=
  if !s.on .pcd || !s.established then s
  else
    let s := s.decDrop i
    let (tag, s) := s.sourceBoundary (6 + i) (s.dec i).counter s.mediaNs [.pcd (4 + i)] []
    if !s.flag (Reg.PCD_DEC_CFG_EN i) then s
    else
      let s := s.setDec i (fun x => { x with active := true, frame := some tag })
      match if (s.dec i).ended then DecDue.ended else due with
      | .picture => s
      | .nothing => s.decRepeat i
      | .ended => (s.setDec i (fun x => { x with ended := true })).decRepeat i

/-- Write a decoded picture to the output ring (R215). -/
def State.decWrite (s : State) (base : Nat) (p : DecPic) : State :=
  let fmt := if p.c422 then 2 else 3
  let st := planeStride fmt p.w
  let ch := if p.c422 then p.h else p.h / 2
  let s := (List.range p.h).foldl (fun (s : State) y =>
    s.write (base + y * st) (((p.y.drop (y * p.w)).take p.w).flatMap (leBytes 2))) s
  (List.range ch).foldl (fun (s : State) y =>
    s.write (base + (p.h + y) * st) (cbcrBytes ((p.cb.drop (y * (p.w / 2))).take (p.w / 2)) ((p.cr.drop (y * (p.w / 2))).take (p.w / 2)))) s

/-- A decode output (R214 to R216, R218, Table PCD-8). -/
def State.decOutput (s : State) (i : Nat) (p : DecPic) : State :=
  if !s.live .pcd then s
  else
    match (s.dec i).frame with
    | none => s
    | some t =>
      let big := p.unsupported || decide (s.get (Reg.PCD_DEC_MAX_W i) < p.w ∨ s.get (Reg.PCD_DEC_MAX_H i) < p.h)
      let n := (s.dec i).counter + 1
      if big then
        let s := ((s.count (Reg.PCD_DCNT_UNSUPPORTED i) 1).raise .pcd 12).logFree .pcd (4 + i) 12 0x0A n
        (s.setDec i (fun x => { x with discarding := true })).decRepeat i
      else if (s.dec i).discarding && !p.irap then s.decRepeat i
      else
        let was := (s.dec i).concealed
        let keep := if p.irap then none else was
        let now := match keep with
          | some q => some q
          | none => p.missing
        let err := p.dataError || (s.dec i).parity
        let s := if p.missing.isSome then s.count (Reg.PCD_DCNT_MISSING_REF i) 1 else s
        let s := if err then s.count (Reg.PCD_DCNT_DATA_ERR i) 1 else s
        let s := if p.hashMismatch then s.count (Reg.PCD_DCNT_HASH i) 1 else s
        let s := if (now.isSome && keep.isNone) || err then s.fault .pcd 11 (4 + i) 0x0A n 0 0 else s
        let slot := ((s.dec i).slot + 1) % max 1 (s.get (Reg.PCD_DEC_CFG_OUT_COUNT i))
        let base := s.decBase i slot
        let s := s.decWrite base p
        let flags := b2n (now.isSome || err) + 4 * b2n p.irap + 8 * b2n p.hashMismatch + 16 * b2n err
        let s := s.setDec i (fun x => { x with slot := slot, concealed := now, discarding := false, parity := false })
        let s := s.puts [(Reg.PCD_SES_STATUS_LAST_TYPE (4 + i), min 2 p.typ), (Reg.PCD_SES_STATUS_LAST_POC (4 + i), ofSigned 16 p.poc)]
        let d := decDescriptor n p.poc base flags (now.getD 0) p.w p.h
        s.decPost i d {
          tag := { t with incomplete := false }, base := base, w := p.w, h := p.h, fmt := if p.c422 then 2 else 3
          depth := if p.depth = 8 then 0 else 1, slot := slot, doneAt := s.now }

/-- STATE of PCD_SES_STATUS of a decode session. -/
def State.decState (s : State) (i : Nat) : Nat :=
  if !s.enabled .pcd ∨ !s.flag (Reg.PCD_DEC_CFG_EN i) then 0
  else if (s.dec i).ended then 4
  else if (s.dec i).frame.isSome then 2
  else if s.plan.bookings.any (fun b => b.src == 6 + i && s.pathShed b.path) then 3 else 1

/-- A parity error in a session's buffers (R218). -/
def State.pcdParity (s : State) (ses : Nat) (k : PcdBuf) : State :=
  if !s.on .pcd then s
  else
    let s := ((if ses < 4 then s.countPcd (Reg.PCD_CNT_PARITY ses) 1 else s.count (Reg.PCD_DCNT_PARITY (ses - 4)) 1).raise .pcd 10)
    let frame := if ses < 4 then ((s.enc ses).pic.map (·.num)).getD 0 else (s.dec (ses - 4)).counter
    let s := s.logFree .pcd ses 10 0x02 frame
    if k = .decode ∧ 4 ≤ ses then s.setDec (ses - 4) (fun x => { x with parity := true }) else s

/-- CTUs coded intra because a reference read failed (R217). -/
def State.refIntra (s : State) (i ctus : Nat) : State :=
  if (s.enc i).pic.isSome then
    ((s.countPcd (Reg.PCD_CNT_REF_INTRA i) ctus).raise .pcd 9)
  else s

/-- Sessions whose EN the values in effect clear, and every session while the unit is disabled, start anew. -/
def State.pcdSync (s : State) : State :=
  let s := (List.range 4).foldl (fun (s : State) i =>
    if (s.enabled .pcd && s.flag (Reg.PCD_SES_CFG_EN i)) || (s.enc i).pic.isSome then s else s.setEnc i (fun _ => EncSt.reset)) s
  (List.range 2).foldl (fun (s : State) i =>
    if s.enabled .pcd && s.flag (Reg.PCD_DEC_CFG_EN i) then s else s.setDec i (fun _ => DecSt.reset)) s

/-! ### The commands -/

def execPictureStart (t : Nat) (i : Fin 4) (s : State) : Res := .next ((s.tick t).pictureStart i)
def execPictureEnd (t : Nat) (i : Fin 4) (r : PicResult) (s : State) : Res := .next ((s.tick t).pictureEnd i r)
def execForceIrap (t : Nat) (i : Fin 4) (s : State) : Res :=
  .next ((s.tick t).cmd .pcd true (Reg.PCD_SES_CTL i) 1 (fun s => s.forceIrap i))
def execPcdSesClr (t : Nat) (i : Fin 4) (s : State) : Res :=
  .next ((s.tick t).cmd .pcd true (Reg.PCD_SES_CTL i) 2 (fun s => s.pcdClr i))
def execDecGridInstant (t : Nat) (i : Fin 2) (due : DecDue) (s : State) : Res := .next ((s.tick t).decInstant i due)
def execDecOutputPost (t : Nat) (i : Fin 2) (p : DecPic) (s : State) : Res := .next ((s.tick t).decOutput i p)
def execPcdParity (t : Nat) (ses : Fin 6) (k : PcdBuf) (s : State) : Res := .next ((s.tick t).pcdParity ses k)

end Sys2Proof.Machine
end

