-- ==== Sys2Proof/Machine/Erp.lean ====
section
/-!
DEFINITION. The Elota Raw Packed format: tiles, tokens, frames, the encoder's choices and the decoder's checks
(09_raw_packed_format.md R226 to R241, R248).
-/

namespace Sys2Proof.Machine

/-! ### Tiles -/

/-- What the coding of a tile depends on: columns, rows, samples per site, lattice distance, coded width. -/
structure ErpTile where
  w : Nat
  h : Nat
  sps : Nat
  d : Nat
  n : Nat
  deriving DecidableEq, Repr

/-- Samples of a tile. -/
def ErpTile.count (g : ErpTile) : Nat := g.w * g.h * g.sps

/-- Column and row of a sample index within its plane (R230). -/
def ErpTile.col (g : ErpTile) (i : Nat) : Nat := i % (g.w * g.h) % g.w
def ErpTile.row (g : ErpTile) (i : Nat) : Nat := i % (g.w * g.h) / g.w

/-- Context of a sample (R230). -/
def ErpTile.ctx (g : ErpTile) (i : Nat) : Nat :=
  i / (g.w * g.h) * (g.d * g.d) + g.row i % g.d * g.d + g.col i % g.d

/-- Median of three numbers. -/
def median3 (a b c : Int) : Int := max (min a b) (min (max a b) c)

/-- The prediction of sample i from the samples before it (R233, Table ERP-5). -/
def ErpTile.predict (g : ErpTile) (v : Array Nat) (pred i : Nat) : Nat :=
  let left := decide (g.d ≤ g.col i)
  let up := decide (g.d ≤ g.row i)
  let a := v.getD (i - g.d) 0
  let b := v.getD (i - g.d * g.w) 0
  let c := v.getD (i - g.d * g.w - g.d) 0
  if !left && !up then 2 ^ (g.n - 1)
  else if !up then a
  else if !left then b
  else match pred with
    | 0 => a
    | 1 => b
    | 2 => (a + b) / 2
    | 3 => (clampI 0 ((2 ^ g.n - 1 : Nat) : Int) ((a : Int) + b - c)).toNat
    | _ => (median3 a b ((a : Int) + b - c)).toNat

/-- The mapped residual of a value against its prediction (R234). -/
def mapResidual (n v p : Nat) : Nat :=
  let e := (v + 2 ^ n - p) % 2 ^ n
  if e < 2 ^ (n - 1) then 2 * e else 2 * (2 ^ n - e) - 1

/-- The value that a mapped residual restores (R234). -/
def unmapResidual (n m p : Nat) : Nat := if m % 2 = 0 then (p + m / 2) % 2 ^ n else (p + 2 ^ n - (m + 1) / 2) % 2 ^ n

/-- Order-0 Exp-Golomb code of H.265 (R236). -/
def ueBits (v : Nat) : List Bool :=
  let k := Nat.log2 (v + 1)
  List.replicate k false ++ msbBits (k + 1) (v + 1)

/-- State (A, N) of a context. -/
abbrev RiceState := SMap (Nat × Nat)

/-- Rice parameter of a state: the smallest k up to 15 with N × 2^k ≥ A (R235). -/
def riceK (a n : Nat) : Nat := ((List.range 15).find? (fun k => decide (a ≤ n * 2 ^ k))).getD 15

/-- The state after a literal m (R235). -/
def riceNext (a n m : Nat) : Nat × Nat := if n + 1 = 64 then ((a + m) / 2, 32) else (a + m, n + 1)

/-- One literal (R235): bits and the new state. -/
def litBits (width k0 ctx m : Nat) (st : RiceState) : List Bool × RiceState :=
  let (a, n) := SMap.getD st (2 ^ k0, 1) ctx
  let k := riceK a n
  let q := m / 2 ^ k
  let b := if q < 24 then List.replicate q true ++ [false] ++ msbBits k m else List.replicate 24 true ++ msbBits width m
  (b, SMap.insert st ctx (riceNext a n m))

/-! ### Encoder (R238 to R240) -/

/-- Candidates per position, and whether the tile above may be searched (Table ERP-7). -/
def erpCandidates (effort : Nat) : Nat := ([0, 0, 1, 4, 8, 16, 32, 64, 128, 256] : List Nat).getD effort 256

/-- Samples per second of an effort level, in 10^8 (Table ERP-7). -/
def erpRate (effort : Nat) : Nat := ([80, 80, 80, 80, 60, 40, 30, 20, 15, 10] : List Nat).getD effort 10

/-- What the encoder of a tile knows: values, predictions, and the history with the tile above first. -/
structure ErpEnc where
  v : Array Nat
  p : Array Nat
  hist : Array Nat
  /-- length of the part above -/
  above : Nat
  candidates : Nat

/-- Matching samples from history index j and j′ on, up to n. -/
def matchLen (hist : Array Nat) (j j' : Nat) : Nat → Nat
  | 0 => 0
  | n + 1 => if hist.getD j 0 = hist.getD j' 0 then 1 + matchLen hist (j + 1) (j' + 1) n else 0

/-- The longest match over the candidates, most recent first: (length, distance). -/
def ErpEnc.search (e : ErpEnc) (j : Nat) (left : Nat) : Nat → Nat → Nat → Nat × Nat → Nat × Nat
  | 0, _, _, best => best
  | fuel + 1, dist, budget, best =>
    if budget = 0 ∨ j < dist ∨ 65536 < dist then best
    else
      let j' := j - dist
      if matchLen e.hist j j' 4 = 4 then
        let l := matchLen e.hist j j' left
        e.search j left fuel (dist + 1) (budget - 1) (if best.1 < l then (l, dist) else best)
      else e.search j left fuel (dist + 1) budget best

/-- Samples from i on that equal their own predictions. -/
def ErpEnc.runLen (e : ErpEnc) (i : Nat) : Nat → Nat
  | 0 => 0
  | n + 1 => if e.v.getD i 0 = e.p.getD i 0 then 1 + e.runLen (i + 1) n else 0

/-- A token (Table ERP-6): its first sample, its length, and the distance of a MATCH. -/
inductive ErpToken
  | lit (i n : Nat)
  | run (n : Nat)
  | copy (n dist : Nat)
  deriving DecidableEq, Repr

/-- The parse from sample i on (R240); `open'` is the literal that is growing. -/
def ErpEnc.parse (e : ErpEnc) : Nat → Nat → Option (Nat × Nat) → List ErpToken
  | 0, _, open' => match open' with
    | some (i, n) => [.lit i n]
    | none => []
  | fuel + 1, i, open' =>
    let flush : List ErpToken := match open' with
      | some (a, n) => [.lit a n]
      | none => []
    let left := e.v.size - i
    if left = 0 then flush
    else
      let r := e.runLen i left
      let m := if 4 ≤ left ∧ e.candidates ≠ 0 then e.search (e.above + i) left 65537 1 e.candidates (0, 0) else (0, 0)
      if 8 ≤ m.1 ∧ r < m.1 then flush ++ [.copy m.1 m.2] ++ e.parse fuel (i + m.1) none
      else if 2 ≤ r then flush ++ [.run r] ++ e.parse fuel (i + r) none
      else e.parse fuel (i + 1) (match open' with
        | some (a, n) => some (a, n + 1)
        | none => some (i, 1))

/-- The bits of the tokens (R235, R236). -/
def ErpEnc.bits (e : ErpEnc) (g : ErpTile) (k0 : Nat) : List ErpToken → RiceState → List (List Bool)
  | [], _ => []
  | .run n :: t, st => ([true, false] ++ ueBits (n - 1)) :: e.bits g k0 t st
  | .copy n d :: t, st => ([true, true] ++ ueBits (d - 1) ++ ueBits (n - 8)) :: e.bits g k0 t st
  | .lit i n :: t, st =>
    let r := (List.range n).foldl (fun (acc : List (List Bool) × RiceState) j =>
      let x := i + j
      let (b, st) := litBits g.n k0 (g.ctx x) (mapResidual g.n (e.v.getD x 0) (e.p.getD x 0)) acc.2
      (b :: acc.1, st)) ([], st)
    ([false] ++ ueBits (n - 1) ++ r.1.reverse.flatten) :: e.bits g k0 t r.2

/-- A copy of the tokens reads the tile above: USES_ABOVE (R240). -/
def ErpEnc.usesAbove (e : ErpEnc) : List ErpToken → Nat → Bool
  | [], _ => false
  | .lit _ n :: t, i => e.usesAbove t (i + n)
  | .run n :: t, i => e.usesAbove t (i + n)
  | .copy n d :: t, i => decide (e.above + i < d + e.above) || e.usesAbove t (i + n)

/-- Bits as bytes, the first bit in bit 7 (R229), padded with zeros to a multiple of four bytes. -/
def packBits32 (b : List Bool) : List Byte :=
  let b := b ++ List.replicate ((32 - b.length % 32) % 32) false
  (chunks 8 b).map (fun c => BitVec.ofNat 8 (ofMsbBits c))

/-- The check word of coded values (R231). -/
def erpCheck (v : List Nat) : Nat := crc32 (v.flatMap (leBytes 2))

/-- The payload of a tile, and whether it uses the tile above (R229, R239, R240). -/
def erpEncodeTile (g : ErpTile) (effort : Nat) (aboveEn : Bool) (above : Option (List Nat)) (vals : List Nat) : List Byte × Bool :=
  let v := vals.toArray
  let check := leBytes 4 (erpCheck vals)
  let first := vals.headD 0
  if vals.all (fun x => x == first) then (leBytes 4 (2 * 2 ^ 30 + first) ++ check, false)
  else
    let preds := fun (k : Nat) => ((List.range v.size).map (g.predict v k)).toArray
    let sum := fun (p : Array Nat) => sumN ((List.range v.size).map (fun i => mapResidual g.n (v.getD i 0) (p.getD i 0)))
    let best : Nat × Nat × Array Nat :=
      if effort = 0 then let p := preds 4; (4, sum p, p)
      else
        let p0 := preds 0
        ([1, 2, 3, 4] : List Nat).foldl (fun (acc : Nat × Nat × Array Nat) k =>
          let p := preds k
          let m := sum p
          if m < acc.2.1 then (k, m, p) else acc) (0, sum p0, p0)
    let k0 := ((List.range 16).find? (fun k => decide (best.2.1 ≤ v.size * 2 ^ k))).getD 15
    let up : List Nat := match above with
      | some a => if 3 ≤ effort && aboveEn then a else []
      | none => []
    let e : ErpEnc := { v := v, p := best.2.2, hist := (up ++ vals).toArray, above := up.length, candidates := erpCandidates effort }
    let toks := e.parse v.size 0 none
    let body := packBits32 (e.bits g k0 toks []).flatten
    let stored := packBits32 (vals.flatMap (msbBits g.n))
    if stored.length < body.length then (leBytes 4 (2 ^ 30) ++ stored ++ check, false)
    else
      let ua := e.usesAbove toks 0
      (leBytes 4 (best.1 * 2 ^ 27 + b2n ua * 2 ^ 26 + k0 * 2 ^ 22) ++ body ++ check, ua)

/-! ### Frames -/

/-- The geometry fields of a file or frame header: bytes 8 to 19 of Table ERP-1. -/
structure ErpGeom where
  w : Nat
  h : Nat
  cfa : Nat
  phase : Nat
  sps : Nat
  kind : Nat
  bits : Nat
  lowZero : Nat
  pedestal : Nat
  deriving DecidableEq, Repr

/-- The twelve bytes of the geometry fields. -/
def ErpGeom.encode (g : ErpGeom) : List Byte :=
  leBytes 2 g.w ++ leBytes 2 g.h ++ leBytes 1 g.cfa ++ leBytes 1 g.phase ++ leBytes 1 g.sps ++ leBytes 1 g.kind ++
    leBytes 1 g.bits ++ leBytes 1 g.lowZero ++ leBytes 2 g.pedestal

/-- The geometry fields at an offset of a byte string. -/
def ErpGeom.decode (b : List Byte) (o : Nat) : ErpGeom :=
  let f := fun (i n : Nat) => leVal (bytesAt b (o + i) n)
  { w := f 0 2, h := f 2 2, cfa := f 4 1, phase := f 5 1, sps := f 6 1, kind := f 7 1, bits := f 8 1, lowZero := f 9 1, pedestal := f 10 2 }

/-- LOW_ZERO that Table ERP-2 gives. -/
def erpLowZero (kind bits : Nat) : Nat := if kind = 0 then 0 else 16 - bits

/-- Coded width (Table ERP-2). -/
def ErpGeom.width (g : ErpGeom) : Nat := if g.kind = 0 then 16 else g.bits

/-- Values of Table ERP-1 and limits of SLR_LINK_FMT hold. -/
def ErpGeom.ok (g : ErpGeom) : Bool :=
  decide (16 ≤ g.w ∧ g.w ≤ 24576 ∧ g.w % 16 = 0 ∧ 1 ≤ g.h ∧ g.h ≤ 10368 ∧ g.cfa ≤ 2 ∧ g.phase ≤ 3 ∧ 1 ≤ g.sps ∧ g.sps ≤ 2 ∧ g.kind ≤ 1) &&
    ([10, 12, 14, 16] : List Nat).contains g.bits && g.lowZero == erpLowZero g.kind g.bits

/-- Tiles across and down. -/
def ErpGeom.tx (g : ErpGeom) : Nat := ceilDiv g.w 256
def ErpGeom.ty (g : ErpGeom) : Nat := ceilDiv g.h 64
def ErpGeom.tiles (g : ErpGeom) : Nat := g.tx * g.ty

/-- A tile of a frame. -/
def ErpGeom.tile (g : ErpGeom) (t : Nat) : ErpTile :=
  let z := tileSize g.w g.h t
  { w := z.1, h := z.2, sps := g.sps, d := latticeOf g.cfa, n := g.width }

/-- Greatest size of a tile's payload (R224, R241). -/
def ErpGeom.tileMax (g : ErpGeom) (t : Nat) : Nat := 8 + 4 * ceilDiv ((g.tile t).count * g.width) 32

/-- The coded values of a tile of a raw buffer laid out under R118, in coding order (R230, Table ERP-2). -/
def State.erpValues (s : State) (g : ErpGeom) (base t : Nat) : List Nat :=
  let e := g.tile t
  let x0 := t % g.tx * 256
  let y0 := t / g.tx * 64
  let stride := rawStride g.w g.sps
  (List.range e.count).map (fun i =>
    s.readLe (base + (y0 + e.row i) * stride + 2 * ((x0 + e.col i) * g.sps + i / (e.w * e.h))) 2 / 2 ^ g.lowZero)

/-- The tiles of band i of a gang of m engines, in column-major order (R224). -/
def ErpGeom.band (g : ErpGeom) (m i : Nat) : List Nat :=
  ((List.range g.tx).filter (fun x => x * m / max 1 g.tx == i)).flatMap (fun x => (List.range g.ty).map (fun y => y * g.tx + x))

/-- One tile as the encoder places it: number, offset, payload, USES_ABOVE. -/
structure ErpPlaced where
  tile : Nat
  ofs : Nat
  bytes : List Byte
  above : Bool
  deriving DecidableEq, Repr

/-- What one ENCODE works from. -/
structure ErpJob where
  g : ErpGeom
  effort : Nat
  aboveEn : Bool
  gang : Nat
  src : Nat
  frame : Nat
  incomplete : Bool
  time : Nat
  poison : List Nat
  ox : Nat
  oy : Nat
  deriving DecidableEq, Repr

/-- PAYLOAD_OFF (R227). -/
def ErpJob.payloadOff (j : ErpJob) : Nat := erpPayloadOff j.g.tiles j.poison.length

/-- Encode every tile and place it (R224, R228). -/
def State.erpPlace (s : State) (j : ErpJob) : List ErpPlaced :=
  ((List.range j.gang).foldl (fun (acc : List ErpPlaced × Nat) i =>
    let tiles := j.g.band j.gang i
    let r := tiles.foldl (fun (a : List ErpPlaced × Nat) t =>
      let up := if j.g.tx ≤ t then some (s.erpValues j.g j.src (t - j.g.tx)) else none
      let (b, ua) := erpEncodeTile (j.g.tile t) j.effort j.aboveEn up (s.erpValues j.g j.src t)
      (a.1 ++ [{ tile := t, ofs := a.2, bytes := b, above := ua }], a.2 + b.length)) (acc.1, acc.2)
    (r.1, acc.2 + sumN (tiles.map j.g.tileMax))) ([], j.payloadOff)).1

/-- FRAME_BYTES of a placement. -/
def erpFrameBytes (payloadOff : Nat) (l : List ErpPlaced) : Nat :=
  ceilDiv (maxN (payloadOff :: l.map (fun p => p.ofs + p.bytes.length))) 64 * 64

/-- Poison list and directory: the bytes from POISON_OFF to PAYLOAD_OFF (R227, R228). -/
def ErpJob.lists (j : ErpJob) (l : List ErpPlaced) : List Byte :=
  let p := j.poison.flatMap (leBytes 4)
  let d := (List.range j.g.tiles).flatMap (fun t =>
    match l.find? (fun q => q.tile == t) with
    | some q => leBytes 4 q.ofs ++ leBytes 4 q.bytes.length
    | none => zeros 8)
  p ++ zeros ((64 - p.length % 64) % 64) ++ d ++ zeros ((64 - d.length % 64) % 64)

/-- The frame header (Table ERP-3). -/
def ErpJob.header (j : ErpJob) (l : List ErpPlaced) : List Byte :=
  let lists := j.lists l
  let h := leBytes 4 0x46505245 ++ leBytes 2 0x0100 ++ leBytes 2 128 ++ leBytes 8 (erpFrameBytes j.payloadOff l) ++
    leBytes 6 j.frame ++ leBytes 2 (b2n j.incomplete + 2 * b2n (l.any (·.above))) ++ leBytes 6 (secOf j.time) ++
    leBytes 4 (nsecOf j.time) ++ zeros 2 ++ j.g.encode ++ leBytes 2 j.g.tx ++ leBytes 2 j.g.ty ++
    leBytes 4 j.poison.length ++ leBytes 4 128 ++ leBytes 4 (128 + 64 * ceilDiv (4 * j.poison.length) 64) ++
    leBytes 4 j.payloadOff ++ leBytes 1 j.effort ++ zeros 3 ++ leBytes 2 j.ox ++ leBytes 2 j.oy ++ zeros 44 ++
    leBytes 4 (crc32 lists)
  h ++ leBytes 4 (crc32 h)

/-- The file header (Table ERP-1). -/
def erpFileHeader (g : ErpGeom) (num den ox oy reel take : Nat) : List Byte :=
  let h := leBytes 4 0x31505245 ++ leBytes 2 0x0100 ++ leBytes 2 64 ++ g.encode ++ leBytes 4 num ++ leBytes 4 den ++
    leBytes 2 ox ++ leBytes 2 oy ++ leBytes 1 reel ++ [0] ++ leBytes 2 take ++ zeros 24
  h ++ leBytes 4 (crc32 h)

/-- Write a whole frame at an address: lists and tiles, then the header (R243). -/
def State.erpWrite (s : State) (j : ErpJob) (dst : Nat) (l : List ErpPlaced) : State :=
  let s := s.write (dst + 128) (j.lists l)
  let s := l.foldl (fun s p => s.write (dst + p.ofs) p.bytes) s
  let fin := maxN (j.payloadOff :: l.map (fun p => p.ofs + p.bytes.length))
  let s := s.write (dst + fin) (zeros ((64 - fin % 64) % 64))
  s.write dst (j.header l)

/-! ### Decoder (R248) -/

/-- Class of a decode error. -/
inductive ErpClass
  | structural | syntactic | check
  deriving DecidableEq, Repr

/-- Codes of CLASS. -/
def ErpClass.code : ErpClass → Nat
  | .structural => 1 | .syntactic => 2 | .check => 3

/-- The outcome of a tile: its coded values, or its class and the bit offset from the payload's start. -/
abbrev TileRes := Except (ErpClass × Nat) (List Nat)

/-- A reader of body bits: the bits left and the position of the next. -/
structure BitSrc where
  bits : List Bool
  pos : Nat
  deriving DecidableEq, Repr

/-- Take n bits, most significant first; none at the end of the body. -/
def BitSrc.take (b : BitSrc) (n : Nat) : Option (Nat × BitSrc) :=
  if b.bits.length < n then none else some (ofMsbBits (b.bits.take n), { bits := b.bits.drop n, pos := b.pos + n })

/-- Count leading bits of a value, at most `max`. -/
def BitSrc.lead (b : BitSrc) (v : Bool) (max : Nat) : Nat := ((b.bits.take max).takeWhile (fun x => x == v)).length

/-- ue(v) with at most 16 leading zeros (R236). -/
def BitSrc.ue (b : BitSrc) : Option (Nat × BitSrc) :=
  let k := b.lead false 17
  if 16 < k then none else (b.take (2 * k + 1)).map (fun r => (r.1 - 1, r.2))

/-- One literal's mapped value (R235). -/
def BitSrc.lit (b : BitSrc) (width k : Nat) : Option (Nat × BitSrc) :=
  let q := b.lead true 24
  if q = 24 then (b.take 24).bind (fun r => r.2.take width)
  else (b.take (q + 1)).bind (fun r => (r.2.take k).map (fun t => (q * 2 ^ k + t.1, t.2)))

/-- Decode `n` literals: values so far, states, the rest of the body. -/
def litRun (g : ErpTile) (pred k0 : Nat) : Nat → Array Nat × RiceState × BitSrc → Option (Array Nat × RiceState × BitSrc)
  | 0, a => some a
  | n + 1, (v, st, b) =>
    let i := v.size
    let (a, c) := SMap.getD st (2 ^ k0, 1) (g.ctx i)
    match b.lit g.n (riceK a c) with
    | none => none
    | some (m, b) =>
      if 2 ^ g.n ≤ m then none
      else litRun g pred k0 n (v.push (unmapResidual g.n m (g.predict v pred i)), SMap.insert st (g.ctx i) (riceNext a c m), b)

/-- Produce `n` samples by prediction. -/
def predRun (g : ErpTile) (pred : Nat) : Nat → Array Nat → Array Nat
  | 0, v => v
  | n + 1, v => predRun g pred n (v.push (g.predict v pred v.size))

/-- Copy `n` samples from a distance, one at a time (R237). -/
def copyRun (above : Array Nat) (dist : Nat) : Nat → Array Nat → Array Nat
  | 0, v => v
  | n + 1, v =>
    let k := above.size + v.size - dist
    copyRun above dist n (v.push (if k < above.size then above.getD k 0 else v.getD (k - above.size) 0))

/-- Decode the tokens of a CODED body (R236, R237): the values, and the rest of the body; or the position of the token
that fails. -/
def erpTokens (g : ErpTile) (pred k0 : Nat) (above : Array Nat) :
    Nat → Array Nat → RiceState → BitSrc → Except Nat (Array Nat × BitSrc)
  | 0, v, _, b => if v.size = g.count then .ok (v, b) else .error b.pos
  | fuel + 1, v, st, b =>
    let left := g.count - v.size
    if left = 0 then .ok (v, b)
    else
      let at0 := b.pos
      match b.take 1 with
      | none => .error at0
      | some (0, b) =>
        match b.ue with
        | none => .error at0
        | some (c, b) =>
          if left < c + 1 then .error at0
          else match litRun g pred k0 (c + 1) (v, st, b) with
            | none => .error at0
            | some (v, st, b) => erpTokens g pred k0 above fuel v st b
      | some (_, b) =>
        match b.take 1 with
        | none => .error at0
        | some (0, b) =>
          match b.ue with
          | none => .error at0
          | some (c, b) => if left < c + 1 then .error at0 else erpTokens g pred k0 above fuel (predRun g pred (c + 1) v) st b
        | some (_, b) =>
          match b.ue with
          | none => .error at0
          | some (d, b) =>
            match b.ue with
            | none => .error at0
            | some (c, b) =>
              if left < c + 8 ∨ 65536 < d + 1 ∨ above.size + v.size < d + 1 then .error at0
              else erpTokens g pred k0 above fuel (copyRun above (d + 1) (c + 8) v) st b

/-- `n` values of a STORED body. -/
def storedRun (width : Nat) : Nat → BitSrc → List Nat → Option (List Nat × BitSrc)
  | 0, b, acc => some (acc.reverse, b)
  | n + 1, b, acc => match b.take width with
    | none => none
    | some (v, b) => storedRun width n b (v :: acc)

/-- Decode a tile payload of a legal SIZE (R229 to R237, Table ERP-10). `above` is the tile above, none in row 0. -/
def erpDecodeTile (g : ErpTile) (p : List Byte) (above : Option (List Nat)) : TileRes :=
  let hd := leVal (bytesAt p 0 4)
  let mode := bits hd 31 30
  let pred := bits hd 29 27
  let ua := bitAt hd 26
  let k0 := bits hd 25 22
  let flat := bits hd 15 0
  let badHead := mode == 3 || decide (4 < pred) || bits hd 21 16 != 0 || (mode != 0 && (pred != 0 || ua || k0 != 0)) ||
    (mode != 2 && flat != 0) || (mode == 2 && decide (2 ^ g.n ≤ flat)) || (ua && above.isNone)
  if badHead then .error (.syntactic, 0)
  else
    let body : BitSrc := { bits := ((p.drop 4).take (p.length - 8)).flatMap (fun x => msbBits 8 x.toNat), pos := 32 }
    let res : Except Nat (List Nat × BitSrc) :=
      if mode = 2 then .ok (List.replicate g.count flat, body)
      else if mode = 1 then
        match storedRun g.n g.count body [] with
        | some r => .ok r
        | none => .error 32
      else
        match erpTokens g pred k0 (if ua then (above.getD []).toArray else #[]) (g.count + 1) #[] [] body with
        | .ok (v, b) => .ok (v.toList, b)
        | .error e => .error e
    match res with
    | .error pos => .error (.syntactic, pos)
    | .ok (v, b) =>
      let pad := b.bits.length % 32
      if (b.bits.take pad).any (fun x => x) then .error (.syntactic, b.pos)
      else if pad < b.bits.length then .error (.syntactic, b.pos + pad)
      else if leVal (p.drop (p.length - 4)) ≠ erpCheck v then .error (.check, 8 * (p.length - 4))
      else .ok v

/-- Position of the first frame header or list field that fails (Table ERP-10, STRUCTURE frame), in bits from the frame
start, in the order of the fields; none where all hold. -/
def State.erpHeaderBad (s : State) (src srcBytes : Nat) : Option Nat :=
  let f := fun (o n : Nat) => s.readLe (src + o) n
  let h := s.read src 128
  if srcBytes < 128 then some 64
  else
    let g := ErpGeom.decode h 36
    let pc := f 52 4
    let dirOff := 128 + 64 * ceilDiv (4 * pc) 64
    let payOff := dirOff + 64 * ceilDiv (8 * g.tiles) 64
    let lists := s.read (src + 128) (payOff - 128)
    let poison := (List.range pc).map (fun i => leVal (bytesAt lists (4 * i) 4))
    let badPoison := (List.range pc).find? (fun i =>
      decide (g.tiles ≤ poison.getD i 0) || (i != 0 && decide (poison.getD i 0 ≤ poison.getD (i - 1) 0)))
    let tests : List (Bool × Nat) := [
      (f 0 4 != 0x46505245, 0), (f 5 1 != 0x01, 4), (f 6 2 != 128, 6), (decide (srcBytes < f 8 8), 8),
      (leVal (h.drop 124) != crc32 (h.take 124), 124),
      (!(decide (16 ≤ g.w ∧ g.w ≤ 24576 ∧ g.w % 16 = 0)), 36), (!(decide (1 ≤ g.h ∧ g.h ≤ 10368)), 38),
      (decide (2 < g.cfa), 40), (g.sps != 1 && g.sps != 2, 42), (decide (1 < g.kind), 43),
      (!([10, 12, 14, 16] : List Nat).contains g.bits, 44), (g.lowZero != erpLowZero g.kind g.bits, 45),
      (f 48 2 != g.tx, 48), (f 50 2 != g.ty, 50), (decide (g.tiles < pc), 52), (f 56 4 != 128, 56), (f 60 4 != dirOff, 60),
      (f 64 4 != payOff, 64), (decide (9 < f 68 1), 68), (decide (f 8 8 < payOff), 8), (f 120 4 != crc32 lists, 120),
      (badPoison.isSome, 128 + 4 * badPoison.getD 0)]
    (tests.find? (·.1)).map (fun t => 8 * t.2)

/-- A directory entry that breaks R228 (Table ERP-10, STRUCTURE tile). -/
def erpEntryBad (ofs size payOff frameBytes : Nat) : Bool :=
  size % 4 != 0 || ofs % 4 != 0 || decide (size < 8 ∨ ofs < payOff ∨ frameBytes < ofs + size)

/-- What decoding every tile of a frame found: the values of each good tile, the bad tiles with their class (none where
only the tile above is concealed, or a read failed) and bit offset. -/
structure ErpDecoded where
  good : SMap (List Nat)
  bad : List (Nat × Option (ErpClass × Nat))
  deriving DecidableEq, Repr

/-- Decode the tiles of a frame in tile-number order (R248, R249, R250); `lost` names tiles whose reads failed. -/
def State.erpTiles (s : State) (g : ErpGeom) (src dirOff payOff frameBytes : Nat) (lost : List Nat) : ErpDecoded :=
  (List.range g.tiles).foldl (fun (acc : ErpDecoded) t =>
    let ofs := s.readLe (src + dirOff + 8 * t) 4
    let size := s.readLe (src + dirOff + 8 * t + 4) 4
    let bad := fun (c : Option (ErpClass × Nat)) => { acc with bad := acc.bad ++ [(t, c)] }
    if lost.contains t then bad none
    else if erpEntryBad ofs size payOff frameBytes then bad (some (.structural, 8 * (dirOff + 8 * t)))
    else
      let p := s.read (src + ofs) size
      let ua := bitAt (leVal (bytesAt p 0 4)) 26
      let up := if g.tx ≤ t then some ((SMap.lookup acc.good (t - g.tx)).getD []) else none
      if ua && decide (g.tx ≤ t) && (SMap.lookup acc.good (t - g.tx)).isNone &&
          (match erpDecodeTile (g.tile t) (p.take 4 ++ zeros 4) up with
           | .error (.syntactic, 0) => false
           | _ => true) then bad none
      else
        match erpDecodeTile (g.tile t) p up with
        | .ok v => { acc with good := acc.good ++ [(t, v)] }
        | .error (c, pos) => bad (some (c, 8 * ofs + pos))) { good := [], bad := [] }

/-- Write the codes of a good tile into a raw buffer (R118, Table ERP-2). -/
def State.erpStore (s : State) (g : ErpGeom) (dst t : Nat) (v : List Nat) : State :=
  let e := g.tile t
  let a := v.toArray
  let x0 := t % g.tx * 256
  let y0 := t / g.tx * 64
  let stride := rawStride g.w g.sps
  (List.range e.h).foldl (fun s y =>
    s.write (dst + (y0 + y) * stride + 2 * x0 * g.sps) ((List.range (e.w * g.sps)).flatMap (fun k =>
      leBytes 2 (a.getD (k % g.sps * (e.w * e.h) + y * e.w + k / g.sps) 0 * 2 ^ g.lowZero)))) s

end Sys2Proof.Machine
end

