-- ==== Sys2Proof/Machine/Rpk.lean ====
section
/-!
DEFINITION. The raw packer's engines: path jobs, software jobs, their completions and their counters
(09_raw_packed_format.md R221 to R225, R242 to R253).
-/

namespace Sys2Proof.Machine

/-- An engine. -/
def State.eng (s : State) (e : Nat) : EngSt := getN s.rpk.eng e EngSt.reset

/-- Replace an engine. -/
def State.setEng (s : State) (e : Nat) (f : EngSt → EngSt) : State := { s with rpk := { s.rpk with eng := updN s.rpk.eng e f } }

/-- Count for a counter of an engine, which shows it at job end. -/
def State.countRpk (s : State) (f : Fld) (n : Nat) : State := { s with rpk := { s.rpk with late := addLate s.rpk.late f n } }

/-- A job ends: its engine's counters take what waits for them, and JOBS counts (Table ERP-13). -/
def State.jobCount (s : State) (e : Nat) : State :=
  let fs := [Reg.RPK_CNT_CONCEAL e, Reg.RPK_CNT_RECOMPUTE e, Reg.RPK_CNT_PARITY e]
  let s := s.takeLate s.rpk.late fs
  let s : State := { s with rpk := { s.rpk with late := dropLate s.rpk.late fs } }
  (s.count (Reg.RPK_CNT_JOBS e) 1).bump (Reg.RPK_FRAME_SEQ e)

/-- Engines of a gang (R224). -/
def gangSize (g : Nat) : Nat := if g = 1 then 2 else if g = 2 then 4 else 1

/-- The path that engine e packs, if its MODE is PATH. -/
def State.engPath (s : State) (e : Nat) : Option Booking := s.plan.bookings.find? (fun b => b.kind == 4 && b.idx == e)

/-- Engine e packs a band of a gang's job (R224): the lead's job in flight names it. -/
def State.engBand (s : State) (e : Nat) : Bool :=
  (List.range e).any (fun l => match (s.eng l).job with
    | some j => decide (e < l + j.gang)
    | none => false)

/-- STATE of RPK_ENG_STATUS: 0 DISABLED, 1 IDLE, 2 WAIT_SOURCE, 3 ENCODING, 4 DECODING, 5 SHED. -/
def State.engState (s : State) (e : Nat) : Nat :=
  let x := s.eng e
  if x.job.isSome || s.engBand e then 3
  else if !s.on .rpk ∨ s.get (Reg.RPK_ENG_CFG_MODE e) = 0 then 0
  else match x.sw with
    | some d => if leVal (d.take 1) = 1 then 4 else 3
    | none =>
      if s.get (Reg.RPK_ENG_CFG_MODE e) = 2 then 1
      else if ((s.engPath e).map (fun b => s.flag (Reg.DEV_PATH_SHED_SHED_NOW b.path))).getD false then 5 else 2

/-! ### Path jobs -/

/-- The oldest raw frame after the last one packed that the engine's path accepted. -/
def State.nextPack (s : State) (e : Nat) (b : Booking) : Option RawOut :=
  let newer : List RawOut := match (s.eng e).last with
    | some q => s.rfe.outs.takeWhile (fun o => o.tag.seq != q)
    | none => s.rfe.outs
  newer.reverse.find? (fun o => (o.tag.on b.path).isSome && (s.reservation (s.get (Reg.RPK_ENG_CFG_REEL e)) b.path ((o.tag.on b.path).getD 0)).isSome)

/-- Job start of a path engine (R221, R223, R243 step 1): the boundary of the gang's engines, then the job. -/
def State.packStart (s : State) (e : Nat) : State :=
  if !s.on .rpk ∨ (s.eng e).job.isSome ∨ (s.eng e).sw.isSome ∨ s.get (Reg.RPK_ENG_CFG_MODE e) ≠ 1 then s
  else
    match s.engPath e with
    | none => s
    | some b =>
      match s.nextPack e b with
      | none => s
      | some o =>
        if o.written < o.h then s
        else
          let num := (o.tag.on b.path).getD 0
          let s := (List.range (gangSize (s.get (Reg.RPK_ENG_CFG_GANG e)))).foldl (fun s i => s.boundary (.rpk (e + i)) o.tag.begun false) s
          let reel := s.get (Reg.RPK_ENG_CFG_REEL e)
          let j : PathJob := {
            seq := o.tag.seq, path := b.path, num := num, effort := s.get (Reg.RPK_ENG_CFG_EFFORT e),
            aboveEn := s.flag (Reg.RPK_ENG_CFG_ABOVE_EN e), src := s.get (Reg.RPK_ENG_CFG_SRC e),
            gang := gangSize (s.get (Reg.RPK_ENG_CFG_GANG e)), reel := reel }
          let s := s.setEng e (fun x => { x with job := some j, last := some o.tag.seq })
          let s := (List.range j.gang).foldl (fun s i =>
            s.puts [(Reg.RPK_ENG_STATUS_EFFORT_USED (e + i), j.effort), (Reg.RPK_ENG_STATUS_TILES_DONE (e + i), 0)]) s
          match s.reservation reel b.path num with
          | some v => s.write (s.blockAddr v.block) (zeros 128)
          | none => s

/-- Geometry of a raw frame's tap. -/
def RawOut.erpGeom (o : RawOut) (tap : Nat) : ErpGeom :=
  { w := o.w, h := o.h, cfa := Machine.bits o.cfg 27 26, phase := Machine.bits o.cfg 25 24, sps := if tap = 0 then o.spsCorr else o.spsOrig,
    kind := tap, bits := o.bits, lowZero := erpLowZero tap o.bits, pedestal := if tap = 0 then o.pedestal else 0 }

/-- What a path job encodes. -/
def RawOut.erpJob (o : RawOut) (j : PathJob) (src : Nat) : ErpJob :=
  { g := o.erpGeom j.src, effort := j.effort, aboveEn := j.aboveEn, gang := j.gang, src := src, frame := j.num,
    incomplete := o.tag.incomplete, time := o.tag.stamp, poison := sortBy id (dedup o.tag.poison), ox := Machine.bits o.origin 14 0, oy := Machine.bits o.origin 30 16 }

/-- A path job ends (R243, R244): lists and tiles, header, clip index entry, counters. -/
def State.packEnd (s : State) (e : Nat) : State :=
  match (s.eng e).job with
  | none => s
  | some j =>
    match s.rawOut j.seq with
    | none => s.setEng e (fun x => { x with job := none })
    | some o =>
      match if j.src = 0 then o.corr else o.orig, s.reservation j.reel j.path j.num with
      | some src, some v =>
        let ej := o.erpJob j src
        let l := s.erpPlace ej
        let n := erpFrameBytes ej.payloadOff l
        let s := s.erpWrite ej (s.blockAddr v.block) l
        let s := s.indexFrame j.reel j.path j.num 0 (b2n (!ej.poison.isEmpty) + 2 * b2n ej.incomplete) n o.tag.stamp
        let s := s.puts [(Reg.RPK_LAST_BYTES_LO e, n % 2 ^ 32), (Reg.RPK_LAST_BYTES_HI e, n / 2 ^ 32)]
        let s := ((s.jobCount e).raise .rpk e).releaseBuffer src
        s.setEng e (fun x => { x with job := none })
      | _, _ => s.setEng e (fun x => { x with job := none })

/-- A path job is cut off (R253): no entry, its space returns, its frame is logged. -/
def State.packCut (s : State) (e : Nat) : State :=
  match (s.eng e).job with
  | none => s
  | some j =>
    let s := (s.returnSpace j.reel j.path j.num).count (Reg.RPK_CNT_FLUSHED e) 1
    let s := s.logEvt .rpk e 0x83 0x10 j.num j.path 0
    s.setEng e (fun x => { x with job := none })

/-- A software job is cut off (R253): no completion; HEAD still names it. -/
def State.swCut (s : State) (e : Nat) : State :=
  if (s.eng e).sw.isNone then s
  else (s.count (Reg.RPK_CNT_FLUSHED e) 1).setEng e (fun x => { x with sw := none })

/-- The file header of a packed raw path's ERP_FILE entry (R226). -/
def State.erpFileHeaderOf (s : State) (path take : Nat) : List Byte :=
  match s.plan.bookings.find? (fun b => b.path == path) with
  | none => zeros 64
  | some b =>
    let tap := s.get (Reg.RPK_ENG_CFG_SRC b.idx)
    let l := s.rfeLink
    let bits' := packBits (s.get (Reg.SLR_LINK_CFG_PACK l))
    let cfg := (s.reg Reg.RFE_CFG.ofs).toNat
    let origin := (s.reg Reg.RFE_ORIGIN.ofs).toNat
    let g : ErpGeom := {
      w := s.linkW l, h := s.linkH l, cfa := bits cfg 27 26, phase := bits cfg 25 24, sps := s.tapSps tap, kind := tap, bits := bits',
      lowZero := erpLowZero tap bits', pedestal := if tap = 0 then s.get Reg.RFE_PEDESTAL_PEDESTAL else 0 }
    erpFileHeader g (s.get (Reg.SLR_LINK_RATE_NUM l)) (s.get (Reg.SLR_LINK_RATE_DEN l)) (bits origin 14 0) (bits origin 30 16)
      (s.get (Reg.RPK_ENG_CFG_REEL b.idx)) take

/-- A take opens on a reel with the file headers of its packed raw paths (R226, R354). -/
def State.openTake (s : State) (r : Nat) : State :=
  let take := ((s.reel r).freeTake (s.reel r).nextTake 1024).getD 0
  s.tryOpen r ((s.packedPaths r).map (fun p => (p, s.erpFileHeaderOf p take)))

/-! ### Software jobs (R245 to R250) -/

/-- A field of a descriptor. -/
def dField (d : List Byte) (o n : Nat) : Nat := leVal (bytesAt d o n)

/-- A malformed descriptor (R246). -/
def descBad (d : List Byte) : Bool :=
  let op := dField d 0 1
  let src := dField d 8 5
  let dst := dField d 16 5
  decide (1 < op) || decide (3 < dField d 2 1) || dField d 3 1 != 0 || dField d 13 3 != 0 || dField d 21 3 != 0 ||
    src % 64 != 0 || dst % 64 != 0 ||
    (if op = 0 then decide (9 < dField d 1 1) || dField d 32 4 != 0 || !(ErpGeom.decode d 36).ok
     else dField d 36 8 != 0 || dField d 44 4 != 0 || dField d 54 5 % 4 != 0)

/-- A software job starts: the descriptor at HEAD is read (R245). -/
def State.swStart (s : State) (e : Nat) : State :=
  let x := s.eng e
  if !s.on .rpk ∨ x.sw.isSome ∨ x.job.isSome ∨ s.get (Reg.RPK_ENG_CFG_MODE e) ≠ 2 then s
  else
    let s := s.boundary (.rpk e) [] false
    let size := max 1 (s.get (Reg.RPK_RING_SIZE_SIZE e))
    if s.get (Reg.RPK_ENG_CFG_MODE e) ≠ 2 ∨ s.get (Reg.RPK_RING_HEAD_HEAD e) = s.get (Reg.RPK_RING_TAIL_TAIL e) ∨
        (s.get (Reg.RPK_CPL_TAIL_TAIL e) + 1) % size = s.get (Reg.RPK_CPL_HEAD_HEAD e) then s
    else
      let d := s.read (s.addr40 (Reg.RPK_RING_BASE_LO e) (Reg.RPK_RING_BASE_HI e) + 64 * s.get (Reg.RPK_RING_HEAD_HEAD e)) 64
      let s := s.setEng e (fun x => { x with sw := some d })
      let s := s.puts [(Reg.RPK_ENG_STATUS_EFFORT_USED e, if descBad d then 0 else dField d 1 1), (Reg.RPK_ENG_STATUS_TILES_DONE e, 0)]
      if !descBad d && dField d 0 1 == 0 && decide (128 ≤ dField d 24 8) then s.write (dField d 16 5) (zeros 128) else s

/-- The outcome of a software job, for its completion (Table ERP-9). -/
structure SwResult where
  status : Nat
  cls : Nat
  concealed : Nat
  bytes : Nat
  errTile : Nat
  errBit : Nat
  nSyntax : Nat
  nCheck : Nat
  nStruct : Nat
  deriving DecidableEq, Repr

/-- An outcome without errors. -/
def SwResult.plain (status bytes : Nat) : SwResult :=
  { status := status, cls := 0, concealed := 0, bytes := bytes, errTile := 0, errBit := 0, nSyntax := 0, nCheck := 0, nStruct := 0 }

/-- Bytes of memory whose content the spec calls undefined (R247): a free value each. -/
def State.freeBytes (s : State) (a n : Nat) : State :=
  let b := (List.range n).map (fun i => BitVec.ofNat 8 (Config.free (s.freeCtr + i)))
  { s with freeCtr := s.freeCtr + n }.write a b

/-- A raw frame as a software job sees it in memory. -/
def ErpGeom.rawOut (g : ErpGeom) (base : Nat) : RawOut :=
  { tag := FrameTag.empty, slot := 0, w := g.w, h := g.h, d := latticeOf g.cfa, spsCorr := g.sps, spsOrig := g.sps, bits := g.bits,
    pedestal := g.pedestal, cfg := 0, origin := 0, corr := some base, orig := none, written := g.h }

/-- The end of the last tile that fits a capacity, in the order written. -/
def lastFit (cap start : Nat) : List ErpPlaced → Nat
  | [] => start
  | p :: t => if cap < p.ofs + p.bytes.length then start else lastFit cap (p.ofs + p.bytes.length) t

/-- An ENCODE job (R246, R247): `lost` names the source tiles whose reads failed, which the engine conceals (R122). -/
def State.swEncode (s : State) (e : Nat) (d : List Byte) (lost : List Nat) : SwResult × State :=
  let g := ErpGeom.decode d 36
  let src := dField d 8 5
  let dst := dField d 16 5
  let cap := dField d 24 8
  let o := g.rawOut src
  let lost := sortBy id (dedup (lost.filter (fun t => decide (t < g.tiles))))
  let s := lost.foldl (fun s t => s.concealWrite o 0 t lost) s
  let s := if lost.isEmpty then s
    else ((s.count (Reg.RPK_CNT_CONCEAL e) lost.length).raise .rpk 7).logFree .rpk e 7 0x03 (dField d 48 6)
  let j : ErpJob := {
    g := g, effort := dField d 1 1, aboveEn := bitAt (dField d 2 1) 1, gang := 1, src := src, frame := dField d 48 6, incomplete := false,
    time := dField d 54 6 * 1000000000 + dField d 60 4, poison := lost, ox := 0, oy := 0 }
  let l := s.erpPlace j
  let n := erpFrameBytes j.payloadOff l
  if cap < n then
    let s := s.freeBytes (dst + 128) (min cap (s.mss.capacity - dst) - 128)
    ({ SwResult.plain 1 (lastFit cap j.payloadOff l) with concealed := lost.length },
     (s.count (Reg.RPK_CNT_OUT_OF_SPACE e) 1).raise .rpk 4)
  else
    ({ SwResult.plain (if lost.isEmpty then 0 else 2) n with concealed := lost.length },
     (s.erpWrite j dst l).puts [(Reg.RPK_LAST_BYTES_LO e, n % 2 ^ 32), (Reg.RPK_LAST_BYTES_HI e, n / 2 ^ 32)])

/-- A DECODE job (R248 to R250): `lost` names the tiles whose reads failed. -/
def State.swDecode (s : State) (e : Nat) (d : List Byte) (lost : List Nat) : SwResult × State :=
  let src := dField d 8 5
  let dst := dField d 16 5
  let note := fun (s : State) (r : SwResult) => s.puts [(Reg.RPK_ERR_TILE_CLASS e, r.cls), (Reg.RPK_ERR_TILE_TILE e, r.errTile % 2 ^ 30),
    (Reg.RPK_ERR_BIT_LO e, r.errBit % 2 ^ 32), (Reg.RPK_ERR_BIT_HI e, r.errBit / 2 ^ 32)]
  let frameBytes := s.readLe (src + 8) 8
  match s.erpHeaderBad src (dField d 32 4) with
  | some pos =>
    let r := { SwResult.plain 3 frameBytes with cls := 1, errTile := 0xFFFFFFFF, errBit := pos }
    (r, (note ((s.count (Reg.RPK_CNT_STRUCT e) 1).raise .rpk 5) r).logFree .rpk e 5 0x0A 0)
  | none =>
    let g := ErpGeom.decode (s.read src 128) 36
    if dField d 24 8 < rawStride g.w g.sps * g.h then (SwResult.plain 4 0, (s.raise .rpk 8).logFree .rpk e 8 0x0A 0)
    else
      let lost := dedup (lost.filter (fun t => decide (t < g.tiles)))
      let res := s.erpTiles g src (s.readLe (src + 60) 4) (s.readLe (src + 64) 4) frameBytes lost
      let s := res.good.foldl (fun s t => s.erpStore g dst t.1 t.2) s
      let bad := res.bad.map (·.1)
      let s := bad.foldl (fun s t => s.concealWrite (g.rawOut dst) 0 t bad) s
      let pc := s.readLe (src + 52) 4
      let listed := (List.range pc).map (fun i => s.readLe (src + 128 + 4 * i) 4)
      let poison := sortBy id (dedup (listed ++ bad))
      let s := s.write (dField d 54 5) (poison.flatMap (leBytes 4))
      let n := fun (c : ErpClass) => (res.bad.filter (fun b => (b.2.map (·.1)) == some c)).length
      let first := res.bad.findSome? (fun b => b.2.map (fun c => (b.1, c)))
      let sat := fun (v : Nat) => min v 65535
      let r : SwResult := { SwResult.plain (if bad.isEmpty then 0 else 2) frameBytes with
        cls := (first.map (fun f => f.2.1.code)).getD 0, concealed := sat bad.length, errTile := (first.map (·.1)).getD 0,
        errBit := (first.map (fun f => f.2.2)).getD 0, nSyntax := sat (n .syntactic), nCheck := sat (n .check), nStruct := sat (n .structural) }
      let s := ((s.count (Reg.RPK_CNT_STRUCT e) (n .structural)).count (Reg.RPK_CNT_SYNTAX e) (n .syntactic)).count (Reg.RPK_CNT_CHECK e) (n .check)
      let s := (s.count (Reg.RPK_CNT_READ_FAIL e) lost.length).count (Reg.RPK_CNT_CONCEAL e) bad.length
      let s := if first.isSome then (note (s.raise .rpk 5) r).logFree .rpk e 5 0x0A 0 else s
      let s := if bad.isEmpty then s else (s.raise .rpk 7).logFree .rpk e 7 0x03 0
      (r, s)

/-- The 32 bytes of a completion (Table ERP-9). -/
def SwResult.encode (r : SwResult) (tag : Nat) : List Byte :=
  leBytes 4 tag ++ leBytes 1 r.status ++ leBytes 1 r.cls ++ leBytes 2 r.concealed ++ leBytes 8 r.bytes ++ leBytes 4 r.errTile ++
    leBytes 5 r.errBit ++ [0] ++ leBytes 2 r.nSyntax ++ leBytes 2 r.nCheck ++ leBytes 2 r.nStruct

/-- A software job ends (R245): work, completion, CPL_TAIL, JOB_DONE, then HEAD. -/
def State.swDone (s : State) (e : Nat) (lost : List Nat) : State :=
  match (s.eng e).sw with
  | none => s
  | some d =>
    let (r, s) : SwResult × State :=
      if descBad d then (SwResult.plain 4 0, (s.raise .rpk 8).logFree .rpk e 8 0x0A 0)
      else if dField d 0 1 = 0 then s.swEncode e d lost
      else s.swDecode e d lost
    let size := max 1 (s.get (Reg.RPK_RING_SIZE_SIZE e))
    let tail := s.get (Reg.RPK_CPL_TAIL_TAIL e)
    let s := s.write (s.addr40 (Reg.RPK_CPL_BASE_LO e) (Reg.RPK_CPL_BASE_HI e) + 32 * tail) (r.encode (dField d 4 4))
    let s := s.put (Reg.RPK_CPL_TAIL_TAIL e) ((tail + 1) % size)
    let s := s.jobCount e
    let s := if bitAt (dField d 2 1) 0 then s.raise .rpk e else s
    let s := s.put (Reg.RPK_RING_HEAD_HEAD e) ((s.get (Reg.RPK_RING_HEAD_HEAD e) + 1) % size)
    s.setEng e (fun x => { x with sw := none })

/-- A range that a software job names and that the DRAM does not have: its first address (R333). -/
def State.swAbsent (s : State) (e : Nat) : Option Nat :=
  match (s.eng e).sw with
  | none => none
  | some d =>
    if descBad d then none
    else
      let src := dField d 8 5
      let dst := dField d 16 5
      if s.mss.capacity ≤ src then some src else if s.mss.capacity ≤ dst then some dst else none

/-- CLR in RPK_ENG_CTL. -/
def State.engClr (s : State) (e : Nat) : State :=
  s.puts [(Reg.RPK_CNT_JOBS e, 0), (Reg.RPK_CNT_OUT_OF_SPACE e, 0), (Reg.RPK_CNT_STRUCT e, 0), (Reg.RPK_CNT_SYNTAX e, 0),
    (Reg.RPK_CNT_CHECK e, 0), (Reg.RPK_CNT_READ_FAIL e, 0), (Reg.RPK_CNT_CONCEAL e, 0), (Reg.RPK_CNT_RECOMPUTE e, 0),
    (Reg.RPK_CNT_PARITY e, 0), (Reg.RPK_CNT_FLUSHED e, 0)]

/-- A parity error in an engine buffer (R252): the tile restarts from DRAM and its bytes come out the same. -/
def State.engParity (s : State) (e : Nat) : State :=
  if (s.eng e).job.isNone && (s.eng e).sw.isNone then s
  else ((s.countRpk (Reg.RPK_CNT_PARITY e) 1).raise .rpk 6).logFree .rpk e 6 0x02 ((((s.eng e).job).map (·.num)).getD 0)

/-- A write to a ring base or size register (R253): refused while the engine's MODE in effect is JOBS. -/
def State.ringWrite (s : State) (e : Nat) (f : Fld) (v : Word) : State :=
  if s.get (Reg.RPK_ENG_CFG_MODE e) = 2 ∧ s.enabled .rpk then s.refuse .rpk 0x0504 f else s.setReg f.ofs v

/-! ### The commands -/

def execJobStart (t : Nat) (e : Fin 4) (s : State) : Res := .next ((s.tick t).packStart e)
def execJobEnd (t : Nat) (e : Fin 4) (s : State) : Res := .next ((s.tick t).packEnd e)
def execRpkRingTailWrite (t : Nat) (e : Fin 4) (v : Word) (s : State) : Res :=
  .next ((s.tick t).ctl .rpk true (Reg.RPK_RING_TAIL e) (fun s => s.put (Reg.RPK_RING_TAIL_TAIL e) v.toNat))
def execRpkCplHeadWrite (t : Nat) (e : Fin 4) (v : Word) (s : State) : Res :=
  .next ((s.tick t).ctl .rpk true (Reg.RPK_CPL_HEAD e) (fun s => s.put (Reg.RPK_CPL_HEAD_HEAD e) v.toNat))
def execSwJobStart (t : Nat) (e : Fin 4) (s : State) : Res := .next ((s.tick t).swStart e)

/-- SW_JOB_COMPLETE; a job whose SRC or DST lies beyond the DRAM stops the machine (R333). -/
def execSwJobComplete (t : Nat) (e : Fin 4) (lost : List Nat) (s : State) : Res :=
  let s := s.tick t
  match s.swAbsent e with
  | some a => .fault (.dramAddressAbsent a)
  | none => .next (s.swDone e lost)

def execRpkEngClr (t : Nat) (e : Fin 4) (s : State) : Res :=
  .next ((s.tick t).cmd .rpk true (Reg.RPK_ENG_CTL e) 1 (fun s => s.engClr e))
def execRpkParity (t : Nat) (e : Fin 4) (s : State) : Res := .next ((s.tick t).engParity e)

end Sys2Proof.Machine
end

