-- ==== Sys2Proof/Machine/MemCmd.lean ====
section
/-!
DEFINITION. Commands of the memory subsystem: training, refresh, burst turns, read returns with their outcomes, Coppice
recomputation, the code test, and the reels' takes (13_memory_subsystem.md R328 to R355, R479 to R482, R486).
-/

namespace Sys2Proof.Machine

/-! ### Training and device events -/

/-- The training sequence of a channel ends (R330): a first failure retries the whole sequence, a second reads FAILED. -/
def State.trainingDone (s : State) (c : Nat) (ok : Bool) : State :=
  if s.get (Reg.MSS_CH_STATUS_TRAIN c) ≠ 1 then s
  else if ok then s.put (Reg.MSS_CH_STATUS_TRAIN c) 2
  else if (s.chan c).retriedTraining then (s.put (Reg.MSS_CH_STATUS_TRAIN c) 3).raise .mss 5
  else s.setCh c (fun x => { x with retriedTraining := true })

/-- CLK_CTL cycles of n burst turns: a turn is 4 CLK_MEMPHY cycles of the speed grade (R340). -/
def State.turnCycles (s : State) (n : Nat) : Nat :=
  ceilDiv (n * 1600) (([800, 1200, 1600] : List Nat).getD (s.get Reg.MSS_CFG_GRADE) 1600)

/-- ZQCS to each rank of a channel (R332): 32 slots of the channel's Coppice reserve stall. -/
def State.zqcs (s : State) (c : Nat) : State :=
  let s := s.setCh c (fun x => { x with copUsed := x.copUsed + 32, stallUntil := s.now + s.turnCycles 32 })
  (List.range (s.get Reg.MSS_CFG_RANKS + 1)).foldl (fun (s : State) r => s.out (.memCommand c 4 r)) s

/-! ### Reads that return (R337, R344, R345, R347, R479) -/

/-- How R345 ends. -/
inductive ReadEnd
  | ok | retryOk | poison | failed
  deriving DecidableEq, Repr

/-- R345: a burst that holds the poison code is poisoned where it reads as stored, and fails on retry otherwise. -/
def readEnd (poisoned : Bool) (r : DramRead) : ReadEnd :=
  match r, poisoned with
  | .good, false => .ok
  | .good, true => .poison
  | .soft, false => .retryOk
  | .soft, true => .failed
  | .hard, _ => .failed

/-- The unit of a requester port (Table MSS-4). -/
def portUnit (p : Nat) : UnitId :=
  if p = 1 then .slr else if p < 5 then .rfe else if p < 0x10 then .cse else if p < 0x18 then .pcd else if p < 0x20 then .rpk
  else if p < 0x2C then .ore else if p = 0x2C then .hif else if p = 0x2D then .apu else if p = 0x2E then .scc else .mss

/-- The raw frame that stands in a plan buffer. -/
def State.rawIn (s : State) (b : PlanBuf) : Option RawOut :=
  s.rfe.outs.find? (fun o => o.corr == some b.base || o.orig == some b.base)

/-- The render path frame that stands in a plan buffer. -/
def State.renderIn (s : State) (b : PlanBuf) : Option RenderOut := (s.rp b.inst).outs.find? (fun o => o.base == some b.base)

/-- RETAIN of a buffer. -/
def State.retain (s : State) (base : Nat) : Nat := ((SMap.lookup s.mss.lin base).map (·.retain)).getD 0

/-- The raw buffer of a frame is still retained (R251, R349). -/
def State.rawKept (s : State) (o : RawOut) : Bool :=
  decide (0 < (o.corr.map s.retain).getD 0) || decide (0 < (o.orig.map s.retain).getD 0)

/-- The inputs of the frame in a buffer are retained (R349): of a render path frame its raw frame, of a packed raw frame
the raw frame of its number. -/
def State.inputsKept (s : State) (b : PlanBuf) : Bool :=
  match b.kind with
  | .render => ((s.renderIn b).bind (fun o => s.rawOut o.tag.seq)).any s.rawKept
  | .packed => s.rfe.outs.any (fun o => s.rawKept o && o.tag.accepted.any (fun a => some a.2 == (SMap.lookup s.mss.lin b.base).map (·.frame)))
  | _ => false

/-- Tiles that a buffer may have recomputed in a frame (Table MSS-6). -/
def State.copBudget (s : State) (b : PlanBuf) : Nat := ceilDiv (s.get Reg.DEV_LDG_CTL_COP_TILE * b.tiles) 1000

/-- Mix rows a and b into the rows [t, t + n) of a plane of 16-bit samples: R121 with d = 1. -/
def State.mixRows (s : State) (base stride x0 w t n h : Nat) : State :=
  let a := if t = 0 then none else some (t - 1)
  let b := if t + n < h then some (t + n) else none
  let (v, s) := s.fresh
  let rows := (List.range n).map (fun k => (t + k, (List.range w).flatMap (fun i =>
    leBytes 2 (if a.isNone && b.isNone then v % 2 ^ 16 else s.concealValue base stride (x0 + i) (t + k) 0 a b))))
  rows.foldl (fun (s : State) r => s.write (base + r.1 * stride + 2 * x0) r.2) s

/-- The concealed value of a component of a packed 32-bit pixel. -/
def State.mixPacked (s : State) (base stride x y : Nat) (a b : Option Nat) : Nat :=
  let px := fun (r : Nat) => s.readLe (base + r * stride + 4 * x) 4
  sumN ((List.range 3).map (fun c =>
    let g := fun (r : Nat) => (bits (px r) (10 * c + 9) (10 * c) : Int)
    2 ^ (10 * c) * (match a, b with
      | some a, some b => (roundUp (g a * ((b : Int) - a) + (g b - g a) * ((y : Int) - a)) (b - a)).toNat
      | some a, none => (g a).toNat
      | none, some b => (g b).toNat
      | none, none => 0)))

/-- Conceal a tile of a render path frame as for raw, with d = 1 (Table MSS-6), and write it back. -/
def State.concealRender (s : State) (o : RenderOut) (base tile : Nat) : State :=
  let across := ceilDiv o.w 256
  let (tw, th) := tileSize o.w o.h tile
  let x0 := tile % across * 256
  let t := tile / across * 64
  let stride := planeStride o.fmt o.w
  match o.fmt with
  | 0 =>
    let a := if t = 0 then none else some (t - 1)
    let b := if t + th < o.h then some (t + th) else none
    let (v, s) := s.fresh
    let rows := (List.range th).map (fun k => (t + k, (List.range tw).flatMap (fun i =>
      leBytes 4 (if a.isNone && b.isNone then v % 2 ^ 30 else s.mixPacked base stride (x0 + i) (t + k) a b))))
    rows.foldl (fun (s : State) r => s.write (base + r.1 * stride + 4 * x0) r.2) s
  | 1 => s.mixRows base stride (3 * x0) (3 * tw) t th o.h
  | 2 => (s.mixRows base stride x0 tw t th o.h).mixRows (base + stride * o.h) stride x0 tw t th o.h
  | _ => (s.mixRows base stride x0 tw t th o.h).mixRows (base + stride * o.h) stride x0 tw (t / 2) (th / 2) (o.h / 2)

/-- Mark a tile of a render path frame poisoned, in the ring and in the pictures that code it (R122, R211, R217). -/
def State.poisonRender (s : State) (p base tile : Nat) : State :=
  let mark := fun (o : RenderOut) => if o.base = some base then { o with tag := o.tag.addPoison [tile] } else o
  let s := s.setRp p (fun x => { x with outs := x.outs.map mark })
  (List.range 4).foldl (fun (s : State) i => s.setEnc i (fun e => { e with
    pic := e.pic.map (fun q =>
      let o := mark q.out
      { q with out := o, head := { q.head with poisoned := o.tag.poison.length } }) })) s

/-- CTUs of a picture whose search window touches a tile (R201, R217). -/
def windowCtus (w h tile : Nat) : Nat :=
  let across := ceilDiv w 256
  let (tw, th) := tileSize w h tile
  let x0 : Int := (tile % across * 256 : Nat)
  let y0 : Int := (tile / across * 64 : Nat)
  sumN ((List.range (ctuRows h)).map (fun (cy : Nat) => ((List.range (ctuCols w)).filter (fun (cx : Nat) =>
    decide ((64 * (cx : Int)) - 256 < x0 + tw ∧ x0 ≤ 64 * (cx : Int) + 319 ∧ (64 * (cy : Int)) - 128 < y0 + th ∧ y0 ≤ 64 * (cy : Int) + 191))).length))

/-- The reader conceals (Table MSS-6): raw under R121 and R122, render buffers with d = 1, and each other kind by its
reader's own rule (R168, R217). -/
def State.concealRead (s : State) (port addr : Nat) (b : PlanBuf) : State :=
  let tile := b.tileOf addr
  let u := portUnit port
  match b.kind with
  | .corrRaw | .origRaw =>
    match s.rawIn b with
    | none => s
    | some o =>
      let tap := if b.kind = .corrRaw then 0 else 1
      match u with
      | .cse => (s.concealTile o.tag.seq tap tile [tile] .cse (some 4)).countCse Reg.CSE_CNT_CONCEAL 1
      | .rpk => (s.concealTile o.tag.seq tap tile [tile] .rpk (some 7)).countRpk (Reg.RPK_CNT_CONCEAL (port % 4)) 1
      | _ => s.concealTile o.tag.seq tap tile [tile] u none
  | .history =>
    match s.cse.scene with
    | some f =>
      if f.histIn = some b.base then
        let row := (addr - b.base) / max 1 b.stride
        let o := (addr - b.base) % max 1 b.stride
        let s := s.setCse (fun c => { c with scene := some { f with histLost := f.histLost ++ [(row, o / 6, (o + 63) / 6)] } })
        (s.countCse Reg.CSE_CNT_HIST_LOST 1).raise .cse 3
      else s
    | none => s
  | .motion =>
    match s.cse.scene with
    | some f =>
      match f.field with
      | some d =>
        if d.addr ≤ addr then s.setCse (fun c => { c with scene := some { f with mfLost := f.mfLost ++ [(addr - d.addr) / 64] } })
        else s
      | none => s
    | none => s
  | .render =>
    match s.renderIn b with
    | some o => (s.concealRender o b.base tile).poisonRender b.inst b.base tile
    | none => s
  | .pcdRef =>
    if b.inst < 4 then
      match (s.enc b.inst).pic with
      | some p => s.refIntra b.inst (windowCtus p.out.w p.out.h tile)
      | none => s
    else s.setDec (b.inst - 4) (fun x => { x with parity := true })
  | _ => s

/-- A read of the RFE's tables is lost: its Defect Map Table burst (R124) or flat-field nodes (R125). -/
def State.rfeReadLost (s : State) (addr : Nat) : State :=
  match s.rfe.frame with
  | none => s
  | some f =>
    let dmt := s.addr40 Reg.RFE_DMT_BASE_LO Reg.RFE_DMT_BASE_HI
    let ff := s.addr40 Reg.RFE_FF_BASE_LO Reg.RFE_FF_BASE_HI
    let gx := s.get Reg.RFE_FF_CFG_GX
    let gy := s.get Reg.RFE_FF_CFG_GY
    if dmt ≤ addr ∧ addr < dmt + 4 * s.get Reg.RFE_DMT_COUNT_N then
      let lost := dedup (f.dmtLost ++ [(addr - dmt) / 64])
      let r := s.readDmt { f with cnt := { f.cnt with readErr := 0 } } (s.rfeCfg f) lost
      (s.setRfe (fun x => { x with frame := some { r.1 with dmtLost := lost } })).raise .rfe 3
    else if ff ≤ addr ∧ addr < ff + 8 * gx * gy then
      let nodes := (List.range 32).filterMap (fun k =>
        let i := (addr - ff) / 2 + k
        if i < 4 * gx * gy then some (i / (gx * gy), i % gx, i / gx % gy) else none)
      (s.setRfe (fun x => { x with frame := some { f with ffLost := f.ffLost ++ nodes } })).raise .rfe 3
    else s

/-- A reader is answered DATA_ERROR: its own rule (R124, R125, Table PCD-8; the others keep what their commands bring). -/
def State.dataError (s : State) (c port addr : Nat) : State :=
  let s := (s.count (Reg.MSS_CNT_DATA_ERR c) 1).raise .mss 2
  let s := if port = 4 then s.rfeReadLost addr
    else if port = 0x14 ∨ port = 0x15 then s.setDec (port - 0x14) (fun x => { x with parity := true })
    else s
  s.out (.memReply port addr 2 [])

/-- Answer CONCEAL (R347). -/
def State.answerConceal (s : State) (c port addr : Nat) (b : PlanBuf) (budget unavail : Bool) : State :=
  let s := (s.count (Reg.MSS_CNT_CONCEAL c) 1).raise .mss 1
  let s := if budget then s.count (Reg.MSS_CNT_COP_BUDGET c) 1 else s
  let s := if unavail then s.count (Reg.MSS_CNT_COP_UNAVAIL c) 1 else s
  (s.concealRead port addr b).out (.memReply port addr 1 (leBytes 4 (b.tileOf addr)))

/-- Hold the read and ask the producer for the tile (R347). -/
def State.holdRead (s : State) (port addr : Nat) (b : PlanBuf) : State :=
  let tile := b.tileOf addr
  let q : CopReq := { unit := b.unit, inst := b.inst, buf := b.base, tile := tile, addr := addr, port := port }
  let h : HeldRead := { port := port, addr := addr, unit := b.unit, inst := b.inst, tile := tile, buf := b.base }
  { s with mss := { s.mss with coppice := s.mss.coppice ++ [q], held := s.mss.held ++ [h] } }

/-- The producer of a buffer is masked under R343. -/
def State.producerMasked (s : State) (b : PlanBuf) : Bool :=
  match UnitId.ofId b.unit with
  | some u => s.removed u
  | none => true

/-- Table MSS-6 for a read that has failed. `full` says that the producer's Coppice queue is full. -/
def State.readOutcome (s : State) (c port addr : Nat) (full : Bool) : State :=
  match s.bufAt addr with
  | none => s.dataError c port addr
  | some b =>
    match b.kind with
    | .eventLog | .lineage | .sapwood | .table => s.dataError c port addr
    | .corrRaw | .origRaw => s.answerConceal c port addr b false false
    | k =>
      if k = .packed ∧ s.inputsKept b then s.holdRead port addr b
      else if !b.recomputable || !s.inputsKept b then s.answerConceal c port addr b false false
      else if s.producerMasked b || full then s.answerConceal c port addr b false true
      else if s.copBudget b ≤ ((SMap.lookup s.mss.lin b.base).map (·.recomputed)).getD 0 then s.answerConceal c port addr b true false
      else s.holdRead port addr b

/-- A reply for a requester whose drain window has ended is dropped (R343). -/
def State.replyDropped (s : State) (port : Nat) : Bool :=
  s.mss.masked.contains port && ((s.units.toList.getD (portUnit port).id UnitSt.reset).removal.map (·.drained)).getD false

/-- Read data returns (R345, R347): `rmw` says that it is the read part of a partial write (R337). -/
def State.readReturn (s : State) (port addr : Nat) (r : DramRead) (rmw full : Bool) : State :=
  let addr := addr / 64 * 64
  let c := s.channelOf addr
  if s.inScratch addr then s
  else
    let e := readEnd (s.burstPoisoned addr) r
    let s := match e with
      | .ok => s
      | .retryOk => s.count (Reg.MSS_CNT_RETRY_OK c) 1
      | .poison => s.count (Reg.MSS_CNT_POISON_READ c) 1
      | .failed =>
        let (lin, s) := s.fresh
        let s := s.count (if lin % 2 = 0 then Reg.MSS_CNT_LIN_HIT else Reg.MSS_CNT_LIN_MISS) 1
        let b := s.bufAt addr
        let frame := (b.bind (fun b => (SMap.lookup s.mss.lin b.base).map (·.frame))).getD 0
        (s.count (Reg.MSS_CNT_DETECT c) 1).fault .mss 0 0 0x01 frame c ((b.map (fun b => b.tileOf addr)).getD 0)
    let bad := e == .poison || e == .failed
    if rmw then (if bad then (s.poisonBursts addr 64).count (Reg.MSS_CNT_RMW_POISON c) 1 else s)
    else if s.replyDropped port then s.count (Reg.MSS_CNT_REPLY_DROP c) 1
    else if bad then s.readOutcome c port addr full
    else s.out (.memReply port addr 0 (s.read addr 64))

/-- A producer has recomputed the tile of the oldest request in its queue and written it back (R251, R348): the held read
is served again. `inputLost` says that an input of the recomputation was concealed; `again` is what the held read finds. -/
def State.coppiceDone (s : State) (unit inst : Nat) (inputLost : Bool) (again : DramRead) : State :=
  match s.mss.coppice.find? (fun q => q.unit == unit && q.inst == inst) with
  | none => s
  | some q =>
    let c := s.channelOf q.addr
    let s := { s with mss := { s.mss with
      coppice := s.mss.coppice.erase q
      held := s.mss.held.filter (fun h => !(h.port == q.port && h.addr == q.addr)) } }
    match s.plan.bufs.find? (fun b => b.base == q.buf) with
    | none => s
    | some b =>
      let across := b.across
      let (tw, th) := tileSize b.width b.height q.tile
      let s := (List.range th).foldl (fun (s : State) k =>
        s.unpoison (b.base + (q.tile / across * 64 + k) * b.stride + q.tile % across * 256 * b.bpp) (tw * b.bpp)) s
      let s := s.unpoison (q.addr / 64 * 64) 64
      let s := { s with mss := { s.mss with lin := (match SMap.lookup s.mss.lin b.base with
        | some d => SMap.insert s.mss.lin b.base { d with recomputed := d.recomputed + 1 }
        | none => s.mss.lin) } }
      let s := if inputLost && b.kind == .render then s.poisonRender b.inst b.base q.tile else s
      let s := if b.kind = .packed then s.countRpk (Reg.RPK_CNT_RECOMPUTE (q.inst % 4)) 1 else s
      if readEnd false again = .failed then s.answerConceal c q.port q.addr b true false
      else (s.count (Reg.MSS_CNT_RECOMPUTE c) 1).out (.memReply q.port q.addr 0 (s.read (q.addr / 64 * 64) 64))

/-! ### The code test (R344) -/

/-- GO of MSS_CRC_TEST_CTL. -/
def State.crcTest (s : State) : State :=
  let a := s.addr40 Reg.MSS_CRC_TEST_ADDR_LO Reg.MSS_CRC_TEST_ADDR_HI_V
  let d := (List.range 16).flatMap (fun i => leBytes 4 (s.get (Reg.MSS_CRC_TEST_DATA i)))
  let v := crc64 a d
  s.puts [(Reg.MSS_CRC_TEST_RESULT_LO, v % 2 ^ 32), (Reg.MSS_CRC_TEST_RESULT_HI, v / 2 ^ 32)]

/-- Every channel's 512-slot cycle wraps: slot 0 begins on one edge in all of them (R340). A plan that waited for the exchange is
then written into the inactive copies (R341). -/
def State.wrapAll (s : State) : State :=
  let s := (List.range s.variant.channels).foldl (fun (s : State) c => s.wrapChannel c) s
  match s.mss.slotsWait with
  | none => s
  | some l => ({ s with mss := { s.mss with slotsWait := none } }).writeSlotTables l

/-- An access to a channel's registers acts where the channel is present (R8). -/
def State.chHere (s : State) (c : Nat) : Bool := decide (c < s.variant.channels)

/-! ### The commands -/

def execSlotTableWrap (t : Nat) (s : State) : Res := .next (s.tick t).wrapAll
def execTrainingDone (t : Nat) (c : Fin 16) (ok : Bool) (s : State) : Res := .next ((s.tick t).trainingDone c ok)
def execZqcs (t : Nat) (c : Fin 16) (s : State) : Res := .next ((s.tick t).zqcs c)
def execRefreshDue (t : Nat) (c : Fin 16) (s : State) : Res := .next ((s.tick t).refresh c)
def execDdrHotChange (t : Nat) (high : Bool) (s : State) : Res := .next ((s.tick t).ddrHot high)
def execDdrHotCool (t : Nat) (s : State) : Res := .next (s.tick t).ddrCool
/-- A request for an address beyond the capacity of the part stops the machine (R333). -/
def execArbTurn (t : Nat) (c : Fin 16) (arrivals : List MemReq) (s : State) : Res :=
  match arrivals.find? (fun r => decide (s.mss.capacity ≤ r.addr)) with
  | some r => .fault (.dramAddressAbsent r.addr)
  | none => .next ((s.tick t).arbTurn c arrivals)

/-- A read of an address beyond the capacity of the part stops the machine (R333). -/
def execDramReadReturn (t : Nat) (port : Fin 64) (addr : Nat) (r : DramRead) (rmw full : Bool) (lat : Nat) (s : State) : Res :=
  if s.mss.capacity ≤ addr then .fault (.dramAddressAbsent addr)
  else
    let s := s.tick t
    .next ((if rmw then s else s.gauge 2 port lat).readReturn port addr r rmw full)

def execCoppiceRecompute (t unit inst : Nat) (inputLost : Bool) (again : DramRead) (s : State) : Res :=
  .next ((s.tick t).coppiceDone unit inst inputLost again)
def execSlotSwap (t : Nat) (c : Fin 16) (s : State) : Res :=
  .next ((s.tick t).cmd .mss (s.chHere c) (Reg.MSS_SLOT_CTL c) 1 (fun s => s.slotSwap c))
def execSlotClr (t : Nat) (c : Fin 16) (s : State) : Res :=
  .next ((s.tick t).cmd .mss (s.chHere c) (Reg.MSS_SLOT_CTL c) 2 (fun s => s.slotClr c))
def execCrcTest (t : Nat) (s : State) : Res := .next ((s.tick t).cmd .mss true Reg.MSS_CRC_TEST_CTL 1 (fun s => s.crcTest))
def execRec (t : Nat) (r : Fin 8) (rec' : Bool) (s : State) : Res :=
  .next ((s.tick t).ctl .mss true (Reg.MSS_REEL_CTL r) (fun s => s.recWrite r rec'))
def execTakeOpen (t : Nat) (r : Fin 8) (s : State) : Res := .next ((s.tick t).openTake r)
def execTakeOpenRetry (t : Nat) (r : Fin 8) (s : State) : Res := .next ((s.tick t).openTake r)
def execTakeClose (t : Nat) (r : Fin 8) (s : State) : Res := .next ((s.tick t).takeClose r)
/-- The controller retries the command that the device flagged (R328); which command it was the device knows. -/
def execCaParityAlert (t : Nat) (c : Fin 16) (command : Nat) (s : State) : Res := .next ((s.tick t).out (.memCommand c 5 command))

end Sys2Proof.Machine
end

