-- ==== Sys2Proof/Machine/Fuse.lean ====
section
/-!
DEFINITION. Fuses and Trohan images (16_boot_and_security.md, R405 to R408, R415, Tables BOOT-1 to BOOT-4).
-/

namespace Sys2Proof.Machine

/-! ### Fuses (Table BOOT-4) -/

/-- A fuse bit is blown. -/
def State.fuse (s : State) (n : Nat) : Bool := (SMap.lookup s.fuses n).isSome || Config.fuseBit n

/-- The number that n fuse bits from `lo` on hold, the lowest bit first. -/
def State.fuseVal (s : State) (lo n : Nat) : Nat := sumN ((List.range n).map (fun i => b2n (s.fuse (lo + i)) * 2 ^ i))

/-- The key hash of a slot, 64 bytes. -/
def State.keyHash (s : State) (k : Nat) : List Byte := (List.range 64).map (fun i => BitVec.ofNat 8 (s.fuseVal (512 * k + 8 * i) 8))

/-- A key slot is fused. -/
def State.keyFused (s : State) (k : Nat) : Bool := (List.range 512).any (fun i => s.fuse (512 * k + i))

/-- REVOKE of a slot, VENDOR_DISABLE, DBG_CLOSE. -/
def State.keyRevoked (s : State) (k : Nat) : Bool := s.fuse (2112 + k)
def State.vendorDisabled (s : State) : Bool := s.fuse 2116
def State.dbgClosed (s : State) : Bool := s.fuse 2448

/-- A key slot may verify images (R407). -/
def State.keyUsable (s : State) (k : Nat) : Bool :=
  decide (k < 4) && s.keyFused k && !s.keyRevoked k && !(k == 0 && s.vendorDisabled)

/-- The fused counter F: blown bits of the thermometer (R415). -/
def State.rollbackF (s : State) : Nat := sumN ((List.range 64).map (fun i => b2n (s.fuse (2048 + i))))

/-- The life-cycle state. -/
def State.lifecycle (s : State) : Nat := s.fuseVal 2120 8

/-- SCC_FUSE_STATE shows the fuses (Table BOOT-9). -/
def State.showFuses (s : State) : State :=
  s.puts [(Reg.SCC_FUSE_STATE_LIFECYCLE, s.lifecycle), (Reg.SCC_FUSE_STATE_F, s.rollbackF),
    (Reg.SCC_FUSE_STATE_FUSED, sumN ((List.range 4).map (fun k => b2n (s.keyFused k) * 2 ^ k))),
    (Reg.SCC_FUSE_STATE_DBG_CLOSE, b2n s.dbgClosed), (Reg.SCC_FUSE_STATE_VENDOR_DISABLE, b2n s.vendorDisabled),
    (Reg.SCC_FUSE_STATE_REVOKE, s.fuseVal 2112 4)]

/-! ### Images (Tables BOOT-1, BOOT-2) -/

/-- An image header. -/
structure ImgHdr where
  seq : Nat
  rollback : Nat
  keySlot : Nat
  sections : Nat
  imageBytes : Nat
  pubOff : Nat
  sigOff : Nat
  fw : Nat
  flags : Nat
  deriving DecidableEq, Repr

/-- A section table entry. -/
structure ImgSec where
  typ : Nat
  flags : Nat
  off : Nat
  bytes : Nat
  dest : Nat
  digest : List Byte
  deriving DecidableEq, Repr

/-- n bytes of an image from an offset on. -/
def imgBytes (rd : Nat → Byte) (o n : Nat) : List Byte := (List.range n).map (fun i => rd (o + i))

/-- A little-endian number of an image. -/
def imgVal (rd : Nat → Byte) (o n : Nat) : Nat := leVal (imgBytes rd o n)

/-- The section table. -/
def imgSections (rd : Nat → Byte) (n : Nat) : List ImgSec :=
  (List.range n).map (fun i =>
    let o := 128 + 96 * i
    { typ := imgVal rd o 2, flags := imgVal rd (o + 2) 2, off := imgVal rd (o + 8) 8, bytes := imgVal rd (o + 16) 8
      dest := imgVal rd (o + 24) 8, digest := imgBytes rd (o + 32) 64 })

/-- A header is valid when its magic, version, size and CRC hold and every offset and length lies inside the slot
(R408). -/
def imgHeader (rd : Nat → Byte) (limit : Nat) : Option ImgHdr :=
  let h : ImgHdr :=
    { seq := imgVal rd 8 4, rollback := imgVal rd 12 1, keySlot := imgVal rd 13 1, sections := imgVal rd 14 2
      imageBytes := imgVal rd 16 8, pubOff := imgVal rd 24 4, sigOff := imgVal rd 28 4, fw := imgVal rd 32 4, flags := imgVal rd 36 2 }
  if imgVal rd 0 4 = 0x484F5254 ∧ imgVal rd 5 1 = 1 ∧ imgVal rd 6 2 = 128 ∧ imgVal rd 124 4 = crc32 (imgBytes rd 0 124) ∧
      1 ≤ h.sections ∧ h.sections ≤ 64 ∧ 128 + 96 * h.sections ≤ limit ∧ h.imageBytes ≤ limit ∧ h.pubOff + 2592 ≤ limit ∧
      h.sigOff + 4627 ≤ limit ∧ (imgSections rd h.sections).all (fun c => decide (c.off + c.bytes ≤ limit)) then some h
  else none

/-- The image digest M (R407). -/
def imgDigest (rd : Nat → Byte) (h : ImgHdr) : List Byte := sha3 (imgBytes rd 0 (128 + 96 * h.sections))

/-- R407 with the key of slot k: 0, or the code of Table BOOT-8. -/
def State.verifyImage (s : State) (rd : Nat → Byte) (h : ImgHdr) (k : Nat) : Nat :=
  let key := imgBytes rd h.pubOff 2592
  if !s.keyUsable k then 0x02
  else if sha3 key ≠ s.keyHash k then 0x03
  else if !Config.mlDsaVerify key (imgDigest rd h) (imgBytes rd h.sigOff 4627) then 0x04
  else 0

/-- A section's digest holds. -/
def secGood (rd : Nat → Byte) (c : ImgSec) : Bool := sha3 (imgBytes rd c.off c.bytes) == c.digest

end Sys2Proof.Machine
end

