-- ==== Sys2Proof/Machine/Units.lean ====
section
/-!
DEFINITION. Events and interrupts, views, the removal sequence, unit reset and graft, freeze
(18_unit_reset_and_faults.md, R439 to R447, R449, R451, R470, R472; R359, R373 of 14_cell_pool_and_locks.md), and the
commands of the Cell Pool and the locks (14_cell_pool_and_locks.md).
-/

namespace Sys2Proof.Machine

/-! ### Event log (R449, R483) -/

/-- The event writer writes its oldest message as a record: to the ring, to the Keeper copy, then to the counters. -/
def State.eventWrite (s : State) : State :=
  match s.evt.queue with
  | [] => s
  | m :: rest =>
    let seq := s.get Reg.DEV_EVLOG_SEQ
    let b := leBytes 4 seq ++ leBytes 6 (secOf m.timeNs) ++ leBytes 4 (nsecOf m.timeNs) ++ leBytes 1 m.unit ++ leBytes 1 m.inst ++
      leBytes 2 m.code ++ leBytes 1 m.cls ++ leBytes 1 (m.flags ||| (b2n s.evt.lost * 2)) ++ leBytes 6 m.frame ++ leBytes 2 m.arg0 ++
      leBytes 4 m.arg1
    let s := { s with evt := { queue := rest, lost := false } }
    let s := if s.mss.capacity = 0 then s else s.write (s.addr40 Reg.DEV_EVLOG_BASE_LO Reg.DEV_EVLOG_BASE_HI + 32 * (seq % 4096)) b
    let s := s.puts ((List.range 8).map (fun w => (Reg.HTP_KPR_EVT (seq % 64) w, leVal (bytesAt b (4 * w) 4))))
    let s := (s.bump Reg.DEV_EVLOG_SEQ).bump (Reg.UNIT_EVENT_SEQ m.unit)
    if m.cls ≤ 0x13 then s.count (Reg.UNIT_ERR_COUNT m.unit) 1 else s

/-! ### Interrupt registers (R451, R470, R473) -/

/-- Bits of UNIT_INT_STATUS that a unit has; 0 stands for DEV_EVT_STATUS. -/
def intMask (u : Nat) : Nat :=
  ([0x7F, 0x3F, 0x3FF, 0x1FFFF1F, 0x3F3F, 0x1FF, 0x1FFFF, 0x1FFF, 0x1FF, 0x7F, 0x1F, 0x1F0000, 0x1FF] : List Nat).getD u 0

/-- The interrupt status register of a unit, or DEV_EVT_STATUS. -/
def intReg (u : Nat) : Fld := if u = 0 then Reg.DEV_EVT_STATUS else Reg.UNIT_INT_STATUS u

/-- A write reaches a register of the common unit block or of the device-common window: not before the register bus is
released (R381), not in SHUTDOWN (R430), not of an absent unit (R7). A removed unit's common block stays writable (R440). -/
def State.ctlCommon (s : State) (u : Nat) (f : Fld) (k : State → State) : State :=
  if !s.boot.busOpen then s
  else if s.flag Reg.HTP_SHUTDOWN_STATUS_SHUTDOWN then s.refuse .htp 0x0C05 f
  else if u = 0 then k s
  else match UnitId.ofId u with
    | some x => if s.variant.has x then k s else s
    | none => s

/-- A W1C write: a bit that an event sets in the same cycle stays set (R470); a write that leaves the summary at 1 sends
the vector again (R451). -/
def State.intClear (s : State) (u v : Nat) : State :=
  let f := intReg u
  let old := s.get f
  let kept := sumN ((List.range 32).map (fun n =>
    b2n (bitAt old n && (!bitAt v n || SMap.lookup s.intAt (32 * u + n) == some s.now)) * 2 ^ n))
  let s := (s.put f kept).refreshSummary u
  if s.summary u && s.flag (Reg.DEV_INT_VEC_MSIX_EN u) then s.sendVector (s.get (Reg.DEV_INT_VEC_VECTOR u)) else s

/-- A write to UNIT_INT_FORCE or DEV_EVT_FORCE sets bits as if their events had occurred (R451). -/
def State.intForce (s : State) (u v : Nat) : State :=
  (List.range 32).foldl (fun (s : State) n =>
    if bitAt v n && bitAt (intMask u) n then
      match UnitId.ofId u with
      | some x => s.raise x n
      | none => s.devRaise n
    else s) s

/-! ### Views (R472) -/

/-- A requester has a view of its own: it is no unit instance. -/
def Requester.hasView : Requester → Bool
  | .unit _ _ => false
  | _ => true

/-- The copy that a requester reads: true for the shadow or inactive copy. -/
def State.view (s : State) (by' : Requester) (u : Nat) : Bool := s.views.contains (by'.code, u)

/-- A write to UNIT_VIEW or DEV_VIEW sets the writer's value alone. -/
def State.setView (s : State) (by' : Requester) (u : Nat) (copy : Bool) : State :=
  if !by'.hasView then s
  else
    let l := s.views.filter (fun e => e != (by'.code, u))
    { s with views := if copy then l ++ [(by'.code, u)] else l }

/-! ### Units -/

/-- What the fabric keeps about a unit. -/
def State.unit (s : State) (u : UnitId) : UnitSt := getN s.units u.id UnitSt.reset

/-- Replace it. -/
def State.setUnit (s : State) (u : UnitId) (f : UnitSt → UnitSt) : State := { s with units := updN s.units u.id f }

/-- The pixel units (R424). -/
def UnitId.pixel : UnitId → Bool
  | .slr => true | .rfe => true | .cse => true | .pcd => true | .rpk => true | .ore => true | .apu => true
  | _ => false

/-- The units that Heartwood enables (R485). -/
def UnitId.heartwood : UnitId → Bool
  | .mss => true | .hif => true | .scc => true | .htp => true
  | _ => false

/-- Booked paths through a unit. -/
def State.unitPaths (s : State) (u : UnitId) : List Booking := s.plan.bookings.filter (fun b => b.units.contains u.id)

/-- Change the tag of every frame that a unit holds. -/
def State.mapTags (s : State) (f : FrameTag → FrameTag) : State :=
  let out := fun (o : RenderOut) => { o with tag := f o.tag }
  let shown := fun (x : Shown) => { x with tag := f x.tag }
  let riF := fun (x : RiFrameSt) => { x with tag := f x.tag }
  { s with
    slr := { s.slr with links := s.slr.links.map (fun l => { l with frame := l.frame.map (fun x => { x with tag := f x.tag }) }) }
    rfe := { s.rfe with
      frame := s.rfe.frame.map (fun x => { x with tag := f x.tag })
      outs := s.rfe.outs.map (fun x => { x with tag := f x.tag }) }
    cse := { s.cse with
      scene := s.cse.scene.map (fun x => { x with tag := f x.tag })
      rps := s.cse.rps.map (fun p => { p with frame := p.frame.map (fun x => { x with tag := f x.tag }), outs := p.outs.map out }) }
    pcd := { s.pcd with
      enc := s.pcd.enc.map (fun e => { e with pic := e.pic.map (fun p => { p with out := out p.out }) })
      dec := s.pcd.dec.map (fun d => { d with frame := d.frame.map f, outs := d.outs.map (fun o => { o with tag := f o.tag }) }) }
    ore := { s.ore with
      tgs := s.ore.tgs.map (fun g => { g with shown := g.shown.map shown })
      ris := s.ore.ris.map (fun r => { r with frame := r.frame.map riF, outs := r.outs.map riF })
      txs := s.ore.txs.map (fun x => { x with frame := x.frame.map shown }) } }

/-- Frame n of a path has left a unit (R442): the unit's own work for it is written where its readers take it. A unit that
delivers the path holds the frame until it is delivered. -/
def State.pastUnit (s : State) (u : UnitId) (b : Booking) (n : Nat) : Bool :=
  let on := fun (t : FrameTag) => t.on b.path == some n
  let inSlr := (List.range 2).any (fun l => ((s.link l).frame.map (fun f => on f.tag)).getD false)
  let inRfe := (s.rfe.frame.map (fun f => on f.tag)).getD false
  match u with
  | .slr => !inSlr
  | .rfe => b.kind != 5 && !inSlr && !inRfe
  | .cse => (List.range 8).any (fun p => (s.rp p).outs.any (fun o => o.done && on o.tag)) &&
      !(List.range 8).any (fun p => ((s.rp p).frame.map (fun f => on f.tag)).getD false)
  | .pcd => b.kind != 3 && decide (6 ≤ b.src) && !((s.dec (b.src - 6)).frame.map on).getD false
  | .ore => b.kind != 1 && b.kind != 2 && b.kind != 6 && b.kind != 8 && decide (2 ≤ b.src ∧ b.src < 6) &&
      !(((s.ri (b.src - 2)).frame.map (fun f => on f.tag)).getD false)
  | _ => false

/-- Accepted frames of a path that a unit still holds, or that have not reached it yet. -/
def State.heldFrames (s : State) (u : UnitId) (b : Booking) : List Nat := (s.path b.path).inFlight.filter (fun n => !s.pastUnit u b n)

/-- Abandon the accepted frames of the paths through a unit that are not past it (R442): they are never delivered, and
their reserved space returns. The answer lists each path's lowest and highest abandoned counter. -/
def State.abandon (s : State) (u : UnitId) : List (Nat × Nat × Nat) × State :=
  let lost := ((s.unitPaths u).map (fun b => (b, s.heldFrames u b))).filter (fun e => !e.2.isEmpty)
  let s := lost.foldl (fun (s : State) e =>
    let s := e.2.foldl (fun (s : State) n =>
      match s.reelOf e.1.kind e.1.idx with
      | some r => s.returnSpace r e.1.path n
      | none => s) s
    let s := s.setPath e.1.path (fun p => { p with inFlight := p.inFlight.filter (fun n => !e.2.contains n) })
    (s.mapTags (fun t => { t with accepted := t.accepted.filter (fun a => !(a.1 == e.1.path && e.2.contains a.2)) })).out
      (.abandoned e.1.path (e.2.foldl min (e.2.headD 0)) (maxN e.2))) s
  (lost.map (fun e => (e.1.path, e.2.foldl min (e.2.headD 0), maxN e.2)), s)

/-- Cut off the work that a removed unit cannot finish (R253, R442). -/
def State.cutWork (s : State) (u : UnitId) : State :=
  match u with
  | .rpk => (List.range 4).foldl (fun (s : State) e => (s.packCut e).swCut e) s
  | .pcd => (List.range 4).foldl (fun (s : State) i => s.pictureCut i) s
  | _ => s

/-- A masked producer answers the Coppice requests that wait for it as Table MSS-6 gives (R440). -/
def State.dropCoppice (s : State) (u : UnitId) : State :=
  let mine := s.mss.coppice.filter (fun q => q.unit == u.id)
  let s := { s with mss := { s.mss with
    coppice := s.mss.coppice.filter (fun q => q.unit != u.id), held := s.mss.held.filter (fun h => h.unit != u.id) } }
  mine.foldl (fun (s : State) q =>
    match s.plan.bufs.find? (fun b => b.base == q.buf) with
    | some b => s.answerConceal (s.channelOf q.addr) q.port q.addr b false true
    | none => s) s

/-- Requester ports of a unit (Table MSS-4). -/
def unitPorts (u : UnitId) : List Nat := (List.range 0x30).filter (fun p => portUnit p == u)

/-! ### Removal (R439, R441, R442) -/

/-- The cause that asserts a unit's sideband now, where no graft does. -/
def State.removalCause (s : State) (u : UnitId) : Option Cause :=
  if s.flag Reg.HTP_SHUTDOWN_STATUS_SHUTDOWN && u.pixel then some .thermal
  else if (s.unit u).reqReset then some .reset
  else if u.pixel && (s.get Reg.HTP_PWR_STATUS_STATE != 0 || (s.flag Reg.HTP_PWR_STATUS_BUSY && s.get Reg.HTP_PWR_STATUS_TARGET != 0)) then
    some .power
  else none

/-- Step 1 of Table FLT-1. `begun` is the number of Cell Pool cells of items that the unit has begun and not
committed. -/
def State.startRemoval (s : State) (u : UnitId) (c : Cause) (begun : Nat) : State :=
  let s := s.setUnit u (fun x => { x with removal := some { cause := c, since := s.now, drained := false } })
  let s := s.put (Reg.UNIT_STATE_PHASE u.id) (if c = .thermal then 5 else 1)
  let s := { s with mss := { s.mss with masked := dedup (s.mss.masked ++ unitPorts u) } }
  let s := ((s.poolRemoval u begun).breakLocksOf (fun o => o / 256 == u.id)).dropCoppice u
  if c = .graft then s
  else
    let s := s.cutWork u
    let (l, s) := s.abandon u
    if c = .reset then
      if l.isEmpty then s.logEvt u 0 0x80 0x10 0 0xFFFF 0
      else l.foldl (fun (s : State) e => s.logEvt u 0 0x80 0x10 e.2.1 e.1 (e.2.2 - e.2.1)) s
    else s

/-- A unit's sideband asserts. -/
def State.removal (s : State) (u : UnitId) (begun : Nat) : State :=
  if !s.variant.has u then s
  else
    match s.removalCause u, (s.unit u).removal with
    | some c, none => s.startRemoval u c begun
    | some .thermal, some r =>
      if r.cause = .thermal then s
      else
        let s := (s.setUnit u (fun x => { x with removal := some { r with cause := .thermal } })).put (Reg.UNIT_STATE_PHASE u.id) 5
        ((s.cutWork u).abandon u).2
    | _, _ => s

/-- The sideband deasserts, and the mask lifts (step 5). -/
def State.endRemoval (s : State) (u : UnitId) : State :=
  let s := s.setUnit u (fun x => { x with removal := none, reqReset := false })
  let s := { s with mss := { s.mss with masked := s.mss.masked.filter (fun p => portUnit p != u) } }
  s.put (Reg.UNIT_STATE_PHASE u.id) (if s.flag (Reg.UNIT_CTL_FREEZE u.id) then 4 else 0)

/-- Registers that a unit reset keeps (R441), and those of the Keeper island. -/
def keptReg (u : UnitId) (w : Nat) : Bool :=
  w == 0x30 || w == 0x1C || w == 0x28 || w == 0x2C || (u == .htp && (w == 0x300 || w == 0x304 || decide (0x1000 ≤ w ∧ w < 0x2000)))

/-- Tables, FIFOs and state machines of a unit at reset. -/
def State.resetParts (s : State) (u : UnitId) : State :=
  match u with
  | .slr => { s with slr := SlrSt.reset }
  | .rfe => { s with rfe := RfeSt.reset, cal := CalSt.reset }
  | .cse => { s with cse := CseSt.reset }
  | .pcd => { s with pcd := PcdSt.reset }
  | .rpk => { s with rpk := RpkSt.reset }
  | .ore => { s with ore := OreSt.reset }
  | .apu => { s with apu := ApuSt.reset }
  | .rtu => { s with rtu := RtuSt.reset }
  | .mss => { s with
      mss := { s.mss with ch := Vector.replicate 16 ChSt.reset, arbEff := Regs.resetOf Reg.MSS_ARB_CFG.ofs, hotLowSince := 0, coppice := [], held := [] }
      clip := ClipSt.reset }
  | .hif => { s with hif := HifSt.reset }
  | .scc => { s with
      pool := { queues := [], waiting := [], hidden := 0, notified := [] }
      locks := Vector.replicate 256 { st := .free, owner := 0 }
      evt := { queue := [], lost := false } }
  | .htp => { s with htp := HtpSt.reset }

/-- The reset itself, after step 4 (R441). -/
def State.resetUnit (s : State) (u : UnitId) : State :=
  let on := u.heartwood && s.enabled u
  let out := fun (k : Nat) => k / 0x100000 != u.id
  let s := { s with
    regs := SMap.keep s.regs (fun k => out k || keptReg u (k % 0x100000))
    shadow := SMap.keep s.shadow out
    intAt := SMap.keep s.intAt (fun k => k / 32 != u.id)
    views := s.views.filter (fun v => v.2 != u.id) }
  let s := (s.resetParts u).refreshSummary u.id
  let s := if on then s.puts [(Reg.UNIT_CTL_ENABLE u.id, 1), (Reg.UNIT_STATUS_ENABLED u.id, 1)] else s
  (s.endRemoval u).gpioSync

/-- The drain window ends (step 4): replies to the unit are dropped from now on, and what follows the cause proceeds. -/
def State.drainEnd (s : State) (u : UnitId) : State :=
  match (s.unit u).removal with
  | none => s
  | some r =>
    if r.drained ∨ s.now < r.since + s.get (Reg.UNIT_DRAIN_TIME_DRAIN_US u.id) * 400 then s
    else
      let s := s.setUnit u (fun x => { x with removal := some { r with drained := true } })
      match r.cause with
      | .reset => s.resetUnit u
      | .graft => s.put (Reg.UNIT_STATE_PHASE u.id) 3
      | .power => s.put (Reg.UNIT_STATE_PHASE u.id) 6
      | .thermal => s

/-! ### Graft (R443 to R446) -/

/-- A graft has shed the path: some unit of its chain is being grafted. -/
def State.graftHolds (s : State) (b : Booking) : Bool :=
  b.units.any (fun k => match UnitId.ofId k with
    | some u => (s.unit u).graft != .idle
    | none => false)

/-- An accepted graft request: the paths through the unit become shed (R445, step 1). -/
def State.graftAccept (s : State) (u : UnitId) : State :=
  let s := s.setUnit u (fun x => { x with graft := .shedding })
  (s.unitPaths u).foldl (fun (s : State) b =>
    (s.setPath b.path (fun p => { p with graftShed := true, graftPassed := p.graftShed && p.graftPassed })).put
      (Reg.DEV_PATH_SHED_SHED_NOW b.path) 1) s

/-- A graft ends with a result of Table FLT-3; its paths return to the level's shed set (R445, step 6). -/
def State.graftEnd (s : State) (u : UnitId) (result : Nat) : State :=
  let mine := s.unitPaths u
  let s := (s.setUnit u (fun x => { x with graft := .idle })).put (Reg.UNIT_CTL_GRAFT_REQ u.id) 0
  let s := mine.foldl (fun (s : State) b =>
    if s.graftHolds b then s
    else
      let s := s.setPath b.path (fun p => { p with graftShed := false, graftPassed := false })
      s.putB (Reg.DEV_PATH_SHED_SHED_NOW b.path) (s.pathShed b.path)) s
  let s := s.puts [(Reg.DEV_GRAFT_STATUS_UNIT, u.id), (Reg.DEV_GRAFT_STATUS_RESULT, result)]
  (s.logEvt u 0 0x81 0x10 0 0 result).devRaise 5

/-- The graft point: every path of the unit has passed a boundary since it was shed, and the unit holds no work of an
accepted frame (R445, steps 2 and 3). -/
def State.graftPoint (s : State) (u : UnitId) (begun : Nat) : State :=
  if (s.unit u).graft = .shedding ∧ (s.unit u).removal.isNone ∧
      (s.unitPaths u).all (fun b => (s.path b.path).graftPassed && (s.heldFrames u b).isEmpty) then
    (s.setUnit u (fun x => { x with graft := .removed })).startRemoval u .graft begun
  else s

/-- Result of the graft image at DEV_GRAFT_ADDR, and the microcode version it brings (R446, Table FLT-3). -/
def State.graftImage (s : State) (u : UnitId) : Nat × Nat :=
  let base := s.addr40 Reg.DEV_GRAFT_ADDR_LO Reg.DEV_GRAFT_ADDR_HI
  let rd := fun (o : Nat) => s.readByte (base + o)
  match imgHeader rd (s.mss.capacity - base) with
  | none => (0x02, 0)
  | some h =>
    match imgSections rd h.sections with
    | [c] =>
      if c.typ ≠ 0x0009 ∨ c.bytes < 64 ∨ (rd c.off).toNat ≠ u.id then (0x02, 0)
      else if s.verifyImage rd h s.boot.keySlot ≠ 0 then (0x03, 0)
      else if h.rollback < s.rollbackF then (0x04, 0)
      else if !secGood rd c then (0x05, 0)
      else (0x00, (rd (c.off + 1)).toNat)
    | _ => (0x02, 0)

/-- Heartwood has loaded and checked the image: the microcode is replaced or not, and the paths return (R445 to R446). -/
def State.graftLoaded (s : State) (u : UnitId) : State :=
  match (s.unit u).removal with
  | some r =>
    if r.cause = .graft ∧ r.drained then
      let (code, ver) := s.graftImage u
      let s := if code = 0 then s.setUnit u (fun x => { x with ucode := some ver }) else s
      (s.endRemoval u).graftEnd u code
    else s
  | none => s

/-- A reset request takes its turn (R441, R443): it ends a graft, whose removal goes on as the reset's. -/
def State.resetTurn (s : State) (u : UnitId) : State :=
  let s := if (s.unit u).graft = .idle then s else s.graftEnd u 0x01
  s.setUnit u (fun x => { x with
    reqReset := true
    removal := x.removal.map (fun r => if r.cause = .graft then { r with cause := .reset, drained := false } else r) })

/-! ### Freeze, watchdog -/

/-- A write of FREEZE (R447). -/
def State.freeze (s : State) (u : UnitId) (on : Bool) : State :=
  if on && (s.unitPaths u).any (fun b => !b.leaving) then s.refuse u 0x0D0F (Reg.UNIT_CTL u.id)
  else
    let s := s.putB (Reg.UNIT_CTL_FREEZE u.id) on
    if s.phase u = 0 ∨ s.phase u = 4 then s.put (Reg.UNIT_STATE_PHASE u.id) (if on then 4 else 0) else s

/-- A Sapwood core without service for 100 ms is reset; its locks break (Table FLT-5, class 0x11). The number in the
lower byte of CODE is free. -/
def State.watchdog (s : State) (c : Nat) : State :=
  let s := s.breakLocksOf (fun o => o == 0x0B00 + c)
  let (v, s) := s.fresh
  s.logFree .scc c (v % 256) 0x11 0

/-! ### Commands -/

def execEventRecordWrite (t : Nat) (s : State) : Res := .next (s.tick t).eventWrite
def execIntStatusClear (t : Nat) (u : Fin 13) (v : Word) (s : State) : Res :=
  .next ((s.tick t).ctlCommon u (intReg u) (fun s => s.intClear u v.toNat))
def execIntForce (t : Nat) (u : Fin 13) (v : Word) (s : State) : Res :=
  .next ((s.tick t).ctlCommon u (if u.val = 0 then Reg.DEV_EVT_FORCE else Reg.UNIT_INT_FORCE u) (fun s => (s.setReg (if u.val = 0 then Reg.DEV_EVT_FORCE else Reg.UNIT_INT_FORCE u).ofs (if u.val = 0 then v &&& 0x7F else v)).intForce u v.toNat))
def execUnitViewWrite (t : Nat) (by' : Requester) (u : Fin 13) (v : Word) (s : State) : Res :=
  .next ((s.tick t).ctlCommon u (if u.val = 0 then Reg.DEV_VIEW else Reg.UNIT_VIEW u) (fun s => s.setView by' u (bitAt v.toNat 0)))
def execUnitRemoval (t : Nat) (u : UnitId) (begun : Nat) (s : State) : Res := .next ((s.tick t).removal u begun)
def execGraftPoint (t : Nat) (u : UnitId) (begun : Nat) (s : State) : Res := .next ((s.tick t).graftPoint u begun)
def execGraftLoadDone (t : Nat) (u : UnitId) (s : State) : Res := .next ((s.tick t).graftLoaded u)
def execFreeze (t : Nat) (u : UnitId) (on : Bool) (s : State) : Res :=
  .next ((s.tick t).ctlCommon u.id (Reg.UNIT_CTL u.id) (fun s => s.freeze u on))
def execSapwoodWatchdog (t : Nat) (c : Fin 4) (s : State) : Res := .next ((s.tick t).watchdog c)

/-! ### Commands of the Cell Pool (R356 to R370) -/

/-- A hardware producer's post; a queue that nothing names holds no cells (R358). -/
def State.cpPost (s : State) (q : Nat) (cells : List (List Byte)) (flt : PtrFault) : State :=
  if s.queuesInUse.contains q then (s.post q (cells.map (fun c => (c, 0))) flt).2 else s

/-- A non-empty queue unread for IDLE_TIMEOUT notifies its consumer once (R360). -/
def State.cpIdle (s : State) (q : Nat) : State :=
  let x := s.queue q
  let w := s.get (Reg.SCC_CPQ_TIMEOUT_NS q)
  if w = 0 ∨ x.items.isEmpty ∨ x.idleFired ∨ s.mediaNs < x.idleFrom + w then s
  else (s.setQueue q { x with idleFired := true }).notify q

/-- RESET of a queue (R363). -/
def State.cpReset (s : State) (q : Nat) : State :=
  if (s.queue q).mode = .sweeping then s.refuse .scc 0x0B33 (Reg.SCC_CPQ_CTL q) else s.startSweep q true

/-- REINSTATE of a queue (R365). -/
def State.cpReinstate (s : State) (q : Nat) : State :=
  let x := s.queue q
  if x.mode = .fallback then s.setQueue q { x with mode := .reinstating }.settle else s.refuse .scc 0x0B33 (Reg.SCC_CPQ_CTL q)

def execCpPost (t : Nat) (q : Fin 1024) (cells : List (List Byte)) (flt : PtrFault) (s : State) : Res :=
  .next ((s.tick t).cpPost q cells flt)
def execCpRead (t : Nat) (q : Fin 1024) (flt : PtrFault) (parity : Nat) (s : State) : Res :=
  .next ((s.tick t).readQueue q flt (parity % 256)).2
def execCpIdleTimeout (t : Nat) (q : Fin 1024) (s : State) : Res := .next ((s.tick t).cpIdle q)
def execSweepDone (t : Nat) (q : Fin 1024) (s : State) : Res := .next ((s.tick t).sweepDone q)
def execReset (t : Nat) (q : Fin 1024) (s : State) : Res :=
  .next ((s.tick t).cmd .scc true (Reg.SCC_CPQ_CTL q) 2 (fun s => s.cpReset q))
def execReinstate (t : Nat) (q : Fin 1024) (s : State) : Res :=
  .next ((s.tick t).cmd .scc true (Reg.SCC_CPQ_CTL q) 4 (fun s => s.cpReinstate q))
def execCpqClr (t : Nat) (q : Fin 1024) (s : State) : Res :=
  .next ((s.tick t).cmd .scc true (Reg.SCC_CPQ_CTL q) 1 (fun s => s.puts [(Reg.SCC_CPQ_LOST q, 0), (Reg.SCC_CNT_POST_FAIL q, 0)]))
def execFreeRebuildDone (t : Nat) (s : State) : Res := .next (s.tick t).rebuildDone
def execPush (t : Nat) (k : Fin 8) (cells : Fin 4) (flt : PtrFault) (s : State) : Res :=
  .next ((s.tick t).cmd .scc true (Reg.SCC_CP_WR_CTL k) (2 ^ 8 + cells) (fun s => s.push k (cells + 1) flt))
def execPop (t : Nat) (k : Fin 8) (flt : PtrFault) (parity : Nat) (s : State) : Res :=
  .next ((s.tick t).cmd .scc true (Reg.SCC_CP_RD_CTL k) 1 (fun s => s.popPort k flt (parity % 256)))

/-! ### Commands of the locks (R371 to R373) -/

/-- An acquiring read: the word leaves toward the requester. A removed SCC answers 0 (R440); in SHUTDOWN nothing of its
window is read (R430). -/
def State.lockRead (s : State) (n : Fin 256) (r : Nat) : State :=
  let a := (Reg.SCC_LOCK n.val).ofs
  if !s.boot.busOpen then s
  else if s.flag Reg.HTP_SHUTDOWN_STATUS_SHUTDOWN ∨ s.removed .scc then s.out (.readData a (leBytes 4 0))
  else
    let (w, s) := s.acquire n r
    s.out (.readData a (leBytes 4 w))

def execLockAcquire (t : Nat) (by' : Requester) (n : Fin 256) (s : State) : Res := .next ((s.tick t).lockRead n by'.code)
def execLockRelease (t : Nat) (by' : Requester) (n : Fin 256) (s : State) : Res :=
  .next ((s.tick t).ctl .scc true (Reg.SCC_LOCK n.val) (fun s => s.release n by'.code))
def execBreak (t : Nat) (by' : Requester) (n : Fin 256) (s : State) : Res :=
  .next ((s.tick t).cmd .scc true Reg.SCC_LOCK_CTL (2 ^ 31 + n) (fun s => s.breakLock n by'.code))

end Sys2Proof.Machine
end

