-- ==== Sys2Proof/Machine/Read.lean ====
section
/-!
DEFINITION. What a read of a register returns: the copy that the requester's view selects (R472), what a status register
computes, the table windows (R474), and absent or removed units and instances (R7, R8, R430, R440, R469).
-/

namespace Sys2Proof.Machine

/-! ### Presence (R7, R8) -/

/-- A register of a present unit belongs to an instance that the variant has: its lane, path, program lane, Ethernet port or
channel is present. -/
def Variant.hasInst (v : Variant) (ofs : Nat) : Bool :=
  let w := ofs % 0x100000
  match ofs / 0x100000 with
  | 1 => !(decide (0x1000 ≤ w)) || decide ((w - 0x1000) / 0x40 < v.lanes)
  | 3 =>
    if 0x20000 ≤ w then decide ((w - 0x20000) / 0x8000 < v.renderPaths)
    else if 0x10000 ≤ w then decide ((w - 0x10000) / 0x1000 < v.renderPaths)
    else !(decide (0x1000 ≤ w)) || decide ((w - 0x1000) / 0x400 < v.renderPaths)
  | 6 =>
    if 0x4000 ≤ w ∧ w < 0x5000 then decide ((w - 0x4000) / 0x40 < v.programLanes)
    else if 0x7000 ≤ w ∧ w < 0x7400 then decide ((w - 0x7000) / 0x100 < v.ethPorts)
    else if 0x7400 ≤ w ∧ w < 0x8000 then decide ((w - 0x7400) / 0x80 / 4 < v.ethPorts)
    else true
  | 8 => !(decide (0x300 ≤ w ∧ w < 0x340)) || decide ((w - 0x300) / 0x20 < v.ethPorts)
  | 9 =>
    if 0x40000 ≤ w then decide ((w - 0x40000) / 0x400 < v.channels)
    else !(decide (0x1000 ≤ w)) || decide ((w - 0x1000) / 0x100 < v.channels)
  | _ => true

/-- The unit and the instance of a register are present. -/
def Variant.hasReg (v : Variant) (ofs : Nat) : Bool :=
  match ofs / 0x100000 with
  | 0 => true
  | u => ((UnitId.ofId u).map (fun x => v.has x)).getD false && v.hasInst ofs

/-! ### Table windows (Table REG-5) -/

/-- The offset lies in a table window that keeps its entries apart from the registers. -/
def tableWindow (ofs : Nat) : Bool :=
  let w := ofs % 0x100000
  match ofs / 0x100000 with
  | 2 => decide (0x8000 ≤ w ∧ w < 0x8200) || decide (0x8400 ≤ w ∧ w < 0x8600) || decide (0x10000 ≤ w ∧ w < 0x28000)
  | 3 => decide (0x10000 ≤ w ∧ w < 0x18000 ∧ w % 0x1000 < 0x800) ||
      decide (0x20000 ≤ w ∧ w < 0x60000 ∧ w % 0x8000 < 0x6000 ∧ w % 0x2000 < 4 * 1025)
  | 6 => decide (0x10000 ≤ w ∧ w < 0x14000)
  | 7 => decide (0x8000 ≤ w ∧ w < 0x8800 ∧ w % 0x100 < 0x80)
  | 9 => decide (0x40000 ≤ w ∧ w < 0x44000)
  | _ => false

/-- A read of a table window. -/
def State.tableValue (s : State) (view : Bool) (ofs : Nat) : Nat :=
  let w := ofs % 0x100000
  match ofs / 0x100000 with
  | 2 => s.tableRead view w
  | 3 => s.rpTableRead view w
  | 6 => s.palRead view w
  | 7 => s.slotEntry ((w - 0x8000) / 0x100) (w % 0x80 / 0x40) (w % 0x40 / 4)
  | 9 => s.slotRead ((w - 0x40000) / 0x400) (w % 0x400 / 0x200) (w % 0x200 / 4)
  | _ => 0

/-! ### The common unit block and the device-common window -/

/-- An owner of frame-committed registers is idle (R23). -/
def State.bndIdle (s : State) (b : Bnd) : Bool :=
  s.idle.contains b ||
  match b with
  | .none => true
  | .wrap _ => false
  | .link l => s.linkStill l
  | .rfe => s.rfeIdle
  | .scene => s.cseIdle
  | .pcd i => !s.enabled .pcd || if i < 4 then (s.enc i).pic.isNone && s.cseIdle else !s.flag (Reg.PCD_DEC_CFG_EN (i - 4)) || (s.dec (i - 4)).ended
  | .rpk e => !s.enabled .rpk || ((s.eng e).job.isNone && s.rfeIdle)
  | .tg g => !s.enabled .ore || decide (s.tgState g < 2)
  | .ri i => !s.enabled .ore || decide (s.get (Reg.ORE_RI_STATUS_STATE i) < 2)
  | .apu p => !s.enabled .apu || s.portQuiet p

/-- The instances of a unit that have a frame boundary. -/
def unitBnds (u : UnitId) : List Bnd :=
  match u with
  | .slr => [.link 0, .link 1]
  | .rfe => [.rfe]
  | .cse => [.scene]
  | .pcd => (List.range 6).map Bnd.pcd
  | .rpk => (List.range 4).map Bnd.rpk
  | .ore => (List.range 8).map Bnd.tg ++ (List.range 4).map Bnd.ri
  | .apu => (List.range 8).map Bnd.apu
  | _ => []

/-- UNIT_STATUS.IDLE. -/
def State.unitIdle (s : State) (u : UnitId) : Bool := !s.enabled u || (!(unitBnds u).isEmpty && (unitBnds u).all s.bndIdle)

/-- UNIT_STATUS. -/
def State.unitStatus (s : State) (u : UnitId) : Nat :=
  b2n (s.enabled u) * 2 ^ 31 + b2n (s.checks.contains (.enable u)) * 2 ^ 30 + b2n (s.unitIdle u) * 2 ^ 29 +
    b2n (!(s.unitPaths u).isEmpty && (s.unitPaths u).all (fun b => s.pathShed b.path)) * 2 ^ 28

/-- The states that a unit's status registers show, by instance. -/
def State.mainStates (s : State) (u : UnitId) : List Nat :=
  match u with
  | .slr => (List.range 2).map s.linkState
  | .rfe => [s.get Reg.RFE_CAL_STATE_STATE]
  | .cse => (List.range s.variant.renderPaths).map (fun p => s.get (Reg.RP_LUT_STATUS_STATE p))
  | .pcd => (List.range 4).map s.encState ++ (List.range 2).map s.decState
  | .rpk => (List.range 4).map s.engState
  | .ore => (List.range 8).map s.tgState
  | .apu => (List.range 8).map s.portState
  | .rtu => [s.get Reg.RTU_STATUS_STATE]
  | .mss => (List.range s.variant.channels).map (fun c => s.get (Reg.MSS_CH_STATUS_TRAIN c))
  | .hif => [s.get Reg.HIF_LINK_STATUS_STATE]
  | .scc => [s.get Reg.SCC_BOOT_STATUS_STATE]
  | .htp => [s.get Reg.HTP_PWR_STATUS_STATE]

/-- UNIT_STATE. -/
def State.unitState (s : State) (u : UnitId) : Nat := s.phase u * 2 ^ 28 + Config.unitMain u.id (s.mainStates u) % 2 ^ 16

/-- Instances of a unit's principal kind: in the EL9640, and in the variant fitted (Table REG-2). -/
def Variant.instCount (v : Variant) (u : UnitId) : Nat × Nat :=
  match u with
  | .slr => (32, v.lanes) | .rfe => (1, 1) | .cse => (8, v.renderPaths) | .pcd => (6, 6) | .rpk => (4, 4)
  | .ore => (16, v.programLanes) | .apu => (8, 8) | .rtu => (2, 2) | .mss => (16, v.channels) | .hif => (64, 64)
  | .scc => (4, 4) | .htp => (32, 32)

/-- UNIT_CAP. -/
def Variant.unitCap (v : Variant) (u : UnitId) : Nat :=
  b2n u.pixel * 2 ^ 31 + b2n (u != .hif && u != .htp) * 2 ^ 30 + (v.instCount u).1 * 2 ^ 8 + (v.instCount u).2

/-- UNIT_ID. -/
def State.unitIdReg (s : State) (u : UnitId) : Nat :=
  u.id * 2 ^ 24 + 2 ^ 16 + (if u.pixel then ((s.unit u).ucode.getD (Config.romUcode u.id)) % 256 else 0) * 2 ^ 8

/-- A register of the common unit block. -/
def State.commonValue (s : State) (by' : Requester) (u : UnitId) (w : Nat) : Nat :=
  match w with
  | 0x00 => s.unitIdReg u
  | 0x04 => s.variant.unitCap u
  | 0x0C => s.unitStatus u
  | 0x14 => b2n (s.view by' u.id)
  | 0x24 => s.unitState u
  | _ => (s.reg (0x100000 * u.id + w)).toNat

/-- A register of the device-common window. -/
def State.devValue (s : State) (by' : Requester) (ofs : Nat) : Nat :=
  if ofs = Reg.DEV_VARIANT.ofs then s.variant.code
  else if ofs = Reg.DEV_UNITS_PRESENT.ofs then s.variant.unitsPresent
  else if ofs = Reg.DEV_STEPPING.ofs then 1 + Config.stepping % 255
  else if ofs = Reg.DEV_VIEW.ofs then b2n (s.view by' 0)
  else if ofs = Reg.DEV_GPIO_IN.ofs then
    sumN ((List.range 32).map (fun n => b2n ((s.ballLevel n).getD (Config.gpioIn n s.now)) * 2 ^ n))
  else if ofs = Reg.DEV_LDG_STATUS.ofs then (s.reg ofs).toNat / 2 * 2 + b2n (!s.checks.isEmpty)
  else if (match Regs.find ofs with | some r => r.access == .rws | none => false) && s.view by' 0 then (s.shadowReg ofs).toNat
  else (s.reg ofs).toNat

/-! ### Status registers that show what the state holds -/

/-- A status register of a unit beyond its stored bits. -/
def State.statusValue (s : State) (ofs : Nat) : Nat :=
  let w := ofs % 0x100000
  let v := (s.reg ofs).toNat
  match ofs / 0x100000 with
  | 1 =>
    if w % 0x80 = 0x28 ∧ 0x100 ≤ w ∧ w < 0x200 then
      let l := (w - 0x100) / 0x80
      Config.sofLat (s.get (Reg.SLR_LANE_CFG_RATE ((s.linkLanes l).headD 0))) (s.linkLanes l).length % 2 ^ 32
    else v
  | 3 =>
    if 0x1000 ≤ w ∧ w < 0x3000 ∧ w % 0x400 = 0x9C then
      let p := (w - 0x1000) / 0x400
      setBits (setBits v 1 1 (b2n (s.lutMasterKept p 1))) 0 0 (b2n (s.lutMasterKept p 0))
    else v
  | 4 =>
    if ofs = Reg.PCD_BAND_USED.ofs then s.bandUsed
    else if 0x1000 ≤ w ∧ w % 0x200 = 0x34 then
      let i := (w - 0x1000) / 0x200
      if i < 4 then setBits (setBits v 31 28 (s.encState i)) 26 26 (b2n (s.irapPending i))
      else setBits v 31 28 (s.decState (i - 4))
    else v
  | 5 => if 0x1000 ≤ w ∧ w % 0x100 = 0x04 then setBits v 31 28 (s.engState ((w - 0x1000) / 0x100)) else v
  | 6 =>
    if 0x1000 ≤ w ∧ w < 0x1800 ∧ w % 0x100 = 0x10 then
      let g := (w - 0x1000) / 0x100
      setBits (setBits v 31 29 (s.tgState g)) 28 16 (s.tgLine g)
    else v
  | 8 =>
    if 0x300 ≤ w ∧ w < 0x340 ∧ w % 0x20 = 0x18 then
      let (tx, rx) := s.ethLat ((w - 0x300) / 0x20)
      tx * 2 ^ 16 + rx
    else v
  | 10 => if 0x1000 ≤ w ∧ w < 0x2000 ∧ w % 0x40 = 0x14 then 
      let x := s.qp ((w - 0x1000) / 0x40)
      setBits v 12 0 (x.outstanding.length + x.ready.length)
    else v
  | 11 =>
    if ofs = Reg.SCC_CP_FREE.ofs then 65536 - s.poolCells
    else if 0x32000 ≤ w ∧ w < 0x32800 then
      let k := (w - 0x32000) / 0x100
      let o := w % 0x100
      if o = 8 then s.readPortStatus k
      else if 0x40 ≤ o ∧ o < 0x80 then s.readPortData k ((o - 0x40) / 4)
      else v
    else if 0x50400 ≤ w ∧ w < 0x50800 then
      if h : (w - 0x50400) / 4 < 256 then s.peek ⟨(w - 0x50400) / 4, h⟩ else 0
    else v
  | 12 =>
    if ofs = Reg.HTP_POLLARD_STATUS.ofs then setBits v 7 4 (s.get Reg.DEV_LDG_STATUS_COVER) else v
  | _ => v

/-! ### Reads -/

/-- What a read of a register returns, where the register bus is released; SCC_LOCK apart, whose acquiring read is
LOCK_ACQUIRE. -/
def State.readReg (s : State) (by' : Requester) (ofs : Nat) : Nat :=
  let u := ofs / 0x100000
  let w := ofs % 0x100000
  let down := s.flag Reg.HTP_SHUTDOWN_STATUS_SHUTDOWN && u != 0 && u != 12
  if !s.variant.hasReg ofs || down then 0
  else
    match UnitId.ofId u with
    | none => if u = 0 then s.devValue by' ofs else 0
    | some x =>
      if w < 0x100 then s.commonValue by' x w
      else if s.removed x then 0
      else if tableWindow ofs then s.tableValue (s.view by' u) ofs
      else if (match Regs.find ofs with | some r => r.access == .rws | none => false) && s.view by' u then (s.shadowReg ofs).toNat
      else s.statusValue ofs

end Sys2Proof.Machine
end

