-- ==== Sys2Proof/Machine/Snap.lean ====
section
/-!
DEFINITION. Snapshots (R448, Table FLT-2).
-/

namespace Sys2Proof.Machine

/-- Bytes of a snapshot. -/
def snapBytes : Nat := 29248

/-- Registers as 32-bit words. -/
def regWords (s : State) (l : List Nat) : List Byte := l.flatMap (fun o => leBytes 4 (s.statusValue o))

/-- The unit record of an ID. -/
def State.snapUnit (s : State) (n : Nat) : List Byte :=
  match UnitId.ofId n with
  | none => zeros 16
  | some u =>
    if s.variant.has u then
      leBytes 4 (s.get (Reg.UNIT_CTL n)) ++ leBytes 4 (s.unitStatus u) ++ leBytes 4 (s.unitState u) ++
        leBytes 4 (s.get (Reg.UNIT_EVENT_SEQ n))
    else zeros 16

/-- A path record. -/
def State.snapPath (s : State) (n : Nat) : List Byte :=
  leBytes 4 (s.get (Reg.DEV_PATH_CFG n)) ++ leBytes 4 (s.get (Reg.DEV_PATH_BOUND n)) ++ leBytes 4 (s.get (Reg.DEV_PATH_SHED n)) ++
    leBytes 6 (s.get (Reg.DEV_PATH_FRAME_LO n) + 2 ^ 32 * s.get (Reg.DEV_PATH_FRAME_HI_V n)) ++ leBytes 6 (s.path n).lastAcc ++
    leBytes 6 (s.path n).lastDel ++ zeros 2

/-- A queue pair record. -/
def State.snapPair (s : State) (q : Nat) : List Byte :=
  regWords s [(Reg.HIF_QP_STATUS q).ofs, (Reg.HIF_SQ_TAIL q).ofs, (Reg.HIF_CQ_HEAD q).ofs, (Reg.HIF_CQ_TAIL q).ofs]

/-- A channel record; the counter is CNT_DETECT. -/
def State.snapChannel (s : State) (c : Nat) : List Byte :=
  if c < s.variant.channels then
    regWords s [(Reg.MSS_CH_STATUS c).ofs, (Reg.MSS_SLOT_STATUS c).ofs, (Reg.MSS_CNT_DETECT c).ofs] ++ zeros 4
  else zeros 16

/-- The active slot table of a channel. -/
def State.snapSlots (s : State) (c : Nat) : List Byte :=
  if c < s.variant.channels then (List.range 128).flatMap (fun i => leBytes 4 (s.slotRead c (s.activeCopy c) i)) else zeros 512

/-- A Cell Pool queue record. `v` and `w` are the pointers of an empty list, which the spec leaves open. -/
def State.snapQueue (s : State) (q v w : Nat) : List Byte :=
  let cells := (s.queue q).list.flatten
  leBytes 4 (s.get (Reg.SCC_CPQ_STATUS q)) ++ leBytes 4 (s.get (Reg.SCC_CPQ_ITEMS q)) ++
    leBytes 2 ((cells.head?.map (·.num)).getD v) ++ leBytes 2 ((cells.getLast?.map (·.num)).getD w) ++
    leBytes 4 (s.get (Reg.SCC_CPQ_LOST q))

/-- Bytes 64 to 29,247. -/
def State.snapBody (s : State) : List Byte :=
  (List.range 16).flatMap s.snapUnit ++ (List.range 64).flatMap s.snapPath ++
    (List.range 256).flatMap (fun n => if h : n < 256 then leBytes 4 (s.peek ⟨n, h⟩) else zeros 4) ++
    (List.range 64).flatMap s.snapPair ++ (List.range 16).flatMap s.snapChannel ++ (List.range 16).flatMap s.snapSlots ++
    (List.range 1024).flatMap (fun q => s.snapQueue q (Config.free (s.freeCtr + 2 * q)) (Config.free (s.freeCtr + 2 * q + 1)))

/-- The header before its CRCs. -/
def State.snapHeader (s : State) : List Byte :=
  leBytes 4 0x50414E53 ++ leBytes 2 0x0100 ++ leBytes 2 64 ++ leBytes 4 snapBytes ++ leBytes 6 (secOf s.mediaNs) ++
    leBytes 4 (nsecOf s.mediaNs) ++ leBytes 1 (s.get Reg.DEV_LDG_STATUS_PLAN_SEQ) ++ leBytes 1 (s.get Reg.DEV_LDG_STATUS_COVER) ++
    leBytes 1 (s.get Reg.HTP_POLLARD_STATUS_LEVEL) ++ leBytes 1 (s.get Reg.HTP_PWR_STATUS_STATE) ++ zeros 2 ++
    leBytes 4 s.variant.code ++ leBytes 4 (s.get Reg.DEV_EVLOG_SEQ) ++ zeros 20

/-- The snapshot of this cycle. -/
def State.capture (s : State) : List Byte :=
  let body := s.snapBody
  let head := s.snapHeader ++ leBytes 4 (crc32 body)
  head ++ leBytes 4 (crc32 head) ++ body

/-- Start a snapshot for a destination, or let it wait for the one being written (R448). -/
def State.snapStart (s : State) (d : SnapDest) : State :=
  match s.snap.writing with
  | some _ => { s with snap := { s.snap with waiting := s.snap.waiting ++ [d] } }
  | none => { s with snap := { s.snap with writing := some (d, s.capture) }, freeCtr := s.freeCtr + 2048 }

/-- The next waiting snapshot is captured. -/
def State.snapNext (s : State) : State :=
  match s.snap.waiting with
  | [] => s
  | d :: rest => ({ s with snap := { writing := none, waiting := rest } }).snapStart d

/-- The snapshot being written is written out. -/
def State.snapDone (s : State) : State :=
  match s.snap.writing with
  | none => s
  | some (d, b) =>
    let s := { s with snap := { s.snap with writing := none } }
    let s := match d with
      | .dram a => s.write a b
      | .host q cid a pages => if (s.hostCmd q cid).isSome then (s.toHost a pages b).complete q cid 0 0 else s
    (s.devRaise 4).snapNext

/-- SNAP in DEV_SNAP_CTL; the address is 64-byte aligned. -/
def State.snapCtl (s : State) : State :=
  s.snapStart (.dram (s.addr40 Reg.DEV_SNAP_ADDR_LO Reg.DEV_SNAP_ADDR_HI / 64 * 64))

def execSnap (t : Nat) (s : State) : Res :=
  .next ((s.tick t).ctlCommon 0 Reg.DEV_SNAP_CTL (fun s => (s.setReg Reg.DEV_SNAP_CTL.ofs 1).snapCtl))
/-- A snapshot for an address beyond the capacity of the part stops the machine (R333). -/
def execSnapDone (t : Nat) (s : State) : Res :=
  let s := s.tick t
  match s.snap.writing with
  | some (.dram a, b) => if s.inDram a b.length then .next s.snapDone else .fault (.dramAddressAbsent a)
  | _ => .next s.snapDone

end Sys2Proof.Machine
end

