-- ==== Sys2Proof/Machine/Rules1.lean ====
section
/-!
DEFINITION. Unit-local rules of the consistency check for the SLR, the RFE and the CSE (R33, stage 1): each rule a test of
the configuration as it would stand, with its reason code and the register that offends. `alt` is the reference rate of
R320 under which the rates are taken: 0 REF_RATE, i + 1 alternative i.
-/

namespace Sys2Proof.Machine

/-- A rule: whether the configuration breaks it, the reason code and the register. -/
abbrev Rule := Bool × Nat × Fld

/-- The first rule that is broken. -/
def firstBad (l : List Rule) : Option (Nat × Fld) := (l.find? (fun r => r.1)).map (fun r => r.2)

/-- A rate lies in a range of frames per second. -/
def rateIn (r : Nat × Nat) (lo hi : Nat) : Bool := decide (0 < r.1 ∧ 0 < r.2 ∧ lo * r.2 ≤ r.1 ∧ r.1 ≤ hi * r.2)

/-- A duration in ns is above the period of a rate. -/
def abovePeriod (r : Nat × Nat) (ns : Nat) : Bool := decide (r.2 * 1000000000 < ns * r.1)

/-- A duration in ns is at or above the period of a rate. -/
def atPeriod (r : Nat × Nat) (ns : Nat) : Bool := decide (r.2 * 1000000000 ≤ ns * r.1)

/-! ### SLR (R60, R75, R81, R87, R90, R93, Tables SLR-8 to SLR-12) -/

/-- Words of an LS payload (R74). -/
def State.lsWords (c : State) (l : Nat) : Nat :=
  c.linkW l * (if c.flag (Reg.SLR_LINK_CFG_DG l) then 2 else 1) * packBits (c.get (Reg.SLR_LINK_CFG_PACK l)) / 32

/-- The link's lines need more than its lanes carry (R75). -/
def State.payloadOver (c : State) (l : Nat) : Bool :=
  let lanes := c.linkLanes l
  let rate := c.get (Reg.SLR_LANE_CFG_RATE (lanes.headD 0))
  decide (lanes.length * rate * 9542 * c.get (Reg.SLR_LINK_TRD l) <
    ((c.get (Reg.SLR_LINK_OB_OB l) + c.linkH l) * (c.lsWords l + 3) * 32 + 512) * 10000000)

/-- Rules of a link in use. -/
def State.linkRules (c : State) (alt l : Nat) : List Rule :=
  let lanes := c.linkLanes l
  let rate := c.followRate l alt
  let r0 := c.get (Reg.SLR_LANE_CFG_RATE (lanes.headD 0))
  let src := c.flag (Reg.SLR_LINK_CFG_SOURCE l)
  let fill := c.get (Reg.SLR_LINK_CFG_FILL_PERIOD l)
  lanes.map (fun n =>
    let r := c.get (Reg.SLR_LANE_CFG_RATE n)
    (decide (r < 2000 ∨ 28000 < r ∨ r ≠ r0), 0x0102, Reg.SLR_LANE_CFG n)) ++
  [(!rateIn rate 1 960, 0x0107, Reg.SLR_LINK_RATE l),
   (decide (c.linkW l < 16 ∨ 24576 < c.linkW l ∨ c.linkW l % 16 ≠ 0 ∨ c.linkH l = 0 ∨ 10368 < c.linkH l), 0x0107, Reg.SLR_LINK_FMT l),
   (decide (256 < c.get (Reg.SLR_LINK_OB_OB l)), 0x0107, Reg.SLR_LINK_OB l),
   (fill != 1 && fill != 2 && fill != 4, 0x0107, Reg.SLR_LINK_CFG l),
   (c.get (Reg.SLR_LINK_TRD l) == 0 || abovePeriod rate (c.get (Reg.SLR_LINK_TRD l)), 0x0104, Reg.SLR_LINK_TRD l),
   (src && (!lanes.isEmpty || c.get (Reg.SLR_LINK_OB_OB l) != 0), 0x0108, Reg.SLR_LINK_CFG l),
   (!src && c.payloadOver l, 0x0105, Reg.SLR_LINK_FMT l)]

/-- Rules of a trigger. -/
def State.trigRules (c : State) (alt n : Nat) : List Rule :=
  let k := c.get (Reg.SLR_TRIG_CFG_LINK n)
  if k = 0 then []
  else
    let l := k - 1
    let rate := c.followRate l alt
    let w := c.get (Reg.SLR_TRIG_WIDTH n)
    [(k == 3 || !c.linkUsed l, 0x0101, Reg.SLR_TRIG_CFG n),
     (atPeriod rate (toSigned 32 (c.get (Reg.SLR_TRIG_OFFSET n))).natAbs, 0x0109, Reg.SLR_TRIG_OFFSET n),
     (decide (w < 10) || atPeriod rate w, 0x0109, Reg.SLR_TRIG_WIDTH n)]

/-- A lane whose link runs or stops changes LINK or RATE (R93). -/
def State.laneReconfig (c old : State) (n : Nat) : Bool :=
  let k := old.get (Reg.SLR_LANE_CFG_LINK n)
  (k == 1 || k == 2) && (old.linkState (k - 1) == 3 || old.linkState (k - 1) == 4) &&
    (c.get (Reg.SLR_LANE_CFG_LINK n) != k || c.get (Reg.SLR_LANE_CFG_RATE n) != old.get (Reg.SLR_LANE_CFG_RATE n))

/-- Rules of the SLR. -/
def State.slrRules (c old : State) (alt : Nat) : List Rule :=
  (List.range c.variant.lanes).map (fun n => (decide (36 < c.get (Reg.SLR_LANE_CFG_CTLE n)), 0x0103, Reg.SLR_LANE_CFG n)) ++
  (List.range c.variant.lanes).map (fun n => (c.laneReconfig old n, 0x010A, Reg.SLR_LANE_CFG n)) ++
  [(c.flag (Reg.SLR_LINK_CFG_SOURCE 0) && c.flag (Reg.SLR_LINK_CFG_SOURCE 1), 0x0108, Reg.SLR_LINK_CFG 1),
   (decide (5 < c.get Reg.SLR_PAT_CFG_KIND), 0x0108, Reg.SLR_PAT_CFG)] ++
  (List.range 2).flatMap (fun l => if c.linkUsed l then c.linkRules alt l else []) ++
  (List.range 4).flatMap (fun n => c.trigRules alt n)

/-! ### RFE (R95, R96, R99, R100, R104, R111, R117, R119) -/

/-- Planes of the flat-field grid (Table RFE-4). -/
def State.ffPlanes (c : State) : Nat := if c.get Reg.RFE_CFG_CFA = 0 then 1 else 4

/-- Nodes of one axis do not cover a window that ends at `last`. -/
def ffShort (nodes pitch last : Nat) : Bool := decide (nodes < 2 ∨ (nodes - 1) * pitch < last)

/-- Rules of the RFE. -/
def State.rfeRules (c : State) : List Rule :=
  let k := c.get Reg.RFE_CFG_LINK
  let l := k - 1
  let x := c.get Reg.RFE_ORIGIN_X
  let y := c.get Reg.RFE_ORIGIN_Y
  let w := c.linkW l
  let h := c.linkH l
  let cfa := c.get Reg.RFE_CFG_CFA
  let cols := (c.get Reg.RFE_CHMAP_COLS_M1 + 1) * (if c.get Reg.RFE_CHMAP_SPLIT_ROW = 0 then 1 else 2)
  let group := c.get Reg.RFE_CHMAP_GROUP
  let pitch := 16 * 2 ^ c.get Reg.RFE_FF_CFG_PITCH
  let ff := c.flag Reg.RFE_CFG_FF_EN
  let dg := c.flag Reg.RFE_CFG_DG_MERGE
  [(k == 0 || k == 3 || !c.enabled .slr || !c.linkUsed l, 0x020A, Reg.RFE_CFG),
   (cfa == 3 || c.get (Reg.SLR_LINK_CFG_FILL_PERIOD l) != 2 ^ cfa, 0x0201, Reg.RFE_CFG),
   (dg && !c.flag (Reg.SLR_LINK_CFG_DG l), 0x0202, Reg.RFE_CFG),
   (decide (24576 < x + w ∨ 10368 < y + h), 0x020B, Reg.RFE_ORIGIN),
   (decide (128 < cols ∨ group = 0 ∨ 1024 < group), 0x0203, Reg.RFE_CHMAP),
   (decide (4194304 < c.get Reg.RFE_DMT_COUNT_N), 0x0204, Reg.RFE_DMT_COUNT),
   (decide (c.get Reg.RFE_DMT_BASE_LO % 64 ≠ 0), 0x0204, Reg.RFE_DMT_BASE_LO),
   (ff && (ffShort (c.get Reg.RFE_FF_CFG_GX) pitch (x + w - 1) || ffShort (c.get Reg.RFE_FF_CFG_GY) pitch (y + h - 1)), 0x0205, Reg.RFE_FF_CFG),
   (ff && decide (c.get Reg.RFE_FF_BASE_LO % 64 ≠ 0), 0x0205, Reg.RFE_FF_BASE_LO),
   (dg && decide (c.get Reg.RFE_DG_KNEE_HI ≤ c.get Reg.RFE_DG_KNEE_LO), 0x0208, Reg.RFE_DG_KNEE),
   (dg && decide (c.get Reg.RFE_DG_CFG_RATIO < 0x400), 0x0208, Reg.RFE_DG_CFG),
   (c.get Reg.RFE_DG_CFG_SHIFT == 7, 0x0208, Reg.RFE_DG_CFG),
   (c.get Reg.RFE_DYN_CFG_MODE == 3, 0x0208, Reg.RFE_DYN_CFG),
   (!c.flag Reg.RFE_CFG_TAP_ORIG && !c.flag Reg.RFE_CFG_TAP_CORR, 0x0209, Reg.RFE_CFG)] ++
  (List.range 64).map (fun n =>
    (c.flag (Reg.DEV_PATH_CFG_DECLARED n) && c.get (Reg.DEV_PATH_CFG_SINK_KIND n) == 5 &&
      !(match c.get (Reg.DEV_PATH_CFG_SINK_INDEX n) with
        | 0 => c.flag Reg.RFE_CFG_TAP_CORR
        | 1 => c.flag Reg.RFE_CFG_TAP_ORIG
        | _ => false), 0x0209, Reg.RFE_CFG))

/-! ### CSE scene section (R144, R152, R154, R165, Tables CSE-3, CSE-5) -/

/-- An LF24 coefficient has a magnitude above 64.0, or is no number. -/
def lfOver (v : Nat) : Bool := !(lf24 v).abs.le (Fl.ofInt 64)

/-- An LF24 value lies outside [lo, hi] in units of one quarter. -/
def lfOutside (v lo hi : Nat) : Bool := !((Fl.ofFrac lo 4).le (lf24 v) && (lf24 v).le (Fl.ofFrac hi 4))

/-- An LF24 value is negative, or no number. -/
def lfNegative (v : Nat) : Bool := !(Fl.zero.le (lf24 v))

/-- Rules of the scene section. -/
def State.sceneRules (c : State) : List Rule :=
  [(!c.enabled .rfe || !c.flag Reg.RFE_CFG_TAP_CORR, 0x0301, Reg.RFE_CFG),
   (decide (1 < c.get Reg.CSE_SCN_CFG_DEMOSAIC ∨ 3 < c.get Reg.CSE_SCN_CFG_WS), 0x0304, Reg.CSE_SCN_CFG),
   (lfOutside (c.get Reg.CSE_WB_R_V) 1 64, 0x0302, Reg.CSE_WB_R),
   (lfOutside (c.get Reg.CSE_WB_G_V) 1 64, 0x0302, Reg.CSE_WB_G),
   (lfOutside (c.get Reg.CSE_WB_B_V) 1 64, 0x0302, Reg.CSE_WB_B)] ++
  (List.range 30).map (fun i => (lfOver (c.get (Reg.CSE_MTX_V i)), 0x0303, Reg.CSE_MTX i)) ++
  [(c.get Reg.CSE_TNR_CFG_MODE == 3 || c.get Reg.CSE_TNR_CFG_MAX_AGE == 0, 0x0305, Reg.CSE_TNR_CFG),
   (lfNegative (c.get Reg.CSE_TNR_N0_V), 0x0305, Reg.CSE_TNR_N0),
   (lfNegative (c.get Reg.CSE_TNR_N1_V), 0x0305, Reg.CSE_TNR_N1),
   (decide (63 < c.get Reg.CSE_TNR_THR_COST_MAX ∨ c.get Reg.CSE_TNR_THR_THR = 0 ∨ 1024 < c.get Reg.CSE_TNR_THR_THR), 0x0305, Reg.CSE_TNR_THR)]

/-! ### Render paths (R172 to R176, R180, R184, R188) -/

/-- Output size, crop and decimation of a render path. -/
def State.rpOw (c : State) (p : Nat) : Nat := c.get (Reg.RP_OUT_SIZE_OW p)
def State.rpOh (c : State) (p : Nat) : Nat := c.get (Reg.RP_OUT_SIZE_OH p)
def State.rpCw (c : State) (p : Nat) : Nat := c.get (Reg.RP_CROP_WH_CW p)
def State.rpCh (c : State) (p : Nat) : Nat := c.get (Reg.RP_CROP_WH_CH p)

/-- A scaling ratio lies outside 0.125 to 4.0 (R174). -/
def badRatio (crop dec out : Nat) : Bool := decide (crop * 8 < dec * out ∨ 4 * dec * out < crop)

/-- Rules of an enabled render path. -/
def State.rpRules (c : State) (alt p : Nat) : List Rule :=
  let l := c.rfeLink
  let rate := c.followRate l alt
  let ow := c.rpOw p
  let oh := c.rpOh p
  let cw := c.rpCw p
  let ch := c.rpCh p
  let dx := 2 ^ c.get (Reg.RP_SCALE_DX p)
  let dy := 2 ^ c.get (Reg.RP_SCALE_DY p)
  let fmt := c.get (Reg.RP_ENC_CFG_FMT p)
  let mx := c.get (Reg.RP_ENC_CFG_MATRIX p)
  let tf := c.get (Reg.RP_TF_CFG_TRANSFER p)
  let nits := c.get (Reg.RP_TF_CFG_PQ_NITS p)
  [(decide (ow % 2 ≠ 0 ∨ oh % 2 ≠ 0 ∨ ow < 64 ∨ oh < 64 ∨ (if p = 0 then 24576 else 8192) < ow ∨ (if p = 0 then 10368 else 4320) < oh), 0x0310,
      Reg.RP_OUT_SIZE p),
   (decide ((if p = 0 then 12000000000 else 4246732800) * rate.2 < ow * oh * rate.1), 0x0310, Reg.RP_OUT_SIZE p),
   (decide (cw = 0 ∨ ch = 0 ∨ c.linkW l < c.get (Reg.RP_CROP_XY_CX p) + cw ∨ c.linkH l < c.get (Reg.RP_CROP_XY_CY p) + ch), 0x0311,
      Reg.RP_CROP_WH p),
   (decide (cw % dx ≠ 0 ∨ ch % dy ≠ 0), 0x0311, Reg.RP_CROP_WH p),
   (badRatio cw dx ow || badRatio ch dy oh, 0x0312, Reg.RP_SCALE p),
   (!c.rpSumsOk p (c.get (Reg.RP_TBL_STATUS_ACTIVE p)), 0x0312, Reg.RP_TBL_STATUS p),
   (decide (1 < c.get (Reg.RP_CFG_LUT_MODE p)), 0x0314, Reg.RP_CFG p),
   (decide (3 < c.get (Reg.RP_CFG_GAMUT p)), 0x0315, Reg.RP_CFG p)] ++
  (List.range 9).map (fun i => (lfOver (c.get (Reg.RP_XFORM_V p i)), 0x0315, Reg.RP_XFORM p i)) ++
  [(decide (3 < fmt) || mx == 3 || (fmt == 0 && decide (1 < c.get (Reg.RP_ENC_CFG_DEPTH p))) || (decide (2 ≤ fmt) && mx == 0) ||
      (c.flag (Reg.RP_ENC_CFG_FLOAT p) && !(fmt == 1 && mx == 0 && tf == 1)), 0x0315, Reg.RP_ENC_CFG p),
   (decide (5 < tf) || c.get (Reg.RP_TF_CFG_SHAPER p) == 3 || decide (nits = 0 ∨ 10000 < nits), 0x0316, Reg.RP_TF_CFG p)]

/-- Rules of the CSE. -/
def State.cseRules (c : State) (alt : Nat) : List Rule :=
  c.sceneRules ++ (List.range c.variant.renderPaths).flatMap (fun p => if c.flag (Reg.RP_CFG_EN p) then c.rpRules alt p else [])

end Sys2Proof.Machine
end

