-- ==== Sys2Proof/Machine/Rules2.lean ====
section
/-!
DEFINITION. Unit-local rules of the consistency check for the PCD, the RPK, the APU, the RTU, the MSS and the SCC (R33, stage 1), in
the form of Rules1.lean; those of the ORE stand in Rules3.lean.
-/

namespace Sys2Proof.Machine

/-! ### PCD (R196, R199, R202, R209, R210, R213 to R215, Table PCD-1) -/

/-- Limits of a level of ITU-T H.265 Annex A: general_level_idc, MaxLumaPs, MaxCPB Main and High, MaxLumaSr, MaxBR Main and
High (0 where the level has no High tier). PRESUMED: the numbers are those of the Recommendation, notes/assumptions/43.md. -/
def hevcLevels : List (Nat × Nat × Nat × Nat × Nat × Nat × Nat) :=
  [(30, 36864, 350, 0, 552960, 128, 0), (60, 122880, 1500, 0, 3686400, 1500, 0), (63, 245760, 3000, 0, 7372800, 3000, 0),
   (90, 552960, 6000, 0, 16588800, 6000, 0), (93, 983040, 10000, 0, 33177600, 10000, 0),
   (120, 2228224, 12000, 30000, 66846720, 12000, 30000), (123, 2228224, 20000, 50000, 133693440, 20000, 50000),
   (150, 8912896, 25000, 100000, 267386880, 25000, 100000), (153, 8912896, 40000, 160000, 534773760, 40000, 160000),
   (156, 8912896, 60000, 240000, 1069547520, 60000, 240000), (180, 35651584, 60000, 240000, 1069547520, 60000, 240000),
   (183, 35651584, 120000, 480000, 2139095040, 120000, 480000)]

/-- A limit of the signalled level and tier is broken (R196): the picture, its rate, and BITRATE and BUF_BITS with the
factor of the profile. -/
def levelBroken (idc : Nat) (high c422 : Bool) (w h : Nat) (rate : Nat × Nat) (kbps buf : Nat) : Bool :=
  match hevcLevels.find? (fun e => e.1 == idc) with
  | none => true
  | some (_, ps, cpbM, cpbH, sr, brM, brH) =>
    let k := if c422 then 1667 else 1000
    decide (ps < w * h ∨ 8 * ps < w * w ∨ 8 * ps < h * h ∨ sr * rate.2 < w * h * rate.1 ∨
      (if high then brH else brM) * k < kbps * 1000 ∨ (if high then cpbH else cpbM) * k < buf)

/-- M of R209. -/
def guardM (c422 : Bool) (depth : Nat) : Nat := ceilDiv (5 * 4096 * (if c422 then 4 else 3) * depth) 6

/-- Rules of an enabled encode session. -/
def State.encRules (c : State) (alt i : Nat) : List Rule :=
  let p := c.get (Reg.PCD_SES_CFG_SRC_RP i)
  let prof := c.get (Reg.PCD_SES_CFG_PROFILE i)
  let c422 := prof == 2
  let deep := if prof = 0 then 8 else 10
  let w := c.rpOw p
  let h := c.rpOh p
  let g := c.get (Reg.PCD_SES_CFG_GOP_STRUCT i)
  let len := c.get (Reg.PCD_SES_GOP_LEN i)
  let two := c.flag (Reg.PCD_SES_CFG_NUM_REF i)
  let kbps := c.get (Reg.PCD_RC_BITRATE i)
  let buf := c.get (Reg.PCD_RC_BUF i)
  let mx := c.get (Reg.PCD_RC_MAXPIC i)
  let qi := c.get (Reg.PCD_RC_CFG_QP_INIT i)
  let qx := c.get (Reg.PCD_RC_CFG_QP_MAX i)
  let f := Reg.PCD_SES_CFG i
  let rc := Reg.PCD_RC_CFG i
  [(prof == 3, 0x0403, f),
   (decide (c.variant.renderPaths ≤ p) || !c.enabled .cse || !c.flag (Reg.RP_CFG_EN p), 0x0402, f),
   (c.get (Reg.RP_ENC_CFG_FMT p) != (if c422 then 2 else 3) || c.get (Reg.RP_ENC_CFG_DEPTH p) != (if deep = 8 then 0 else 1), 0x0402, f),
   (c.get (Reg.RP_ENC_CFG_MATRIX p) == 0 || c.flag (Reg.RP_ENC_CFG_FLOAT p), 0x0402, f),
   (decide (8192 < w ∨ 4320 < h), 0x0402, f),
   (levelBroken (c.get (Reg.PCD_SES_CFG_LEVEL_IDC i)) (c.flag (Reg.PCD_SES_CFG_TIER i)) c422 w h (c.followRate c.rfeLink alt) kbps buf, 0x0403, f),
   (len == 0 || (g != 0 && (len % gopG g != 0 || two)), 0x0404, Reg.PCD_SES_GOP i),
   (decide (8 < (c.get (Reg.PCD_SES_CFG_SKIP i) + 1) * gopG g), 0x0404, f),
   (decide (1 < c.get (Reg.PCD_RC_CFG_MODE i)), 0x0405, rc),
   (decide (qi < c.get (Reg.PCD_RC_CFG_QP_MIN i) ∨ qx < qi ∨ 51 < qx), 0x0405, rc),
   (decide (kbps < 1000 ∨ 800000 < kbps), 0x0405, Reg.PCD_RC_BITRATE i),
   (decide (8 * mx < 4096 + guardM c422 deep + 96 * (ctuCols w * ctuRows h)), 0x0405, Reg.PCD_RC_MAXPIC i),
   (decide (buf < 8 * mx), 0x0405, Reg.PCD_RC_BUF i),
   (decide (c.get (Reg.PCD_MF_BASE_LO i) % 64 ≠ 0), 0x0407, Reg.PCD_MF_BASE_LO i),
   (c.flag (Reg.PCD_MF_CFG_EN i) && c.get (Reg.PCD_MF_CFG_QUEUE i) == 0, 0x0407, Reg.PCD_MF_CFG i)]

/-- Rules of an enabled decode session, k = 0 for session 4 (R214, R215, Table PCD-12). -/
def State.decRules (c : State) (alt k : Nat) : List Rule :=
  [(decide (c.get (Reg.PCD_DEC_CFG_OUT_COUNT k) < 2), 0x0408, Reg.PCD_DEC_CFG k),
   (!rateIn (c.followRate (4 + k) alt) 1 120, 0x0408, Reg.PCD_DEC_RATE k),
   (decide (c.get (Reg.PCD_DEC_MAX_W k) = 0 ∨ c.get (Reg.PCD_DEC_MAX_H k) = 0 ∨ 8192 < c.get (Reg.PCD_DEC_MAX_W k) ∨
      4320 < c.get (Reg.PCD_DEC_MAX_H k)), 0x0408, Reg.PCD_DEC_MAX k),
   (c.flag (Reg.PCD_DEC_CFG_SRC_KIND k) && decide (c.get (Reg.PCD_DEC_END k) < c.get (Reg.PCD_DEC_START k)), 0x0408, Reg.PCD_DEC_END k),
   (decide (c.get (Reg.PCD_DEC_OUT_LO k) % 64 ≠ 0), 0x0408, Reg.PCD_DEC_OUT_LO k)]

/-- Rules of the PCD. -/
def State.pcdRules (c : State) (alt : Nat) : List Rule :=
  (List.range 4).flatMap (fun i => if c.flag (Reg.PCD_SES_CFG_EN i) then c.encRules alt i else []) ++
  (List.range 2).flatMap (fun k => if c.flag (Reg.PCD_DEC_CFG_EN k) then c.decRules alt k else []) ++
  [(decide (25165824 < (c.put (Reg.UNIT_STATUS_ENABLED 4) 1).bandUsed), 0x0406, Reg.PCD_SES_CFG 0)]

/-! ### RPK (R222, R224, Table RPK-6) -/

/-- Rules of an engine. -/
def State.engRules (c : State) (e : Nat) : List Rule :=
  let mode := c.get (Reg.RPK_ENG_CFG_MODE e)
  let g := c.get (Reg.RPK_ENG_CFG_GANG e)
  let size := c.get (Reg.RPK_RING_SIZE_SIZE e)
  let tap := c.get (Reg.RPK_ENG_CFG_SRC e)
  let f := Reg.RPK_ENG_CFG e
  [(mode == 3, 0x0501, f)] ++
  (if mode = 1 then
    [(decide (9 < c.get (Reg.RPK_ENG_CFG_EFFORT e)), 0x0501, f),
     (g == 3 || decide (e % gangSize g ≠ 0) || (List.range (gangSize g - 1)).any (fun k => c.get (Reg.RPK_ENG_CFG_MODE (e + 1 + k)) != 0), 0x0501, f),
     (!c.enabled .rfe || !(if tap = 0 then c.flag Reg.RFE_CFG_TAP_CORR else c.flag Reg.RFE_CFG_TAP_ORIG), 0x0503, f)]
   else if mode = 2 then
    [(decide (c.get (Reg.RPK_RING_BASE_LO e) % 64 ≠ 0), 0x0502, Reg.RPK_RING_BASE_LO e),
     (decide (c.get (Reg.RPK_CPL_BASE_LO e) % 64 ≠ 0), 0x0502, Reg.RPK_CPL_BASE_LO e),
     (!([2, 4, 8, 16, 32, 64, 128, 256, 512, 1024, 2048, 4096] : List Nat).contains size, 0x0502, Reg.RPK_RING_SIZE e)]
   else [])

/-- Rules of the RPK. -/
def State.rpkRules (c : State) : List Rule := (List.range 4).flatMap c.engRules

/-! ### APU (R290, R291, R296, R306, R308, Tables APU-1, APU-4, APU-8) -/

/-- A PACK holds words of a width (Table APU-4). -/
def packHolds (pack w : Nat) : Bool :=
  if pack = 0 then w == 16 else if pack = 1 then decide (w ≤ 24) else if pack = 2 then true else decide (w ≤ 24)

/-- Bits of a slot (R290). -/
def slotBits (k : Nat) : Nat := ([16, 24, 32] : List Nat).getD k 32

/-- Fields of APU_PORT_CFG that R308 holds while the port runs. -/
def portHeldMask : Nat := 0xE3FFF800

/-- Rules of a port. -/
def State.portRules (c old : State) (p : Nat) : List Rule :=
  let f := Reg.APU_PORT_CFG p
  let fmt := c.get (Reg.APU_PORT_CFG_FORMAT p)
  let sb := c.get (Reg.APU_PORT_CFG_SLOT_BITS p)
  let wb := wordBits (c.get (Reg.APU_PORT_CFG_WORD_BITS p))
  let slots := c.get (Reg.APU_PORT_CFG_SLOTS_M1 p) + 1
  let hz := audioHz (c.get (Reg.APU_PORT_CFG_RATE_CLASS p))
  let pull := if c.flag (Reg.APU_PORT_CFG_PULL p) then (1000, 1001) else (1, 1)
  let mk := c.get (Reg.APU_PORT_CFG_MCLK_MULT p)
  let a := c.get (Reg.APU_PORT_ASSOC_ASSOC p)
  [(fmt == 3 || sb == 3 || decide (slotBits sb < wb) || decide (6 < c.get (Reg.APU_PORT_CFG_RATE_CLASS p)) ||
      !packHolds (c.get (Reg.APU_PORT_CFG_PACK p)) wb || (fmt != 2 && slots != 2), 0x0701, f),
   ((List.range 16).any (fun i => decide (slots ≤ i) && bitAt (c.slotEntry p (c.portMap p) i) 31), 0x0701, f),
   (decide (24576000 * pull.2 < hz * slots * slotBits sb * pull.1), 0x0702, f),
   (c.flag (Reg.APU_PORT_CFG_MASTER p) && mk != 0 && decide (49152000 * pull.2 < hz * 64 * 2 ^ mk * pull.1), 0x0702, f),
   (decide (3 ≤ a ∧ a ≤ 7), 0x0706, Reg.APU_PORT_ASSOC p),
   (1 < old.portState p && ((c.reg f.ofs).toNat &&& portHeldMask) != ((old.reg f.ofs).toNat &&& portHeldMask), 0x0707, f),
   (1 < old.portState p && a != old.get (Reg.APU_PORT_ASSOC_ASSOC p), 0x0707, Reg.APU_PORT_ASSOC p)]

/-- Rules of the APU. -/
def State.apuRules (c old : State) : List Rule :=
  (List.range 8).flatMap (fun p => c.portRules old p) ++
  (List.range 64).map (fun n =>
    let p := c.get (Reg.DEV_PATH_CFG_SINK_INDEX n)
    let a := c.get (Reg.APU_PORT_ASSOC_ASSOC p)
    (c.flag (Reg.DEV_PATH_CFG_DECLARED n) && c.get (Reg.DEV_PATH_CFG_SINK_KIND n) == 7 && decide (p < 8) &&
      !((a == 1 || a == 2) && c.flag (Reg.APU_PORT_REC_REC p)), 0x0706, Reg.APU_PORT_ASSOC p))

/-! ### RTU (R319, R320, Tables RTU-1, RTU-6, RTU-8) -/

/-- A rate that fits the fields of a rate register. -/
def rateFits (r : Nat × Nat) : Bool := decide (r.1 < 2 ^ 20 ∧ r.2 < 2 ^ 12)

/-- The grid user of a bit of RTU_FOLLOW. -/
def followUser (k : Nat) : Nat := if k < 2 then k else if k < 10 then k + 6 else k - 6

/-- Rules of the RTU. -/
def State.rtuRules (c : State) (alt : Nat) : List Rule :=
  let fol := c.get Reg.RTU_FOLLOW_V
  [((c.reg Reg.RTU_REF_RATE.ofs != 0 || c.get Reg.RTU_REF_CFG_SRC == 1) && !rateIn (c.refRate 0) 1 120, 0x0801, Reg.RTU_REF_RATE)] ++
  (List.range 3).map (fun i => (c.reg (Reg.RTU_REF_ALT i).ofs != 0 && !rateIn (c.refRate (i + 1)) 1 120, 0x0801, Reg.RTU_REF_ALT i)) ++
  (List.range 8).map (fun g => (bitAt fol (2 + g) && c.get (Reg.ORE_TG_CFG_SRC_KIND g) != 3, 0x0802, Reg.RTU_FOLLOW)) ++
  [((bitAt fol 10 || bitAt fol 11) && !c.variant.has .pcd, 0x0802, Reg.RTU_FOLLOW), (c.get Reg.RTU_FOLLOW != fol, 0x0802, Reg.RTU_FOLLOW)] ++
  (if alt = 0 then [] else (List.range 12).map (fun k => (bitAt fol k && !rateFits (c.followRate (followUser k) alt), 0x0802, Reg.RTU_FOLLOW)))

/-! ### MSS and SCC -/

/-- Rules of the MSS (R339): the reserve p_D covers the neighbour refresh. -/
def State.mssRules (c : State) : List Rule :=
  [(decide (c.get Reg.DEV_LDG_CTL_COP_DRAM * 2 ^ c.get Reg.MSS_NREF_CFG_P < (if c.flag Reg.MSS_NREF_CFG_SPAN2 then 4 else 2) * 4096), 0x0905,
      Reg.MSS_NREF_CFG)]

/-- Rules of the SCC (R358, R360): the limits and the settings of the queues in use. -/
def State.sccRules (c : State) : List Rule :=
  (match c.queueLimits with
   | some (code, f) => [(true, code, f)]
   | none => []) ++
  (List.range 1024).map (fun q => (decide (1 ≤ c.get (Reg.SCC_CPQ_TIMEOUT_NS q) ∧ c.get (Reg.SCC_CPQ_TIMEOUT_NS q) < 1000), 0x0B31, Reg.SCC_CPQ_TIMEOUT q))

end Sys2Proof.Machine
end

