-- ==== Sys2Proof/Machine/Rules3.lean ====
section
/-!
DEFINITION. Unit-local rules of the consistency check for the ORE (R33, stage 1), in the form of Rules1.lean, and the rules of all units
together.
-/

namespace Sys2Proof.Machine

/-! ### Generators (R256 to R258, R265 to R268, Table ORE-1) -/

/-- Rate of a generator's source (R257); none for FIELD. -/
def State.tgSourceRate (c : State) (alt g : Nat) : Option (Nat × Nat) :=
  let i := c.get (Reg.ORE_TG_CFG_SRC_INDEX g)
  match c.get (Reg.ORE_TG_CFG_SRC_KIND g) with
  | 0 => some (c.followRate c.rfeLink alt)
  | 1 => some (c.followRate i alt)
  | 2 => some (c.get (Reg.ORE_RI_RATE_NUM i), c.get (Reg.ORE_RI_RATE_DEN i))
  | _ => none

/-- Rate of a generator when the reference runs at code `alt`: m times its source's, or a FIELD generator's own (R319, R320). -/
def State.tgRate (c : State) (alt g : Nat) : Nat × Nat :=
  if alt = 0 then c.userRate (8 + g)
  else
    match c.tgSourceRate alt g with
    | some r => (r.1 * c.get (Reg.ORE_TG_CFG_MULT g), r.2)
    | none => c.followRate (8 + g) alt

/-- The main buffer is RGB; none where there is no main buffer. -/
def State.tgRgb (c : State) (g : Nat) : Option Bool :=
  match c.get (Reg.ORE_TG_CFG_SRC_KIND g) with
  | 0 => some (c.get (Reg.RP_ENC_CFG_MATRIX (c.get (Reg.ORE_TG_CFG_SRC_INDEX g))) == 0)
  | 1 => some false
  | 2 => some false
  | _ => none

/-- Panel ports bound to a generator. -/
def State.tgPorts (c : State) (g : Nat) : List Nat :=
  (List.range 2).filter (fun k => c.flag (Reg.ORE_PNL_CFG_EN k) && c.get (Reg.ORE_PNL_CFG_TG k) == g)

/-- The declared frame of an ingest. -/
def State.riFmtSize (c : State) (i : Nat) : Nat × Nat := riSize (c.get (Reg.ORE_RI_FMT_ROW i)) (c.flag (Reg.ORE_RI_FMT_WIDE i))

/-- The main plane does not take the source's buffer (R265). The size of a decoded picture is the stream's, which no configuration
gives. -/
def State.mainBad (c : State) (g : Nat) : Bool :=
  let i := c.get (Reg.ORE_TG_CFG_SRC_INDEX g)
  let raster := (c.get (Reg.ORE_TG_H_HA g), c.get (Reg.ORE_TG_V_VA g))
  match c.get (Reg.ORE_TG_CFG_SRC_KIND g) with
  | 0 => (c.get (Reg.RP_ENC_CFG_FMT i) != 0 && c.get (Reg.RP_ENC_CFG_FMT i) != 2) || c.get (Reg.RP_ENC_CFG_DEPTH i) != 1 ||
      c.flag (Reg.RP_ENC_CFG_FLOAT i) || (c.rpOw i, c.rpOh i) != raster
  | 2 => c.riFmtSize i != raster
  | _ => false

/-- Rules of the Canopy planes above main (R266 to R268). -/
def State.canopyRules (c : State) (g : Nat) : List Rule :=
  let ha := c.get (Reg.ORE_TG_H_HA g)
  let va := c.get (Reg.ORE_TG_V_VA g)
  let planes := c.get (Reg.ORE_CNP_CFG_PLANES g)
  let z := c.riFmtSize (c.get (Reg.ORE_CNP_CFG_RET_SRC g))
  let rw := c.get (Reg.ORE_CNP_RET_WH_W g)
  let rh := c.get (Reg.ORE_CNP_RET_WH_H g)
  let f := Reg.ORE_CNP_CFG g
  (if bitAt planes 1 then
    [(decide (z.1 < c.get (Reg.ORE_CNP_RET_SRC_XY_X g) + rw ∨ z.2 < c.get (Reg.ORE_CNP_RET_SRC_XY_Y g) + rh), 0x0605, Reg.ORE_CNP_RET_SRC_XY g),
     (decide (ha < c.get (Reg.ORE_CNP_RET_POS_X g) + rw ∨ va < c.get (Reg.ORE_CNP_RET_POS_Y g) + rh), 0x0605, Reg.ORE_CNP_RET_POS g),
     (c.tgRgb g == some true, 0x0605, f)]
   else []) ++
  [(bitAt planes 2 && decide (c.get (Reg.ORE_CNP_OVL_LO g) % 64 ≠ 0), 0x0605, Reg.ORE_CNP_OVL_LO g)] ++
  (List.range 8).map (fun k =>
    (bitAt planes 3 && c.flag (Reg.ORE_CNP_GUIDE_C_EN g k) &&
      decide (ha ≤ c.get (Reg.ORE_CNP_GUIDE_A_X0 g k) ∨ ha ≤ c.get (Reg.ORE_CNP_GUIDE_B_X1 g k) ∨
        va ≤ c.get (Reg.ORE_CNP_GUIDE_A_Y0 g k) ∨ va ≤ c.get (Reg.ORE_CNP_GUIDE_B_Y1 g k)), 0x0605, Reg.ORE_CNP_GUIDE_A g k))

/-! ### SDI formats (R270, R271, R273, Table ORE-2) -/

/-- Nominal frame rate of a rate factor 1/1 or 1/1.001, and whether the factor is 1/1.001: 24, 30, 48, 60 and 120 have both. -/
def sdiRate (r : Nat × Nat) : Option Nat :=
  if r.2 = 0 then none
  else ([24, 25, 30, 48, 50, 60, 100, 120] : List Nat).find? (fun n =>
    r.1 == n * r.2 || (r.1 * 1001 == n * 1000 * r.2 && n != 25 && n != 50 && n != 100))

/-- Samples per line of a format at 1,080 lines (PRESUMED: SMPTE ST 274 and its multiples, notes/assumptions/44.md). -/
def sdiTotal (n : Nat) : Nat := if n % 25 = 0 then 2640 else if n % 30 = 0 then 2200 else 2750

/-- A row of Table ORE-2: lines ÷ 1,080, rates, group code, line rate code. -/
def sdiRows : List (Nat × List Nat × Nat × Nat) :=
  [(1, [24, 25, 30], 0, 0), (1, [48, 50, 60], 0, 1), (2, [24, 25, 30], 0, 2), (2, [48, 50, 60], 0, 3), (2, [48, 50, 60], 2, 1),
   (2, [100, 120], 1, 3), (4, [24, 25, 30, 48, 50, 60], 2, 3)]

/-- A raster, rate, group, line rate, PsF and division that no row of Table ORE-2 takes. -/
def sdiBad (ha va ht vt : Nat) (r : Nat × Nat) (group rate : Nat) (psf inter : Bool) : Bool :=
  match sdiRate r with
  | none => true
  | some n =>
    !sdiRows.any (fun (k, rates, g, l) =>
      va == 1080 * k && (ha == 1920 * k || ha == 2048 * k) && rates.contains n && g == group && l == rate &&
      ht == sdiTotal n * k && vt == 1125 * k && (!psf || (k == 1 && l == 0)) && (k != 4 || inter))

/-- A group is misplaced or names an absent lane (R271). -/
def State.groupBad (c : State) (group lane : Nat) : Bool :=
  group == 3 || decide (lane % groupLanes group ≠ 0) || decide (c.variant.programLanes < lane + groupLanes group)

/-- Rules of a transmitting lane. -/
def State.sdiRules (c : State) (alt n : Nat) : List Rule :=
  let g := c.get (Reg.ORE_PL_CFG_TG n)
  let group := c.get (Reg.ORE_PL_CFG_GROUP n)
  let rate := c.get (Reg.ORE_PL_CFG_RATE n)
  let f := Reg.ORE_PL_CFG n
  [(c.groupBad group n, 0x0604, f)] ++
  (if c.flag (Reg.ORE_TG_CFG_EN g) then
    [(sdiBad (c.get (Reg.ORE_TG_H_HA g)) (c.get (Reg.ORE_TG_V_VA g)) (c.get (Reg.ORE_TG_H_HT g)) (c.get (Reg.ORE_TG_V_VT g)) (c.tgRate alt g)
        group rate (c.flag (Reg.ORE_PL_CFG_PSF n)) (c.flag (Reg.ORE_PL_CFG_DIV n)) || c.tgRgb g == some true, 0x0603, f)]
   else []) ++
  [(c.flag (Reg.ORE_PL_CFG_AUD_EN n) && rate == 0 && decide (16 ≤ c.get (Reg.ORE_PL_CFG_AUD_CH n)), 0x060C, f)]

/-! ### Return Ingest (R274, R275) -/

/-- Rules of an ingest. -/
def State.riRules (c : State) (i : Nat) : List Rule :=
  let row := c.get (Reg.ORE_RI_FMT_ROW i)
  let group := c.get (Reg.ORE_RI_CFG_GROUP i)
  let lane := c.get (Reg.ORE_RI_CFG_LANE i)
  let f := Reg.ORE_RI_CFG i
  [(match sdiRows[row]?, sdiRate (c.get (Reg.ORE_RI_RATE_NUM i), c.get (Reg.ORE_RI_RATE_DEN i)) with
    | some (_, rates, g, _), some n => !rates.contains n || g != group || (c.flag (Reg.ORE_RI_FMT_PSF i) && row != 0)
    | _, _ => true, 0x060B, Reg.ORE_RI_FMT i),
   (c.groupBad group lane, 0x060B, f),
   (c.get (Reg.ORE_RI_CFG_RING_M1 i) == 0, 0x060B, f),
   (decide (c.get (Reg.ORE_RI_BASE_LO i) % 64 ≠ 0), 0x060B, Reg.ORE_RI_BASE_LO i)]

/-! ### Panels and senders (R278, R284 to R288) -/

/-- Lanes of a panel's code; 0 where the code has none. -/
def pnlLanes (k : Nat) : Nat := ([1, 2, 4] : List Nat).getD k 0

/-- Rules of an enabled panel port: the link carries pixel rate × 3 × bpc ≤ lanes × rate × 0.8 × 0.97. -/
def State.pnlRules (c : State) (alt k : Nat) : List Rule :=
  let g := c.get (Reg.ORE_PNL_CFG_TG k)
  let r := c.tgRate alt g
  let bpc := if c.flag (Reg.ORE_PNL_CFG_BPC10 k) then 10 else 8
  let mbps := ([1620, 2700, 5400, 8100] : List Nat).getD (c.get (Reg.ORE_PNL_CFG_RATE k)) 0
  let lanes := pnlLanes (c.get (Reg.ORE_PNL_CFG_LANES k))
  [(lanes == 0, 0x0606, Reg.ORE_PNL_CFG k)] ++
  (if c.flag (Reg.ORE_TG_CFG_EN g) then
    [(c.tgRgb g == some false ||
        decide (lanes * mbps * 776000 * r.2 < c.get (Reg.ORE_TG_H_HT g) * c.get (Reg.ORE_TG_V_VT g) * r.1 * 3 * bpc), 0x0606, Reg.ORE_PNL_CFG k)]
   else [])

/-- Rules of an enabled sender. -/
def State.txRules (c : State) (alt k : Nat) : List Rule :=
  let g := c.get (Reg.ORE_TX_CFG_TG k)
  let r := c.tgRate alt g
  let n := c.get (Reg.ORE_TX_PKT_BYTES k)
  let f := Reg.ORE_TX_CFG k
  [(c.flag (Reg.ORE_TX_CFG_DUP k) && decide (c.variant.ethPorts < 2), 0x060A, f),
   (decide (c.get (Reg.ORE_TX_CFG_PT k) < 96), 0x0608, f)] ++
  (if k % 4 < 2 then
    [(decide (n < 5 ∨ 1260 < n) || (c.flag (Reg.ORE_TX_CFG_BPM k) && decide (n % 180 ≠ 0)), 0x0608, Reg.ORE_TX_PKT k)] ++
    (if c.flag (Reg.ORE_TG_CFG_EN g) then
      [(decide (3840 < c.get (Reg.ORE_TG_H_HA g) ∨ 2160 < c.get (Reg.ORE_TG_V_VA g) ∨ 60 * r.2 < r.1) || c.tgRgb g == some true, 0x0608, f)]
     else [])
   else [(decide (1 < c.get (Reg.ORE_TX_CFG_FMT k) ∨ 15 < c.get (Reg.ORE_TX_CFG_CH_M1 k)), 0x0608, f)])

/-- Bits of Ethernet, IPv4, UDP and RTP headers of a packet. -/
def rtpHeaderBits : Nat := 8 * (14 + 20 + 8 + 12)

/-- What a sender needs, in bit/s times the second number. -/
def State.txNeed (c : State) (alt k : Nat) : Nat × Nat :=
  let g := c.get (Reg.ORE_TX_CFG_TG k)
  if k % 4 < 2 then
    let bytes := c.get (Reg.ORE_TG_H_HA g) * c.get (Reg.ORE_TG_V_VA g) * 5 / 2
    let r := c.tgRate alt g
    ((8 * bytes + ceilDiv bytes (max 1 (c.get (Reg.ORE_TX_PKT_BYTES k))) * rtpHeaderBits) * r.1, max 1 r.2)
  else
    (48000 * (c.get (Reg.ORE_TX_CFG_CH_M1 k) + 1) * (if c.get (Reg.ORE_TX_CFG_FMT k) = 0 then 16 else 24) +
      (if c.flag (Reg.ORE_TX_CFG_PTIME k) then 8000 else 1000) * rtpHeaderBits, 1)

/-- Enabled senders that use a port (R284, R287). -/
def State.portSenders (c : State) (p : Nat) : List Nat :=
  (List.range 8).filter (fun k => c.flag (Reg.ORE_TX_CFG_EN k) && (k / 4 == p || c.flag (Reg.ORE_TX_CFG_DUP k)))

/-- The senders of a port need more than 0.95 of its line rate (R288). -/
def State.portOver (c : State) (alt p : Nat) : Bool :=
  let line := ([0, 10000000000, 25000000000] : List Nat).getD (c.get (Reg.ORE_ETH_CFG_MODE p)) 0
  let need := (c.portSenders p).foldl (fun (a : Nat × Nat) k =>
    let n := c.txNeed alt k
    (a.1 * n.2 + n.1 * a.2, a.2 * n.2)) (0, 1)
  decide (95 * line * need.2 < 100 * need.1)

/-! ### The unit -/

/-- Rules of an enabled generator. -/
def State.tgRules (c : State) (alt g : Nat) : List Rule :=
  let ha := c.get (Reg.ORE_TG_H_HA g)
  let ht := c.get (Reg.ORE_TG_H_HT g)
  let va := c.get (Reg.ORE_TG_V_VA g)
  let vt := c.get (Reg.ORE_TG_V_VT g)
  let r := c.tgRate alt g
  let kind := c.get (Reg.ORE_TG_CFG_SRC_KIND g)
  let i := c.get (Reg.ORE_TG_CFG_SRC_INDEX g)
  let m := c.get (Reg.ORE_TG_CFG_MULT g)
  let trd := c.get (Reg.SLR_LINK_TRD c.rfeLink)
  let sinks := !(c.tgLanes g).isEmpty || !(c.tgSenders g).isEmpty
  let f := Reg.ORE_TG_CFG g
  [(decide (ha < 64 ∨ 8192 < ha ∨ ha % 2 ≠ 0 ∨ ht < ha + 64 ∨ 16383 < ht), 0x0601, Reg.ORE_TG_H g),
   (decide (va < 64 ∨ 4320 < va ∨ vt < va + 8 ∨ 8191 < vt), 0x0601, Reg.ORE_TG_V g),
   (!rateIn r 1 120 || decide (4800000000 * r.2 < ht * vt * r.1), 0x0601, Reg.ORE_TG_RATE g),
   (atPeriod r (toSigned 32 (c.get (Reg.ORE_TG_VOFS g))).natAbs, 0x0601, Reg.ORE_TG_VOFS g),
   (decide (3 < kind ∨ m = 0 ∨ 4 < m), 0x0602, f),
   (kind == 0 && decide (c.variant.renderPaths ≤ i ∧ i < 8), 0x0D01, f),
   (kind == 1 && !c.variant.has .pcd, 0x0D01, f),
   ((kind == 0 && decide (7 < i)) || (kind == 1 && i != 4 && i != 5) || (kind == 2 && decide (3 < i)), 0x0602, f),
   ((c.tgSourceRate alt g).elim false (fun q => r.1 * q.2 != m * q.1 * r.2 || q.2 == 0), 0x0602, Reg.ORE_TG_RATE g),
   (kind == 0 && m == 1 && decide (va * r.2 * 1000000000 < trd * vt * r.1), 0x0602, f),
   (c.mainBad g, 0x0603, Reg.ORE_CNP_CFG g),
   (sinks && !(c.tgPorts g).isEmpty && (c.tgRgb g).isSome, 0x0603, f)] ++ c.canopyRules g

/-- Rules of the ORE. -/
def State.oreRules (c : State) (alt : Nat) : List Rule :=
  (List.range 8).flatMap (fun g => if c.flag (Reg.ORE_TG_CFG_EN g) then c.tgRules alt g else []) ++
  (List.range c.variant.programLanes).flatMap (fun n => if c.flag (Reg.ORE_PL_CFG_TX_EN n) then c.sdiRules alt n else []) ++
  (List.range 4).flatMap (fun i => if c.flag (Reg.ORE_RI_CFG_EN i) then c.riRules i else []) ++
  (List.range 2).flatMap (fun k => if c.flag (Reg.ORE_PNL_CFG_EN k) then c.pnlRules alt k else []) ++
  (List.range 8).flatMap (fun k => if c.flag (Reg.ORE_TX_CFG_EN k) then c.txRules alt k else []) ++
  (List.range c.variant.ethPorts).map (fun p => (c.portOver alt p, 0x0609, Reg.ORE_ETH_CFG p))

/-- Rules of a unit on the configuration `c`; `old` is the configuration in effect, `alt` the reference rate of R320. -/
def State.unitRules (c old : State) (alt : Nat) (u : UnitId) : List Rule :=
  match u with
  | .slr => c.slrRules old alt
  | .rfe => c.rfeRules
  | .cse => c.cseRules alt
  | .pcd => c.pcdRules alt
  | .rpk => c.rpkRules
  | .ore => c.oreRules alt
  | .apu => c.apuRules old
  | .rtu => c.rtuRules alt
  | .mss => c.mssRules
  | .scc => c.sccRules
  | .hif => []
  | .htp => []

end Sys2Proof.Machine
end

