-- ==== Sys2Proof/Machine/Ledger.lean ====
section
/-!
DEFINITION. The deadline ledger's arithmetic (02_enabling_and_the_deadline_ledger.md, R45 to R57, R204, R225, R320): the
paths a configuration books, their terms and bounds, the slots and the compute they take, and the buffers of the plan.
Times are in microseconds; `alt` is the reference rate under which the rates are taken.
-/

namespace Sys2Proof.Machine

/-- A natural number as a rational. -/
def q (n : Nat) : Rat := (n : Rat)

/-- Rounded up to a natural number; a negative number gives 0. -/
def ceilQ (r : Rat) : Nat := r.ceil.toNat

/-- The largest of rationals, 0 for none. -/
def maxQ (l : List Rat) : Rat := l.foldl max 0

/-- Sum of rationals. -/
def sumQ (l : List Rat) : Rat := l.foldl (· + ·) 0

/-- Period of a rate in µs; 0 where the rate is not configured. -/
def periodUs (r : Nat × Nat) : Rat := if r.1 = 0 then 0 else q (r.2 * 1000000) / q r.1

/-- Capacity factor of a throttle level (Table LDG-7). -/
def capFactor (l : Nat) : Rat := if l < 8 then q (8 - l) / 8 else 1 / 16

/-- The booked refresh interval (R48). -/
def tRI : Rat := 39 / 10

/-- 512-slot cycle: 2.56, 1.707 or 1.28 µs at DDR4-1600, 2400, 3200 (Table LDG-3): 512 bursts of 4 CLK_MEMPHY cycles. -/
def State.tCyc (c : State) : Rat :=
  match c.get Reg.MSS_CFG_GRADE with
  | 0 => 256 / 100
  | 1 => 512 / 300
  | _ => 128 / 100

/-- Refresh stall (Table LDG-3). -/
def State.tRFC (c : State) : Rat := if c.flag Reg.MSS_CFG_DENSITY then 55 / 100 else 35 / 100

/-- Coppice reserves p_D, p_U and p_T. -/
def State.pD (c : State) : Rat := q (c.get Reg.DEV_LDG_CTL_COP_DRAM) / 100
def State.pU (c : State) : Rat := q (c.get Reg.DEV_LDG_CTL_COP_UNIT) / 100
def State.pT (c : State) : Rat := q (c.get Reg.DEV_LDG_CTL_COP_TILE) / 1000

/-! ### Paths (R45, R47) -/

/-- A path as the ledger books it. -/
structure PathIn where
  path : Nat
  src : Nat
  kind : Nat
  idx : Nat
  chain : List Bnd
  units : List Nat
  /-- source frame period -/
  T : Rat
  /-- H, J_a, J_c, n_W, S, n_x of R52 -/
  H : Nat
  Ja : Rat
  Jc : Rat
  nW : Nat
  S : Nat
  nx : Nat
  /-- recomputable buffers: tiles, and the time of one tile -/
  rec' : List (Nat × Rat)
  rank : Nat
  limit : Nat
  rp : Option Nat
  tg : Option Nat
  deriving DecidableEq, Repr

/-- The link's image as a source: it is in use, with its unit, and has a rate and a readout time (R45). -/
def State.linkSource (c : State) (l : Nat) : Bool :=
  c.enabled .slr && c.linkUsed l && c.get (Reg.SLR_LINK_RATE_NUM l) != 0 && c.get (Reg.SLR_LINK_RATE_DEN l) != 0 && c.get (Reg.SLR_LINK_TRD l) != 0

/-- The RFE delivers the raw of a link that is a source. -/
def State.rawSource (c : State) : Bool :=
  c.enabled .rfe && (c.get Reg.RFE_CFG_LINK == 1 || c.get Reg.RFE_CFG_LINK == 2) && c.linkSource c.rfeLink

/-- A render path delivers frames. -/
def State.rpSource (c : State) (p : Nat) : Bool :=
  c.rawSource && c.enabled .cse && decide (p < c.variant.renderPaths) && c.flag (Reg.RP_CFG_EN p)

/-- Readout time in µs. -/
def State.tRd (c : State) : Rat := q (c.get (Reg.SLR_LINK_TRD c.rfeLink)) / 1000

/-- Samples per frame of a raw tap: P of Table LDG-3. -/
def State.tapSamples (c : State) (tap : Nat) : Nat := c.linkW c.rfeLink * c.linkH c.rfeLink * c.tapSps tap

/-- Samples of the RFE's own compute: two per site with dual-gain readout. -/
def State.rfeSamples (c : State) : Nat :=
  c.linkW c.rfeLink * c.linkH c.rfeLink * (if c.flag (Reg.SLR_LINK_CFG_DG c.rfeLink) then 2 else 1)

/-- Active time of a generator's output frame (R256). -/
def State.tgActiveUs (c : State) (alt g : Nat) : Rat :=
  if c.get (Reg.ORE_TG_V_VT g) = 0 then 0
  else q (c.get (Reg.ORE_TG_V_VA g)) / q (c.get (Reg.ORE_TG_V_VT g)) * periodUs (c.tgRate alt g)

/-- The recomputable render buffer of a path (R52). -/
def State.rpTerm (c : State) (p : Nat) : Nat × Rat :=
  let ow := max 1 (c.rpOw p)
  let oh := max 1 (c.rpOh p)
  (tileCount ow oh, 16384 * max 1 (q (c.rpCw p) / q ow) * max 1 (q (c.rpCh p) / q oh) / 38400)

/-- Samples per µs of an engine at its effort (Table ERP-7). -/
def State.engRate (c : State) (e : Nat) : Nat := erpRate (c.get (Reg.RPK_ENG_CFG_EFFORT e)) * 100

/-- A path over a render path, up to its sink: chain, units and terms of the stages before the sink. -/
def State.rpPath (c : State) (alt n p : Nat) : Option PathIn :=
  if c.rpSource p then
    some { path := n, src := c.rfeLink, kind := 0, idx := 0, chain := [.link c.rfeLink, .rfe, .scene], units := [1, 2, 3],
           T := periodUs (c.followRate c.rfeLink alt), H := 1, Ja := 0, Jc := 0, nW := 0, S := 2 + 8 + 12 + 10, nx := 1, rec' := [c.rpTerm p],
           rank := 0, limit := 0, rp := some p, tg := none }
  else none

/-- A path through a generator, up to its sink. -/
def State.tgPath (c : State) (alt n g : Nat) : Option PathIn :=
  let i := c.get (Reg.ORE_TG_CFG_SRC_INDEX g)
  if !(c.enabled .ore && c.flag (Reg.ORE_TG_CFG_EN g)) then none
  else
    let a := c.tgActiveUs alt g
    match c.get (Reg.ORE_TG_CFG_SRC_KIND g) with
    | 0 => (c.rpPath alt n i).map (fun (p : PathIn) =>
        { p with chain := p.chain ++ [.tg g], units := p.units ++ [6], H := 2, Ja := a, nW := 4, tg := some g })
    | 1 =>
      if c.enabled .pcd && (i == 4 || i == 5) && c.flag (Reg.PCD_DEC_CFG_EN (i - 4)) && (c.userRate i).1 != 0 && (c.userRate i).2 != 0 then
        some { path := n, src := 2 + i, kind := 0, idx := 0, chain := [.pcd i, .tg g], units := [4, 6], T := periodUs (c.followRate i alt),
               H := 2, Ja := a, Jc := 0, nW := 4, S := 60, nx := 1, rec' := [], rank := 0, limit := 0, rp := none, tg := some g }
      else none
    | 2 =>
      if decide (i < 4) && c.flag (Reg.ORE_RI_CFG_EN i) && c.get (Reg.ORE_RI_RATE_NUM i) != 0 && c.get (Reg.ORE_RI_RATE_DEN i) != 0 then
        some { path := n, src := 2 + i, kind := 0, idx := 0, chain := [.ri i, .tg g], units := [6],
               T := periodUs (c.get (Reg.ORE_RI_RATE_NUM i), c.get (Reg.ORE_RI_RATE_DEN i)),
               H := 2, Ja := a, Jc := 0, nW := 2, S := 6, nx := 0, rec' := [], rank := 0, limit := 0, rp := none, tg := some g }
      else none
    | _ => none

/-- A raw path, up to its sink. -/
def State.rawPath (c : State) (alt n tap : Nat) : Option PathIn :=
  if c.rawSource && (if tap = 0 then c.flag Reg.RFE_CFG_TAP_CORR else c.flag Reg.RFE_CFG_TAP_ORIG) then
    some { path := n, src := c.rfeLink, kind := 0, idx := 0, chain := [.link c.rfeLink, .rfe], units := [1, 2],
           T := periodUs (c.followRate c.rfeLink alt), H := 1, Ja := 0, Jc := 0, nW := 2, S := 2 + 8, nx := 1, rec' := [],
           rank := 0, limit := 0, rp := none, tg := none }
  else none

/-- The chain of a declared path back to its source, or none where it is not complete (R45, R47, Tables JRN-2 and LDG-6). -/
def State.trace (c : State) (alt n : Nat) : Option PathIn :=
  let kind := c.get (Reg.DEV_PATH_CFG_SINK_KIND n)
  let i := c.get (Reg.DEV_PATH_CFG_SINK_INDEX n)
  let p : Option PathIn :=
    match kind with
    | 1 => if decide (i < 8) && !(c.tgLanes i).isEmpty then (c.tgPath alt n i).map (fun (p : PathIn) => { p with S := p.S + 3 }) else none
    | 8 => if decide (i < 8) && !(c.tgPorts i).isEmpty then (c.tgPath alt n i).map (fun (p : PathIn) => { p with S := p.S + 4 }) else none
    | 2 =>
      if decide (i < 8 ∧ i % 4 < 2) && c.flag (Reg.ORE_TX_CFG_EN i) then
        (c.tgPath alt n (c.get (Reg.ORE_TX_CFG_TG i))).map (fun (p : PathIn) => { p with S := p.S + 40 })
      else none
    | 3 =>
      if decide (i < 4) && c.enabled .pcd && c.flag (Reg.PCD_SES_CFG_EN i) then
        let r := c.get (Reg.PCD_SES_CFG_SRC_RP i)
        (c.rpPath alt n r).map (fun (p : PathIn) =>
          { p with chain := p.chain ++ [.pcd i], units := p.units ++ [4], Jc := q (c.rpOw r * c.rpOh r) / 600, nW := 5, S := p.S + 60, nx := 2 })
      else none
    | 4 =>
      if decide (i < 4) && c.enabled .rpk && c.get (Reg.RPK_ENG_CFG_MODE i) == 1 then
        let tap := c.get (Reg.RPK_ENG_CFG_SRC i)
        let m := gangSize (c.get (Reg.RPK_ENG_CFG_GANG i))
        (c.rawPath alt n tap).map (fun (p : PathIn) =>
          { p with chain := p.chain ++ (List.range m).map (fun k => Bnd.rpk (i + k)), units := p.units ++ [5],
                   Jc := q (c.tapSamples tap) / q (m * c.engRate i), nW := 3, S := p.S + 20 + 5,
                   rec' := [(tileCount (c.linkW c.rfeLink) (c.linkH c.rfeLink), 16384 / q (c.engRate i))] })
      else none
    | 5 => if i < 2 then (c.rawPath alt n i).map (fun (p : PathIn) => { p with S := p.S + 5 }) else none
    | 6 =>
      if decide (i < 4) && c.enabled .ore && c.flag (Reg.ORE_RI_CFG_EN i) && c.flag (Reg.ORE_RI_CFG_CAPTURE i) &&
          c.get (Reg.ORE_RI_RATE_NUM i) != 0 && c.get (Reg.ORE_RI_RATE_DEN i) != 0 then
        some { path := n, src := 2 + i, kind := 0, idx := 0, chain := [.ri i], units := [6],
               T := periodUs (c.get (Reg.ORE_RI_RATE_NUM i), c.get (Reg.ORE_RI_RATE_DEN i)),
               H := 1, Ja := 0, Jc := 0, nW := 1, S := 6 + 5, nx := 0, rec' := [], rank := 0, limit := 0, rp := none, tg := none }
      else none
    | 7 =>
      let l := c.get (Reg.APU_PORT_ASSOC_ASSOC i) - 1
      if decide (i < 8) && c.enabled .apu && c.flag (Reg.APU_PORT_REC_REC i) &&
          (c.get (Reg.APU_PORT_ASSOC_ASSOC i) == 1 || c.get (Reg.APU_PORT_ASSOC_ASSOC i) == 2) && c.linkSource l then
        some { path := n, src := l, kind := 0, idx := 0, chain := [.link l, .apu i], units := [1, 7], T := periodUs (c.followRate l alt),
               H := 1, Ja := 0, Jc := 0, nW := 1, S := 2 + 3 + 5, nx := 0, rec' := [], rank := 0, limit := 0, rp := none, tg := none }
      else none
    | _ => none
  if c.flag (Reg.DEV_PATH_CFG_DECLARED n) then
    p.map (fun (p : PathIn) => { p with kind := kind, idx := i, rank := c.get (Reg.DEV_PATH_CFG_SHED_RANK n), limit := c.get (Reg.DEV_PATH_LIMIT_LIMIT_US n) })
  else none

/-- The booked paths of a configuration. -/
def State.traces (c : State) (alt : Nat) : List PathIn := (List.range 64).filterMap (fun n => c.trace alt n)

/-- The bound of a path at a throttle level (R52). -/
def State.boundAt (c : State) (p : PathIn) (l : Nat) : Rat :=
  let cL := capFactor l
  let work := (p.Jc + q p.S) / cL
  let w := q p.nW * c.tCyc
  let f := q (ceilQ ((p.Ja + work + w) / tRI)) * c.tRFC
  let rec' := sumQ (p.rec'.map (fun b => q (ceilQ (c.pT * q b.1)) * b.2)) / (c.pU * cL)
  q p.H * p.T + p.Ja + work + w + f + (2 * c.tCyc + 4 * q p.nx + rec')

/-! ### DRAM slots (R49, R50, R159, R204, R225, R261, Table LDG-4) -/

/-- Slots per channel of a booking: bytes, window in µs, 1 + k, and the requester port of Table MSS-4. -/
def State.slotsOf (c : State) (port bytes : Nat) (window k : Rat) : Nat × Nat :=
  if bytes = 0 ∨ window ≤ 0 then (port, 0)
  else (port, ceilQ (q bytes / window * k / q c.variant.channels / (64 / c.tCyc)))

/-- k of Table LDG-4 as a factor. -/
def k10 : Rat := 11 / 10
def k25 : Rat := 5 / 4

/-- Bytes of the RFE's table reads per frame: defect entries and the flat-field grid. -/
def State.rfeTableBytes (c : State) : Nat :=
  (if c.flag Reg.RFE_CFG_DMT_EN then 4 * c.get Reg.RFE_DMT_COUNT_N else 0) +
  (if c.flag Reg.RFE_CFG_FF_EN then c.ffPlanes * (c.get Reg.RFE_FF_CFG_GX * c.get Reg.RFE_FF_CFG_GY) * 2 else 0)

/-- Blocks of 16 × 16 pixels of a picture: entries of its motion field. -/
def mfBlocks (w h : Nat) : Nat := ceilDiv w 16 * ceilDiv h 16

/-- Bytes of the noise-reduction history per frame (R159): MC books as MC in the EL9640 alone. -/
def State.historyBytes (c : State) : Nat :=
  let n := c.linkW c.rfeLink * c.linkH c.rfeLink
  let mode := c.get Reg.CSE_TNR_CFG_MODE
  if mode = 2 && c.variant.has .pcd then
    let p := c.get (Reg.PCD_SES_CFG_SRC_RP (c.get Reg.CSE_TNR_CFG_MF_SESSION))
    15 * n + 4 * mfBlocks (c.rpOw p) (c.rpOh p)
  else if mode = 0 then 0
  else 12 * n

/-- The slots the RFE and the CSE take. -/
def State.rawSlots (c : State) (paths : List PathIn) : List (Nat × Nat) :=
  if !c.rawSource then []
  else
    (if c.flag Reg.RFE_CFG_TAP_CORR then [c.slotsOf 0x02 (2 * c.tapSamples 0) c.tRd k10] else []) ++
    (if c.flag Reg.RFE_CFG_TAP_ORIG then [c.slotsOf 0x03 (2 * c.tapSamples 1) c.tRd k10] else []) ++
    (paths.filter (fun p => p.kind == 5)).map (fun p => c.slotsOf (0x02 + p.idx) (2 * c.tapSamples p.idx) c.tRd k10) ++
    [c.slotsOf 0x04 c.rfeTableBytes c.tRd k25] ++
    (if c.enabled .cse then [c.slotsOf 0x05 (2 * c.tapSamples 0) c.tRd k10, c.slotsOf 0x06 c.historyBytes c.tRd k10] else [])

/-- The slots of the render paths that booked paths use. -/
def State.rpSlots (c : State) (paths : List PathIn) : List (Nat × Nat) :=
  (List.range 8).filterMap (fun p =>
    if paths.any (fun x => x.rp == some p) then
      some (c.slotsOf (0x08 + p) (c.rpOw p * c.rpOh p * fmtBpp (c.get (Reg.RP_ENC_CFG_FMT p))) c.tRd k10)
    else none)

/-- Bytes per picture of an encode session (R204). -/
def State.encBytes (c : State) (i : Nat) : Nat :=
  let p := c.get (Reg.PCD_SES_CFG_SRC_RP i)
  let w := c.rpOw p
  let h := c.rpOh p
  let r := refBytes w h (c.get (Reg.PCD_SES_CFG_PROFILE i) == 2)
  w * h * fmtBpp (c.get (Reg.RP_ENC_CFG_FMT p)) + (c.encRefs i + 1) * r +
    (if c.flag (Reg.PCD_MF_CFG_EN i) then 4 * mfBlocks w h else 0) + c.get (Reg.PCD_RC_MAXPIC i)

/-- Pixels of a decode session's largest picture, and the bytes of its reconstruction in the larger of its two formats. -/
def State.decPixels (c : State) (k : Nat) : Nat := c.get (Reg.PCD_DEC_MAX_W k) * c.get (Reg.PCD_DEC_MAX_H k)
def State.decRef (c : State) (k : Nat) : Nat := refBytes (c.get (Reg.PCD_DEC_MAX_W k)) (c.get (Reg.PCD_DEC_MAX_H k)) true

/-- The slots of the PCD's sessions. -/
def State.pcdSlots (c : State) (paths : List PathIn) : List (Nat × Nat) :=
  (paths.filter (fun p => p.kind == 3)).map (fun p => c.slotsOf (0x10 + p.idx) (c.encBytes p.idx) p.Jc k25) ++
  (List.range 2).filterMap (fun k =>
    if c.enabled .pcd && c.flag (Reg.PCD_DEC_CFG_EN k) then
      some (c.slotsOf (0x14 + k) (c.get (Reg.PCD_DEC_MAXAU k) + 4 * c.decRef k + 4 * c.decPixels k) (q (c.decPixels k) / 600) k25)
    else none)

/-- The slots of the RPK's engines: path engines by their job, JOBS engines under R225. -/
def State.rpkSlots (c : State) (paths : List PathIn) : List (Nat × Nat) :=
  (paths.filter (fun p => p.kind == 4)).flatMap (fun p =>
    (List.range (gangSize (c.get (Reg.RPK_ENG_CFG_GANG p.idx)))).flatMap (fun e =>
      let s := c.slotsOf (0x18 + p.idx + e) (2 * c.engRate p.idx) 1 k10
      [s, s])) ++
  (List.range 4).flatMap (fun e =>
    if c.enabled .rpk && c.get (Reg.RPK_ENG_CFG_MODE e) == 2 then
      let n := 0x18 + e
      let s := (n, ceilQ (16000 * (1 - c.pU) * k10 / q c.variant.channels / (64 / c.tCyc)))
      [s, s]
    else [])

/-- Bytes that a generator reads per frame (R261). -/
def State.tgReadBytes (c : State) (paths : List PathIn) (g : Nat) : Nat :=
  let i := c.get (Reg.ORE_TG_CFG_SRC_INDEX g)
  let px := c.get (Reg.ORE_TG_H_HA g) * c.get (Reg.ORE_TG_V_VA g)
  let planes := c.get (Reg.ORE_CNP_CFG_PLANES g)
  (if paths.any (fun p => p.tg == some g) then
    (match c.get (Reg.ORE_TG_CFG_SRC_KIND g) with
     | 0 => c.rpOw i * c.rpOh i * fmtBpp (c.get (Reg.RP_ENC_CFG_FMT i))
     | _ => 4 * px)
   else 0) +
  (if bitAt planes 1 then 4 * (c.get (Reg.ORE_CNP_RET_WH_W g) * c.get (Reg.ORE_CNP_RET_WH_H g)) else 0) +
  (if bitAt planes 2 then px else 0)

/-- The slots of the ORE: reads of its generators and writes of its ingests (R261); 1,080 of 1,125 lines of an input are active. -/
def State.oreSlots (c : State) (alt : Nat) (paths : List PathIn) : List (Nat × Nat) :=
  if !c.enabled .ore then []
  else
    (List.range 8).filterMap (fun g =>
      if c.flag (Reg.ORE_TG_CFG_EN g) then some (c.slotsOf (0x20 + g) (c.tgReadBytes paths g) (c.tgActiveUs alt g) k10) else none) ++
    (List.range 4).filterMap (fun i =>
      if c.flag (Reg.ORE_RI_CFG_EN i) then
        let z := c.riFmtSize i
        some (c.slotsOf (0x28 + i) (4 * (z.1 * z.2)) (periodUs (c.get (Reg.ORE_RI_RATE_NUM i), c.get (Reg.ORE_RI_RATE_DEN i)) * 24 / 25) k10)
      else none)

/-- Slots per channel of every booking. -/
def State.slotList (c : State) (alt : Nat) (paths : List PathIn) : List (Nat × Nat) :=
  c.rawSlots paths ++ c.rpSlots paths ++ c.pcdSlots paths ++ c.rpkSlots paths ++ c.oreSlots alt paths ++
    [c.slotsOf 0x2C (c.get Reg.DEV_LDG_HOST_BW * 1000000) 1000000 k10]

/-- Slots by requester. -/
def slotMap (l : List (Nat × Nat)) : SMap Nat := l.foldl (fun m e => SMap.setD m 0 e.1 (SMap.getD m 0 e.1 + e.2)) []

/-- Slots a channel has left for requesters (R50). -/
def State.slotsLeft (c : State) : Nat := 512 - ceilQ (512 * c.tRFC / tRI) - ceilQ (512 * c.pD)

/-- Paths that are not shed at a level (R55). -/
def unshed (paths : List PathIn) (l : Nat) : List PathIn := paths.filter (fun p => !shedAt p.rank l)

/-! ### Compute (R51, R191, Table LDG-5) -/

/-- Shares of a unit's capacity at level 0: unit, group of one capacity, share; and whether the share falls with the
throttle level (a JOBS engine's, R225). -/
def State.loads (c : State) (paths : List PathIn) : List (Nat × Rat × Bool) :=
  let rps := (List.range 8).filter (fun p => paths.any (fun x => x.rp == some p))
  (if c.rawSource then [(2, q c.rfeSamples / c.tRd / 38400, false)] else []) ++
  (if c.rawSource && c.enabled .cse then [(3, q (c.tapSamples 0) / c.tRd / 38400, false)] else []) ++
  (if rps.isEmpty then [] else [(3, q (sumN (rps.map (fun p => c.rpOw p * c.rpOh p))) / c.tRd / 12000, false)]) ++
  rps.map (fun p => (3, q (c.rpOw p * c.rpOh p) / c.tRd / (if p = 0 then 12000 else 42467328 / 10000), false)) ++
  (paths.filter (fun p => p.kind == 3)).map (fun p => (4, p.Jc / p.T, false)) ++
  (List.range 2).filterMap (fun k =>
    if c.enabled .pcd && c.flag (Reg.PCD_DEC_CFG_EN k) then
      some (4, q (c.decPixels k) / 600 / max 1 (periodUs (c.userRate (4 + k))), false)
    else none) ++
  (paths.filter (fun p => p.kind == 4)).map (fun p => (5, p.Jc / p.T, false)) ++
  (List.range 4).filterMap (fun e =>
    if c.enabled .rpk && c.get (Reg.RPK_ENG_CFG_MODE e) == 2 then some (5, 1 - c.pU, true) else none)

/-- The first unit whose demand exceeds it at a level (R51). -/
def State.overUnit (c : State) (paths : List PathIn) (l : Nat) : Option Nat :=
  ((c.loads (unshed paths l)).find? (fun x => decide (1 < (if x.2.2 then x.2.1 else x.2.1 / capFactor l) + c.pU))).map (fun x => x.1)

/-! ### Levels (R53, R55, R56) -/

/-- A ledger refusal: the reason code, and KIND, INDEX and LEVEL of DEV_LDG_FAIL. -/
abbrev LedgerFail := Nat × Nat × Nat × Nat

/-- What fails at a level: a channel, a unit, a limit. -/
def State.levelFail (c : State) (alt : Nat) (paths : List PathIn) (l : Nat) : Option LedgerFail :=
  let here := unshed paths l
  if c.slotsLeft < 4 + sumN ((slotMap (c.slotList alt here)).map (fun e => e.2)) then some (0x0D03, 2, 0, l)
  else
    match c.overUnit paths l with
    | some u => some (0x0D04, 3, u, l)
    | none =>
      match here.find? (fun p => p.limit != 0 && decide (q p.limit < c.boundAt p l)) with
      | some p => some (0x0D05, 1, p.path, l)
      | none => none

/-- The achieved cover from a level on, and what fails above it. -/
def State.coverFrom (c : State) (alt : Nat) (paths : List PathIn) (fuel l : Nat) : Nat × Option LedgerFail :=
  match fuel with
  | 0 => (l, none)
  | n + 1 =>
    match c.levelFail alt paths (l + 1) with
    | some f => (l, some f)
    | none => c.coverFrom alt paths n (l + 1)

/-- A bound as published, in whole µs (R52). -/
def State.published (c : State) (p : PathIn) (l : Nat) : Nat := ceilQ (c.boundAt p l)

/-- PATH_BOUND of a path at a cover (R57). -/
def State.pathBound (c : State) (p : PathIn) (cover : Nat) : Nat :=
  maxN (((List.range (cover + 1)).filter (fun l => !shedAt p.rank l)).map (fun l => c.published p l))

/-! ### Buffers (R54, R118, R158, R159, R189, R203, R215, Table PCD-4) -/

/-- The reference rates under which the check runs (R320): REF_RATE, and each alternative that is set, when an instance follows. -/
def State.alts (c : State) : List Nat :=
  if c.get Reg.RTU_FOLLOW_V = 0 then [0]
  else 0 :: (List.range 3).filterMap (fun i => if c.reg (Reg.RTU_REF_ALT i).ofs != 0 then some (i + 1) else none)

/-- Buffers that a ring of R54, R159 or R189 takes: ceil(Bmax ÷ T) and `extra` more. -/
def ringCount (bmax : Nat) (t : Rat) (extra : Nat) : Nat := if t ≤ 0 then extra else ceilQ (q bmax / t) + extra

/-- Buffers of one kind, with the geometry of Table MSS-5, still without addresses. -/
def ringBufs (k : BufKind) (unit inst n bytes stride w h bpp planar : Nat) (again : Bool) : List PlanBuf :=
  (List.range n).map (fun i => { kind := k, unit := unit, inst := inst, slot := i, base := 0, bytes := bytes, stride := stride, width := w, height := h,
                                 bpp := bpp, planar := planar, recomputable := again })

/-- Reconstructed pictures held per session (Table PCD-4). -/
def State.encHeld (c : State) (i : Nat) : Nat :=
  match c.get (Reg.PCD_SES_CFG_GOP_STRUCT i) with
  | 0 => 2 + c.get (Reg.PCD_SES_CFG_NUM_REF i)
  | 1 => 3 | 2 => 4 | _ => 5

/-- Row stride and bytes of a render path's buffer (R188). -/
def State.rpBuf (c : State) (p : Nat) : Nat × Nat :=
  let w := c.rpOw p
  let h := c.rpOh p
  let st := fun n => ceilDiv n 64 * 64
  match c.get (Reg.RP_ENC_CFG_FMT p) with
  | 0 => (st (4 * w), st (4 * w) * h)
  | 1 => (st (6 * w), st (6 * w) * h)
  | 2 => (st (2 * w), 2 * (st (2 * w) * h))
  | _ => (st (2 * w), st (2 * w) * (h + ceilDiv h 2))

/-- The buffers the plan lays out: raw, history, render and reconstruction buffers; `bound` is PATH_BOUND by path. -/
def State.planBufs (c : State) (paths : List PathIn) (bound : SMap Nat) : List PlanBuf :=
  let l := c.rfeLink
  let w := c.linkW l
  let h := c.linkH l
  let bmax := fun (p : PathIn → Bool) => maxN ((paths.filter p).map (fun x => SMap.getD bound 0 x.path))
  let t := (c.alts.map (fun a => periodUs (c.followRate l a))).foldl min (periodUs (c.followRate l 0))
  let raw := ringCount (bmax (fun x => x.units.contains 2)) t 2
  let hist := ringCount (bmax (fun x => x.units.contains 3)) t 2
  let rawBuf := fun (k : BufKind) (tap : Nat) =>
    ringBufs k 2 0 raw (rawStride w (c.tapSps tap) * h) (rawStride w (c.tapSps tap)) w h (2 * c.tapSps tap) 0 false
  (if c.rawSource && c.flag Reg.RFE_CFG_TAP_CORR then rawBuf .corrRaw 0 else []) ++
  (if c.rawSource && c.flag Reg.RFE_CFG_TAP_ORIG then rawBuf .origRaw 1 else []) ++
  (if c.rawSource && c.enabled .cse && c.get Reg.CSE_TNR_CFG_MODE != 0 then
    ringBufs .history 3 0 hist (ceilDiv (6 * w) 64 * 64 * h) (ceilDiv (6 * w) 64 * 64) w h 6 0 false
   else []) ++
  (List.range 8).flatMap (fun p =>
    if paths.any (fun x => x.rp == some p) then
      let b := c.rpBuf p
      let f := c.get (Reg.RP_ENC_CFG_FMT p)
      ringBufs .render 3 p (ringCount (bmax (fun x => x.rp == some p)) t 1) b.2 b.1 (c.rpOw p) (c.rpOh p)
        (if f = 0 then 4 else if f = 1 then 6 else 2) (if f = 3 then 1 else if f = 2 then 2 else 0) true
    else []) ++
  (paths.filter (fun x => x.kind == 3)).flatMap (fun x =>
    let p := c.get (Reg.PCD_SES_CFG_SRC_RP x.idx)
    let c422 := c.get (Reg.PCD_SES_CFG_PROFILE x.idx) == 2
    ringBufs .pcdRef 4 x.idx (c.encHeld x.idx) (refBytes (c.rpOw p) (c.rpOh p) c422) (refStride (c.rpOw p)) (c.rpOw p) (c.rpOh p) 0
      (if c422 then 2 else 1) false) ++
  (List.range 2).flatMap (fun k =>
    if c.enabled .pcd && c.flag (Reg.PCD_DEC_CFG_EN k) then
      ringBufs .pcdRef 4 (4 + k) 7 (c.decRef k) (refStride (c.get (Reg.PCD_DEC_MAX_W k))) (c.get (Reg.PCD_DEC_MAX_W k)) (c.get (Reg.PCD_DEC_MAX_H k)) 0 2 false
    else [])

/-- Bytes of the buffers that units hold at addresses of their own: motion field rings, decode and ingest rings, the event log, the
Lineage Table and the host write buffer. -/
def State.ownBytes (c : State) (paths : List PathIn) : Nat :=
  sumN ((paths.filter (fun x => x.kind == 3)).map (fun x =>
    let p := c.get (Reg.PCD_SES_CFG_SRC_RP x.idx)
    if c.flag (Reg.PCD_MF_CFG_EN x.idx) then 5 * (ceilDiv (4 * mfBlocks (c.rpOw p) (c.rpOh p)) 64 * 64) else 0)) +
  sumN ((List.range 2).map (fun k =>
    if c.enabled .pcd && c.flag (Reg.PCD_DEC_CFG_EN k) then
      c.get (Reg.PCD_DEC_CFG_OUT_COUNT k) * w422Bytes (c.get (Reg.PCD_DEC_MAX_W k)) (c.get (Reg.PCD_DEC_MAX_H k))
    else 0)) +
  sumN ((List.range 4).map (fun i =>
    if c.enabled .ore && c.flag (Reg.ORE_RI_CFG_EN i) then (c.get (Reg.ORE_RI_CFG_RING_M1 i) + 1) * w422Bytes (c.riFmtSize i).1 (c.riFmtSize i).2
    else 0)) +
  131072 + 8388608 + c.get Reg.HIF_WBUF_BYTES

/-- DRAM outside the clip store and the scratch space (R54, R331). -/
def State.planRoom (c : State) : Nat :=
  c.mss.capacity - 0x10000 * c.variant.channels - 4096 * (c.get Reg.MSS_CLIP_BLOCKS_LO + 2 ^ 32 * c.get Reg.MSS_CLIP_BLOCKS_HI)

/-! ### The whole ledger (R51 to R57, R320, R428, R476) -/

/-- What an accepted ledger run gives: bookings, slots, cover, bounds and buffers. -/
structure Booked where
  paths : List PathIn
  slots : SMap Nat
  cover : Nat
  /-- PATH_BOUND and PATH_BOUND_L0 by path -/
  bound : SMap Nat
  bound0 : SMap Nat
  bufs : List PlanBuf
  deriving DecidableEq, Repr

/-- One run of the ledger up to the cover: the refusal, or paths and cover, and what limits the cover. -/
def State.ledgerRun (c : State) (alt : Nat) : LedgerFail ⊕ (List PathIn × Nat × Option LedgerFail) :=
  let paths := c.traces alt
  match c.levelFail alt paths 0 with
  | some f => .inl f
  | none =>
    let r := c.coverFrom alt paths 8 0
    .inr (paths, r.1, r.2)

/-- The path's source follows the reference. -/
def State.srcFollows (c : State) (src : Nat) : Bool :=
  if src < 2 then bitAt (c.get Reg.RTU_FOLLOW_V) src else if 6 ≤ src then bitAt (c.get Reg.RTU_FOLLOW_V) (src + 4) else false

/-- Each path's largest bound over the runs, with T_sw for a path whose source follows (R320). -/
def State.boundsOver (c : State) (runs : List (List PathIn)) (f : PathIn → Nat) : SMap Nat :=
  (runs.headD []).foldl (fun m p =>
    let all := runs.filterMap (fun r => r.find? (fun x => x.path == p.path))
    let sw := if decide (1 < runs.length) && c.srcFollows p.src then ceilQ (maxQ (all.map (fun x => x.T))) else 0
    SMap.insert m p.path (maxN (all.map f) + sw)) []

/-- The ledger over every run: a refusal with the run it failed in, or what it books. -/
def State.ledger (c : State) (level : Nat) : (LedgerFail × Nat) ⊕ Booked :=
  let runs := c.alts.map (fun a => (a, c.ledgerRun a))
  match runs.findSome? (fun (a, r) => match r with | .inl f => some (f, a) | .inr _ => none) with
  | some x => .inl x
  | none =>
    let ok := runs.filterMap (fun (a, r) => match r with | .inl _ => none | .inr x => some (a, x))
    let cover := ok.foldl (fun m (_, x) => min m x.2.1) 8
    let need := max (c.get Reg.DEV_LDG_CTL_COVER_MIN) level
    match if cover < need then ok.find? (fun (_, x) => x.2.1 == cover) else none with
    | some (a, x) =>
      let f := x.2.2.getD (0x0D06, 0, 0, cover + 1)
      .inl ((0x0D06, f.2.1, f.2.2.1, f.2.2.2), a)
    | none =>
      let lists := ok.map (fun (_, x) => x.1)
      let paths := lists.headD []
      let bound := c.boundsOver lists (fun p => c.pathBound p cover)
      let bufs := c.planBufs paths bound
      if c.planRoom < sumN (bufs.map (fun b => b.bytes)) + c.ownBytes paths then .inl ((0x0D07, 4, 0, 0), 0)
      else
        let slots := ok.map (fun (a, x) => slotMap (c.slotList a x.1))
        .inr { paths := paths, cover := cover, bound := bound, bound0 := c.boundsOver lists (fun p => c.published p 0), bufs := bufs,
               slots := slots.foldl (fun (m : SMap Nat) (x : SMap Nat) =>
                 x.foldl (fun (m : SMap Nat) e => SMap.setD m 0 e.1 (max (SMap.getD m 0 e.1) e.2)) m) [] }

end Sys2Proof.Machine
end

