-- ==== Sys2Proof/Machine/Claims.lean ====
section
/-!
DEFINITION. The configuration a check evaluates, the resource claims and the other tests of the consistency check
(02_enabling_and_the_deadline_ledger.md, R32, R33, R38, R39, R43, R46, R47, R59; R9, R357, R424, R432).
-/

namespace Sys2Proof.Machine

/-! ### The configuration as it would stand (R32, R37, R40) -/

/-- Unit 0, or the unit of an ID, is present. -/
def Variant.hasId (v : Variant) (u : Nat) : Bool := u == 0 || ((UnitId.ofId u).map (fun x => v.has x)).getD false

/-- RWS registers of a window whose shadow copy differs from the copy in effect, by rising offset. -/
def State.shadowKeys (s : State) (u : Nat) : List Nat :=
  let mine := fun (k : Nat) => k / 0x100000 == u && (match Regs.find k with | some r => r.access == .rws | none => false)
  let m : SMap Unit := (s.shadow.map (fun e => e.1)).foldl (fun (m : SMap Unit) k => if mine k then SMap.insert m k () else m) []
  let m := (s.regs.map (fun e => e.1)).foldl (fun (m : SMap Unit) k => if mine k then SMap.insert m k () else m) m
  (m.map (fun e => e.1)).filter (fun k => s.reg k != s.shadowReg k)

/-- The shadow copies of a window take effect (R37). -/
def State.takeShadow (s : State) (u : Nat) : State := (s.shadowKeys u).foldl (fun (s : State) k => s.setReg k (s.shadowReg k)) s

/-- The values of the pending Change Set in place. -/
def State.withCs (s : State) : State :=
  match s.cs with
  | none => s
  | some c => c.vals.foldl (fun (s : State) a => s.setReg a.ofs ((a.val &&& a.mask) ||| (s.reg a.ofs &&& ~~~a.mask))) { s with cs := none }

/-- A unit that is disabled and finishes its frames counts as disabled; the SLR counts as enabled until its links have stopped (R92). -/
def State.asDisabled (s : State) : State :=
  UnitId.all.foldl (fun (c : State) u =>
    if u != .slr && (getN s.units u.id UnitSt.reset).leaving then c.put (Reg.UNIT_STATUS_ENABLED u.id) 0 else c) s

/-- The windows that a Change Set carries: unit IDs, 0 for the device-common window. -/
def State.csUnits (s : State) : List Nat := (List.range 13).filter (fun u => bitAt (s.get Reg.CS_MASK) u)

/-- The configuration if the unit were enabled. -/
def State.ifEnabled (s : State) (u : UnitId) : State := (s.withCs.asDisabled.takeShadow u.id).put (Reg.UNIT_STATUS_ENABLED u.id) 1

/-- The configuration with the Change Set in place. -/
def State.ifCommitted (s : State) : State := s.csUnits.foldl (fun (c : State) u => c.takeShadow u) s.withCs.asDisabled

/-! ### Claims (R38, Table LDG-1) -/

/-- Claims of program lanes: mode 0 to transmit, 1 to receive. -/
def State.laneClaims (c : State) : List Claim :=
  if !c.enabled .ore then []
  else
    (List.range c.variant.programLanes).flatMap (fun n =>
      if c.flag (Reg.ORE_PL_CFG_TX_EN n) then
        (List.range (groupLanes (c.get (Reg.ORE_PL_CFG_GROUP n)))).map (fun i =>
          { kind := 2, index := n + i, mode := 0, unit := 6, inst := n, ofs := (Reg.ORE_PL_CFG n).ofs % 0x100000 })
      else []) ++
    (List.range 4).flatMap (fun i =>
      if c.flag (Reg.ORE_RI_CFG_EN i) then
        (c.riLanes i).map (fun n => { kind := 2, index := n, mode := 1, unit := 6, inst := 0x20 + i, ofs := (Reg.ORE_RI_CFG i).ofs % 0x100000 })
      else [])

/-- Claims of an Ethernet port whose mode would change under a PTP slot that uses it: the slot's, in the mode in effect, and the ORE's. -/
def State.ethClaims (c old : State) : List Claim :=
  (List.range c.variant.ethPorts).flatMap (fun p =>
    let m := old.get (Reg.ORE_ETH_CFG_MODE p)
    let users := (List.range 2).filter (fun d => old.enabled .rtu && old.flag (Reg.RTU_PTP_CFG_EN d) &&
      old.flag (if p = 0 then Reg.RTU_PTP_CFG_ETH0 d else Reg.RTU_PTP_CFG_ETH1 d))
    match users.head? with
    | some d =>
      if m != 0 && c.get (Reg.ORE_ETH_CFG_MODE p) != m then
        [{ kind := 4, index := p, mode := 0, unit := 8, inst := d, ofs := (Reg.RTU_PTP_CFG d).ofs % 0x100000 },
         { kind := 4, index := p, mode := 0, unit := 6, inst := p, ofs := (Reg.ORE_ETH_CFG p).ofs % 0x100000 }]
      else []
    | none => [])

/-- Claims of Cell Pool queues: mode 0 as producer, 1 as consumer (R357). -/
def State.queueClaims (c : State) : List Claim :=
  c.queueUses.map (fun u => { kind := 6, index := u.queue, mode := b2n (!u.producer), unit := u.unit, inst := u.inst, ofs := u.ofs })

/-- Claims of declared paths: each takes the engines of its gang, or its session. -/
def State.pathClaims (c : State) : List Claim :=
  (List.range 64).flatMap (fun n =>
    let i := c.get (Reg.DEV_PATH_CFG_SINK_INDEX n)
    let ofs := (Reg.DEV_PATH_CFG n).ofs
    if !c.flag (Reg.DEV_PATH_CFG_DECLARED n) then []
    else
      match c.get (Reg.DEV_PATH_CFG_SINK_KIND n) with
      | 3 => if c.enabled .pcd then [{ kind := 9, index := i, mode := 0, unit := 0, inst := n, ofs := ofs }] else []
      | 4 =>
        if c.enabled .rpk && decide (i < 4) then
          (List.range (gangSize (c.get (Reg.RPK_ENG_CFG_GANG i)))).map (fun k => { kind := 8, index := i + k, mode := 0, unit := 0, inst := n, ofs := ofs })
        else []
      | _ => [])

/-- Every claim, holders before members, each by unit, instance, offset. -/
def State.claims (c old : State) (members : List Nat) : List Claim :=
  let l := c.pathClaims ++ c.laneClaims ++ c.ethClaims old ++ c.queueClaims
  let l := sortBy (fun (x : Claim) => x.unit * 2 ^ 40 + x.inst * 2 ^ 32 + x.ofs) l
  l.filter (fun x => !members.contains x.unit) ++ l.filter (fun x => members.contains x.unit)

/-- The first claim that meets a claim of another holder. -/
def firstConflict (l : List Claim) : Option (Claim × Claim) :=
  match l with
  | [] => none
  | x :: rest =>
    match rest.find? (fun y => (y.kind, y.index, y.mode) == (x.kind, x.index, x.mode) && (y.unit, y.inst) != (x.unit, x.inst)) with
    | some y => some (x, y)
    | none => firstConflict rest

/-- Reason code of a conflict: a second consumer has a code of its own (R357). -/
def conflictCode (x : Claim) : Nat := if x.kind = 6 ∧ x.mode = 1 then 0x0B32 else 0x0D02

/-! ### Other tests -/

/-- A declared path names a sink kind. -/
def State.declares (c : State) (kind i : Nat) : Bool :=
  (List.range 64).any (fun n => c.flag (Reg.DEV_PATH_CFG_DECLARED n) && c.get (Reg.DEV_PATH_CFG_SINK_KIND n) == kind &&
    c.get (Reg.DEV_PATH_CFG_SINK_INDEX n) == i)

/-- Sinks to which enabled units deliver frames and which no declared path names (R46, R47). -/
def State.undeclared (c : State) : List Rule :=
  (List.range 8).flatMap (fun g =>
    if c.enabled .ore && c.flag (Reg.ORE_TG_CFG_EN g) && c.get (Reg.ORE_TG_CFG_SRC_KIND g) != 3 then
      [(!(c.tgLanes g).isEmpty && !c.declares 1 g, 0x0D0B, Reg.ORE_TG_CFG g), (!(c.tgPorts g).isEmpty && !c.declares 8 g, 0x0D0B, Reg.ORE_TG_CFG g)] ++
      (c.tgSenders g).map (fun k => (!c.declares 2 k, 0x0D0B, Reg.ORE_TX_CFG k))
    else []) ++
  (List.range 4).map (fun i =>
    (c.enabled .ore && c.flag (Reg.ORE_RI_CFG_EN i) && c.flag (Reg.ORE_RI_CFG_CAPTURE i) && !c.declares 6 i, 0x0D0B, Reg.ORE_RI_CFG i)) ++
  (List.range 4).map (fun i => (c.enabled .pcd && c.flag (Reg.PCD_SES_CFG_EN i) && !c.declares 3 i, 0x0D0B, Reg.PCD_SES_CFG i)) ++
  (List.range 4).map (fun e =>
    let led := (List.range e).any (fun l => c.get (Reg.RPK_ENG_CFG_MODE l) == 1 && decide (e < l + gangSize (c.get (Reg.RPK_ENG_CFG_GANG l))))
    (c.enabled .rpk && c.get (Reg.RPK_ENG_CFG_MODE e) == 1 && !led && !c.declares 4 e, 0x0D0B, Reg.RPK_ENG_CFG e)) ++
  (List.range 8).map (fun p => (c.enabled .apu && c.flag (Reg.APU_PORT_REC_REC p) && !c.declares 7 p, 0x0D0B, Reg.APU_PORT_REC p))

/-- R59: the ranges of DEV_LDG_CTL. -/
def State.ledgerInputs (c : State) : Rule :=
  let t := c.get Reg.DEV_LDG_CTL_COP_TILE
  let u := c.get Reg.DEV_LDG_CTL_COP_UNIT
  let d := c.get Reg.DEV_LDG_CTL_COP_DRAM
  (decide (t < 1 ∨ 50 < t ∨ u < 1 ∨ 20 < u ∨ d < 1 ∨ 20 < d ∨ 8 < c.get Reg.DEV_LDG_CTL_COVER_MIN), 0x0D0C, Reg.DEV_LDG_CTL)

/-- R9: a Change Set that selects an absent unit, or a declared path whose sink is of an absent unit. -/
def State.absent (c : State) (masked : Bool) : List Rule :=
  [(masked && c.csUnits.any (fun u => !c.variant.hasId u), 0x0D01, Reg.CS_MASK)] ++
  (List.range 64).map (fun n =>
    let k := c.get (Reg.DEV_PATH_CFG_SINK_KIND n)
    (c.flag (Reg.DEV_PATH_CFG_DECLARED n) && ((k == 3 && !c.variant.has .pcd) || (k == 4 && !c.variant.has .rpk)), 0x0D01, Reg.DEV_PATH_CFG n))

/-- A temperature threshold field in 1 ÷ 16 °C. -/
def State.threshold (s : State) (f : Fld) : Int := toSigned 16 (s.get f)

/-- The coldest zone reads below LOW_STOP (R424). -/
def State.tooCold (s : State) : Bool := s.htp.sampled && s.htp.zones.toList.any (fun z => decide (z.temp < s.threshold Reg.HTP_THR_LOW_STOP))

/-- What stands against the enable of a unit before its own rules: temperature and power state. -/
def State.enableGate (s : State) (u : UnitId) : List Rule :=
  [(u.pixel && s.tooCold, 0x0C02, Reg.UNIT_CTL u.id),
   (u.pixel && (s.get Reg.HTP_PWR_STATUS_STATE == 1 || s.get Reg.HTP_PWR_STATUS_STATE == 2), 0x0C04, Reg.UNIT_CTL u.id)]

/-- R43: the path and the frame of an aligned commit. -/
def State.alignRules (s : State) : List Rule :=
  let p := s.get Reg.CS_APPLY_FRAME_PATH
  let d := (s.get Reg.CS_APPLY_FRAME_FRAME + 2 ^ 24 - s.pathCount p % 2 ^ 24) % 2 ^ 24
  let on := s.flag Reg.CS_APPLY_FRAME_ALIGN
  [(on && !s.plan.bookings.any (fun b => b.path == p && !b.leaving), 0x0D0A, Reg.CS_APPLY_FRAME),
   (on && decide (d = 0 ∨ 2 ^ 23 < d), 0x0D09, Reg.CS_APPLY_FRAME)]

/-! ### The verdict -/

/-- Why a check refuses: reason code, offset of the offending register in its window, the run of R320 that failed, the conflict
and the ledger's failing element. -/
structure NoGo where
  code : Nat
  ofs : Nat
  alt : Nat
  conflict : Option (Claim × Claim)
  fail : Option (Nat × Nat × Nat)
  deriving DecidableEq, Repr

/-- A refusal by a rule. -/
def NoGo.ofRule (r : Nat × Fld) (alt : Nat) : NoGo := { code := r.1, ofs := r.2.ofs % 0x100000, alt := alt, conflict := none, fail := none }

/-- The unit-local rules of every enabled unit under every reference rate (R320). -/
def State.checkRules (c old : State) : Option NoGo :=
  c.alts.findSome? (fun a => (UnitId.all.filter c.enabled).findSome? (fun u => (firstBad (c.unitRules old a u)).map (fun r => NoGo.ofRule r a)))

/-- The resource claims. -/
def State.checkClaims (c old : State) (members : List Nat) : Option NoGo :=
  (firstConflict (c.claims old members)).map (fun x => { code := conflictCode x.2, ofs := x.2.ofs, alt := 0, conflict := some x, fail := none })

/-- The deadline ledger: its inputs, the sinks, MANUAL (R342), and its arithmetic. -/
def State.checkLedger (c : State) (level : Nat) : NoGo ⊕ Booked :=
  match firstBad ([c.ledgerInputs] ++ c.undeclared ++ [(c.flag Reg.MSS_ARB_CFG_MANUAL && !(c.traces 0).isEmpty, 0x0904, Reg.MSS_ARB_CFG)]) with
  | some r => .inl (NoGo.ofRule r 0)
  | none =>
    match c.ledger level with
    | .inr b => .inr b
    | .inl (f, a) => .inl { code := f.1, ofs := 0, alt := a, conflict := none, fail := some f.2 }

/-- The three stages (R33), after the tests `first`. -/
def State.verdict (c old : State) (first last : List Rule) (members : List Nat) : NoGo ⊕ Booked :=
  match firstBad first with
  | some r => .inl (NoGo.ofRule r 0)
  | none =>
    match c.checkRules old with
    | some n => .inl n
    | none =>
      match c.checkClaims old members with
      | some n => .inl n
      | none =>
        match c.checkLedger old.level with
        | .inl n => .inl n
        | .inr b =>
          match firstBad last with
          | some r => .inl (NoGo.ofRule r 0)
          | none => .inr b

/-- The verdict on the enable of a unit. -/
def State.enableVerdict (s : State) (u : UnitId) : NoGo ⊕ Booked :=
  let c := s.ifEnabled u
  c.verdict s (s.enableGate u ++ c.absent false) [] [u.id]

/-- The verdict on the Change Set. -/
def State.commitVerdict (s : State) : NoGo ⊕ Booked :=
  let c := s.ifCommitted
  c.verdict s (c.absent true) s.alignRules s.csUnits

end Sys2Proof.Machine
end

