-- ==== Sys2Proof/Machine/Plan.lean ====
section
/-!
DEFINITION. The plan comes into force: bookings, published bounds, buffers and slot tables; and the plan is computed anew when a
unit is disabled (02_enabling_and_the_deadline_ledger.md, R35, R36, R39, R45, R54, R57, R58; R341, R346, R444).
-/

namespace Sys2Proof.Machine

/-! ### Buffers (R54, R346) -/

/-- Pages of 2 MiB that a range of bytes touches: first, and first beyond it. -/
def pagesOf (base bytes : Nat) : Nat × Nat := (base / pageBytes, ceilDiv (base + bytes) pageBytes)

/-- Page ranges that no plan buffer may use: the clip store, the scratch space (R331), the event log and the Lineage Table. -/
def State.fixedPages (s : State) : List (Nat × Nat) :=
  [pagesOf (s.addr40 Reg.MSS_CLIP_BASE_LO Reg.MSS_CLIP_BASE_HI) (4096 * (s.get Reg.MSS_CLIP_BLOCKS_LO + 2 ^ 32 * s.get Reg.MSS_CLIP_BLOCKS_HI)),
   pagesOf (s.mss.capacity - 0x10000 * s.variant.channels) (0x10000 * s.variant.channels),
   pagesOf (s.addr40 Reg.DEV_EVLOG_BASE_LO Reg.DEV_EVLOG_BASE_HI) 131072, pagesOf s.linBase 8388608]

/-- The first of the candidate pages at which n pages are free: `start`, the ends of the used ranges, 0. -/
def findPages (used : List (Nat × Nat)) (total n start : Nat) : Option Nat :=
  ((start % max 1 total) :: used.map (fun (r : Nat × Nat) => r.2) ++ [0]).find? (fun p =>
    decide (p + n ≤ total) && used.all (fun (r : Nat × Nat) => decide (p + n ≤ r.1 ∨ r.2 ≤ p)))

/-- The old buffer that a new one goes on using. -/
def PlanBuf.same (a b : PlanBuf) : Bool :=
  a.kind == b.kind && a.unit == b.unit && a.inst == b.inst && a.slot == b.slot && a.bytes == b.bytes && a.stride == b.stride &&
    a.width == b.width && a.height == b.height && a.bpp == b.bpp && a.planar == b.planar

/-- Place a plan's buffers: each keeps the place it had, or takes free pages, outside the buffers in use where it can. -/
def State.placeBufs (s : State) (seq : Nat) (bufs : List PlanBuf) : List PlanBuf :=
  let total := s.mss.capacity / pageBytes
  let fixed := s.fixedPages
  let old := s.plan.bufs.map (fun b => pagesOf b.base b.bytes)
  (bufs.foldl (fun (acc : List PlanBuf × List (Nat × Nat) × Nat) b =>
    let (l, used, i) := acc
    match s.plan.bufs.find? (fun o => o.same b) with
    | some o => (l ++ [{ b with base := o.base }], pagesOf o.base b.bytes :: used, i + 1)
    | none =>
      let n := max 1 (ceilDiv b.bytes pageBytes)
      let start := Config.planBase seq b.kind.code i
      let p := ((findPages (used ++ old) total n start).orElse (fun _ => findPages used total n start)).getD (start % max 1 total)
      (l ++ [{ b with base := p * pageBytes }], (p, p + n) :: used, i + 1)) ([], fixed, 0)).1

/-! ### Publication -/

/-- A booked path of a plan. -/
def PathIn.booking (p : PathIn) : Booking :=
  { path := p.path, src := p.src, kind := p.kind, idx := p.idx, chain := p.chain, units := p.units, leaving := false }

/-- Lowest throttle level that sheds a rank; 0 never. -/
def shedLevel (rank : Nat) : Nat := if rank = 0 then 0 else 8 - rank

/-- One path's registers follow the plan (R45, R57, R58). `rank` is none for a path that is not booked. -/
def State.publishPath (s : State) (b : Booked) (n : Nat) : State :=
  match b.paths.find? (fun p => p.path == n) with
  | some p =>
    let new := !s.plan.bookings.any (fun x => x.path == n && !x.leaving)
    let chans := List.range s.variant.channels
    let wait := if (chans.any (fun c => s.flag (Reg.MSS_SLOT_STATUS_PENDING c))) then chans ++ chans else chans
    let s := if new then s.setPath n (fun (x : PathSt) => { x with waitWrap := wait, graftShed := s.graftHolds p.booking, graftPassed := false }) else s
    s.puts [(Reg.DEV_PATH_BOUND n, SMap.getD b.bound 0 n), (Reg.DEV_PATH_BOUND_L0 n, SMap.getD b.bound0 0 n),
      (Reg.DEV_PATH_SHED_SHED_LEVEL n, shedLevel p.rank), (Reg.DEV_PATH_SHED_SHED_NOW n, b2n (s.pathShed n))]
  | none => s.puts [(Reg.DEV_PATH_BOUND n, 0), (Reg.DEV_PATH_BOUND_L0 n, 0), (Reg.DEV_PATH_SHED n, 0)]

/-- Units of which every booked path may be shed (R444): bit n for unit n. -/
def State.graftable (s : State) (paths : List PathIn) : Nat :=
  sumN ((UnitId.all.filter (fun u => u.pixel && s.variant.has u && (paths.filter (fun p => p.units.contains u.id)).all (fun p => p.rank != 0))).map
    (fun u => 2 ^ u.id))

/-- Slots of a plan go to the tables: at once, or when the copies have exchanged (R341). -/
def State.installSlots (s : State) (slots : List (Nat × Nat)) : State :=
  if s.flag Reg.MSS_ARB_CFG_MANUAL then s
  else if (List.range s.variant.channels).any (fun c => s.flag (Reg.MSS_SLOT_STATUS_PENDING c)) then
    { s with mss := { s.mss with slotsWait := some slots } }
  else s.writeSlotTables slots

/-- Bookings and buffers of the plan: what it books, and after it what leaves and still holds accepted frames. -/
def State.installPlan (s : State) (b : Booked) : State :=
  let seq := s.planSeq + 1
  let gone := s.plan.bookings.filter (fun x => !b.paths.any (fun p => p.path == x.path) && !(s.path x.path).inFlight.isEmpty)
  let bufs := s.placeBufs seq b.bufs
  let kept := if gone.isEmpty then [] else s.plan.bufs.filter (fun o => !bufs.any (fun x => x.kind == o.kind && x.inst == o.inst))
  let fresh := bufs.filter (fun x => !s.plan.bufs.contains x)
  let s := { s with
    planSeq := seq
    plan := { bookings := b.paths.map PathIn.booking ++ gone.map (fun x => { x with leaving := true }), bufs := bufs ++ kept, own := bufs.length }
    mss := { s.mss with lin := SMap.keep s.mss.lin (fun k => (bufs ++ kept).any (fun x => x.base == k) && !fresh.any (fun x => x.base == k)) } }
  fresh.foldl (fun (s : State) x => s.writeLineage x) s

/-- An accepted plan comes into force (R36, R54, R57, R341, R346, R444). -/
def State.publish (s : State) (b : Booked) : State :=
  let s := (List.range 64).foldl (fun (s : State) n => s.publishPath b n) s
  let s := (s.installPlan b).installSlots b.slots
  let s := s.puts [(Reg.DEV_LDG_STATUS_COVER, b.cover), (Reg.DEV_LDG_GRAFTABLE, s.graftable b.paths)]
  (s.bump Reg.DEV_LDG_STATUS_PLAN_SEQ).devRaise 3

/-! ### What follows the values in effect -/

/-- Swaps that wait for a boundary of an idle owner take place (R23, R114, R180, R182). -/
def State.idleSwaps (s : State) : State :=
  let s := if s.rfeIdle then s.tableSwap else s
  let s := if s.cseIdle then s.rpSwaps else s
  (List.range 8).foldl (fun (s : State) g => if (s.tg g).palPending && !s.flag (Reg.ORE_TG_CFG_EN g) then s.palSwap g else s) s

/-- Links, ingests, ports, sessions, grids and balls follow the configuration in effect. -/
def State.follow (s : State) : State :=
  let s := if (s.unit .slr).leaving then s else s.slrLinks
  (((s.oreSync).pcdSync).pruneGrids).gpioSync.idleSwaps

/-- The boundary of a path's source. -/
def srcBnd (src : Nat) : Bnd := if src < 2 then .link src else if src < 6 then .ri (src - 2) else .pcd (src - 2)

/-- An aligned PENDING Change Set has nothing to wait for (R44): its path is not booked, or its source is idle. -/
def State.csUnwaited (s : State) : Bool :=
  match s.cs with
  | some c => c.align && !s.plan.bookings.any (fun b => b.path == c.path && !b.leaving && !s.bndIdle (srcBnd b.src))
  | none => false

/-- A PENDING Change Set that has nothing to wait for applies whole; values of an idle owner apply (R23, R44). -/
def State.settleCs (s : State) : State :=
  if s.csUnwaited then s.applyCs (fun _ => true)
  else s.applyCs (fun a => !(a.bnd s == .none) && s.bndIdle (a.bnd s))

/-- The plan without the paths of units that were disabled (R35). It is never refused: where the ledger finds none, the other
paths keep their plan. -/
def State.replan (s : State) : State :=
  let c := s.asDisabled.put Reg.DEV_LDG_CTL_COVER_MIN 0
  let s := match c.ledger 0 with
    | .inr b => s.publish b
    | .inl _ =>
      let go := fun (b : Booking) => !(c.trace 0 b.path).isSome
      let s := (s.plan.bookings.filter go).foldl (fun (s : State) (b : Booking) =>
        s.puts [(Reg.DEV_PATH_BOUND b.path, 0), (Reg.DEV_PATH_BOUND_L0 b.path, 0), (Reg.DEV_PATH_SHED b.path, 0)]) s
      let l := (s.plan.bookings.filter (fun (b : Booking) => !go b || !(s.path b.path).inFlight.isEmpty)).map
        (fun (b : Booking) => { b with leaving := b.leaving || go b })
      let p : Plan := { s.plan with bookings := l }
      let s : State := { s with planSeq := s.planSeq + 1, plan := p }
      (s.bump Reg.DEV_LDG_STATUS_PLAN_SEQ).devRaise 3
  s.settleCs.follow.settleLeaving

/-- The SLR disables once neither link is STOPPING (R92), and its paths leave the plan; a Change Set aligned to a frame of a
link that stopped applies (R44). -/
def State.slrFinish (s : State) : State :=
  if (s.unit .slr).leaving && s.linkState 0 != 4 && s.linkState 1 != 4 then s.slrOff.replan
  else if s.csUnwaited then s.settleCs.follow else s

/-- A unit is disabled (R35): its ENABLE clears, its claims go, the plan drops its paths, and it goes on with the frames it has
accepted. The SLR stops its links first. -/
def State.disable (s : State) (u : UnitId) : State :=
  let s := s.put (Reg.UNIT_CTL_ENABLE u.id) 0
  if !s.enabled u || (s.unit u).leaving then s
  else
    match u with
    | .slr => (((s.setUnit .slr (fun (x : UnitSt) => { x with leaving := true })).stopLink 0).stopLink 1).slrFinish
    | .rtu => ((s.put (Reg.UNIT_STATUS_ENABLED 8) 0).rtuEnable false).replan
    | _ => (s.setUnit u (fun (x : UnitSt) => { x with leaving := true })).replan

/-- A unit is disabled and holds nothing back: its reset follows (R441). -/
def State.disableNow (s : State) (u : UnitId) : State :=
  let s := s.put (Reg.UNIT_CTL_ENABLE u.id) 0
  if !s.enabled u then s
  else
    match u with
    | .slr => s.slrOff.replan
    | .rtu => ((s.put (Reg.UNIT_STATUS_ENABLED 8) 0).rtuEnable false).replan
    | _ => (s.unitOff u).replan

end Sys2Proof.Machine
end

