-- ==== Sys2Proof/Machine/Check.lean ====
section
/-!
DEFINITION. The consistency check: enables, Change Sets, and the other requests serialised with them
(02_enabling_and_the_deadline_ledger.md, R32 to R44, R475; R23, R137, R320, R369, R370, R431, R441, R443, R445, R467).
-/

namespace Sys2Proof.Machine

/-! ### Refusals (R15, R33, R38, R476) -/

/-- What every refusal of a check records: the code, the conflict or the failing element, the alternative of R320, CHECK_REFUSED. -/
def State.noteNoGo (s : State) (n : NoGo) : State :=
  let s := s.put Reg.DEV_LDG_STATUS_LAST_REASON n.code
  let s := match n.conflict with
    | some (h, x) => s.setConflict h.kind h.index h.unit h.inst h.ofs x.unit x.inst x.ofs
    | none => s
  let s := match n.fail with
    | some (k, i, l) => s.puts [(Reg.DEV_LDG_FAIL_KIND, k), (Reg.DEV_LDG_FAIL_INDEX, i), (Reg.DEV_LDG_FAIL_LEVEL, l)]
    | none => s
  let s := if n.alt = 0 then s else s.put Reg.RTU_STATUS_ALT_FAIL n.alt
  s.devRaise 1

/-- A refusal recorded in a unit's UNIT_REFUSE at an offset of a window. -/
def State.refuseAt (s : State) (u : UnitId) (code ofs : Nat) : State := s.refuse u code ⟨0x100000 * u.id + ofs, 31, 0⟩

/-- A refused enable (R15). -/
def State.refuseEnable (s : State) (u : UnitId) (n : NoGo) : State :=
  ((s.put (Reg.UNIT_CTL_ENABLE u.id) 0).noteNoGo n).refuseAt u n.code n.ofs

/-- A refused Change Set (R33, R40). -/
def State.refuseCommit (s : State) (n : NoGo) : State :=
  let s := (s.puts [(Reg.CS_STATUS_STATE, 3), (Reg.CS_STATUS_REASON, n.code)]).noteNoGo n
  match UnitId.ofId (n.code / 256) with
  | some u => s.refuseAt u n.code n.ofs
  | none => s

/-! ### Enables (R32, R36, R37) -/

/-- What an enabled unit begins with. -/
def State.unitOn (s : State) (u : UnitId) : State :=
  match u with
  | .rfe => s.initEstimates 7
  | .cse => s.cseEnabled
  | .ore => s.oreEnable
  | .apu => s.apuEnable true
  | .rtu => s.rtuEnable true
  | _ => s

/-- An accepted enable: the shadow copies apply, the unit is enabled and the plan comes into force. -/
def State.acceptEnable (s : State) (u : UnitId) (b : Booked) : State :=
  let again := s.enabled u
  let s := s.pruneGrids.takeShadow u.id
  let s := (s.setUnit u (fun (x : UnitSt) => { x with leaving := false })).puts [(Reg.UNIT_CTL_ENABLE u.id, 1), (Reg.UNIT_STATUS_ENABLED u.id, 1)]
  let s := if again then s else s.unitOn u
  (s.publish b).settleCs.follow.settleLeaving

/-- The check of an enable completes. -/
def State.enableTurn (s : State) (u : UnitId) : State :=
  match s.enableVerdict u with
  | .inl n => (s.refuseEnable u n).devRaise 0
  | .inr b => (s.acceptEnable u b).devRaise 0

/-! ### Change Sets (R40 to R44, R475) -/

/-- The values of a Change Set: every RWS register of a selected window whose shadow copy differs; RTU_FOLLOW bit by bit, as each
bit applies with its own instance. -/
def State.csValues (s : State) : List Accepted :=
  s.csUnits.flatMap (fun u => (s.shadowKeys u).flatMap (fun k =>
    if k = Reg.RTU_FOLLOW.ofs then
      ((List.range 32).filter (fun n => bitAt (s.reg k).toNat n != bitAt (s.shadowReg k).toNat n)).map (fun n =>
        ({ ofs := k, val := s.shadowReg k, mask := BitVec.ofNat 32 (2 ^ n), since := s.now } : Accepted))
    else [({ ofs := k, val := s.shadowReg k, mask := 0xFFFFFFFF, since := s.now } : Accepted)]))

/-- The value takes effect with the acceptance: the device-common window (R475), a register of that commit point, a register of an
idle owner or of a disabled unit (R23), and without ALIGN a register without a boundary. -/
def Accepted.atOnce (s : State) (align : Bool) (a : Accepted) : Bool :=
  let u := a.ofs / 0x100000
  u == 0 || (match Regs.find a.ofs with | some r => r.commit == .accept | none => false) ||
  ((UnitId.ofId u).map (fun x => !s.enabled x)).getD false ||
  (match a.bnd s with
   | .none => !align
   | b => s.bndIdle b)

/-- Geometry registers of R137, of the RFE and of the link bound to it. -/
def State.geometry (s : State) : List Nat :=
  let l := s.rfeLink
  [s.get Reg.RFE_CFG_LINK, s.get Reg.RFE_CFG_CFA, s.get Reg.RFE_CFG_PHASE, (s.reg Reg.RFE_ORIGIN.ofs).toNat, (s.reg Reg.RFE_DG_CFG.ofs).toNat,
   (s.reg Reg.RFE_DG_PED.ofs).toNat, (s.reg Reg.RFE_DG_KNEE.ofs).toNat, (s.reg (Reg.SLR_LINK_FMT l).ofs).toNat, (s.reg (Reg.SLR_LINK_OB l).ofs).toNat,
   s.get (Reg.SLR_LINK_CFG_PACK l), s.get (Reg.SLR_LINK_CFG_DG l)]

/-- An accepted Change Set: PENDING with its values, of which some apply at once, and the plan in force. -/
def State.acceptCommit (s : State) (b : Booked) : State :=
  let c := s.ifCommitted
  let chmap := s.reg Reg.RFE_CHMAP.ofs != c.reg Reg.RFE_CHMAP.ofs
  let s := if chmap || s.geometry != c.geometry then s.calGeometry (if chmap then 5 else 0) else s
  let align := s.flag Reg.CS_APPLY_FRAME_ALIGN
  let p : PendingCs := { align := align, path := s.get Reg.CS_APPLY_FRAME_PATH, frame := s.get Reg.CS_APPLY_FRAME_FRAME, vals := s.csValues }
  let s := ({ s with cs := some p }).put Reg.CS_STATUS_STATE 2
  let s := s.applyCs (fun a => a.atOnce s align)
  (s.publish b).settleCs.follow

/-- The check of a Change Set completes. -/
def State.commitTurn (s : State) : State :=
  match s.commitVerdict with
  | .inl n => (s.refuseCommit n).devRaise 0
  | .inr b => (s.acceptCommit b).devRaise 0

/-! ### Requests that take their turn -/

/-- A write to DEV_GPIO_FN(n) (R467). -/
def State.gpioFnWrite (s : State) (n : Nat) (v : Word) : State :=
  let fn := bits v.toNat 31 28
  let i := bits v.toNat 27 24
  let top := ([15, 7, 1, 15, 7, 15, 1] : List Nat).getD fn 0
  let old := s.get (Reg.DEV_GPIO_FN_FN n)
  let ofs := (Reg.DEV_GPIO_FN n).ofs
  if 6 < fn ∨ top < i then s.put Reg.DEV_LDG_STATUS_LAST_REASON 0x0D11
  else
    match gpioOwner old, gpioOwner fn with
    | some h, some c =>
      if s.enabled h && h != c then
        (s.setConflict 1 n h.id (s.get (Reg.DEV_GPIO_FN_INDEX n)) ofs c.id i ofs).put Reg.DEV_LDG_STATUS_LAST_REASON 0x0D02
      else (({ s with gpioPulse := s.gpioPulse.filter (fun m => m != n) }).setReg ofs (v &&& 0xFF000003)).gpioSync
    | _, _ => (({ s with gpioPulse := s.gpioPulse.filter (fun m => m != n) }).setReg ofs (v &&& 0xFF000003)).gpioSync

/-- A transition that Table HTP-4 lists. -/
def powerListed (st target : Nat) : Bool :=
  (st == 0 && decide (1 ≤ target ∧ target ≤ 4)) || (st == 1 && (target == 0 || decide (2 ≤ target ∧ target ≤ 4))) ||
    (st == 2 && (target == 0 || target == 3 || target == 4))

/-- A power command takes its turn (R402, R431): refused, or the transition begins. -/
def State.powerTurn (s : State) (target : Nat) (cid : Option Nat) : State :=
  let st := s.get Reg.HTP_PWR_STATUS_STATE
  if s.flag Reg.HTP_PWR_STATUS_BUSY || !powerListed st target || (st == 0 && UnitId.all.any (fun u => u.pixel && s.enabled u)) then
    match cid with
    | some c => s.complete 0 c 0x10 0
    | none => s.refuse .htp 0x0C04 Reg.HTP_PWR_CTL
  else
    let s := s.puts [(Reg.HTP_PWR_STATUS_BUSY, 1), (Reg.HTP_PWR_STATUS_TARGET, target)]
    let s := { s with htp := { s.htp with hostCmd := cid } }
    if target = 2 ∨ target = 3 then { s with hif := { s.hif with heldFrom := some (s.hif.heldFrom.getD s.hif.order) } } else s

/-- A reset request takes its turn (R441, R443); the units that Heartwood enables stay enabled (R485). -/
def State.resetNow (s : State) (u : UnitId) : State := (if u.heartwood then s else s.disableNow u).resetTurn u

/-- A request takes its turn. -/
def State.turn (s : State) (r : CheckReq) : State :=
  match r with
  | .enable u => s.enableTurn u
  | .disable u => s.disable u
  | .commit => s.commitTurn
  | .reset u => s.resetNow u
  | .power target cid => s.powerTurn target cid
  | .gpio n v => s.gpioFnWrite n v
  | .wrPort k v => s.writePortCfg k v
  | .rdPort k v => s.readPortCfg k v

/-- A request that is no check of R32: it takes its turn as soon as the one before it is done. -/
def CheckReq.quick : CheckReq → Bool
  | .enable _ => false
  | .commit => false
  | _ => true

/-- The quick requests at the front take their turns. -/
def State.quickTurns (s : State) (fuel : Nat) : State :=
  match fuel with
  | 0 => s
  | n + 1 =>
    match s.checks with
    | [] => s
    | r :: rest => if r.quick then (({ s with checks := rest }).turn r).quickTurns n else s

/-- The check in progress completes (R33, R34). -/
def State.runCheck (s : State) : State :=
  match s.checks with
  | [] => s
  | r :: rest => (({ s with checks := rest }).turn r).quickTurns rest.length

/-- A request that is serialised with checks: at once where none is in progress (R34). -/
def State.inTurn (s : State) (r : CheckReq) : State :=
  if s.checks.isEmpty && r.quick then s.turn r else { s with checks := s.checks ++ [r] }

/-! ### UNIT_CTL and CS_COMMIT -/

/-- 1 written to ENABLE (R32): no effect where it reads 1 already. -/
def State.enableWrite (s : State) (u : UnitId) : State :=
  if s.flag (Reg.UNIT_CTL_ENABLE u.id) then s else (s.put (Reg.UNIT_CTL_ENABLE u.id) 1).inTurn (.enable u)

/-- 0 written to ENABLE (R35, R485): after the unit's own check where that is in progress. -/
def State.disableWrite (s : State) (u : UnitId) : State :=
  if u.heartwood then s
  else if s.checks.contains (.enable u) then { s with checks := s.checks ++ [.disable u] }
  else s.disable u

/-- 1 written to RESET_REQ (R441, R443): no effect while the unit is removing already. -/
def State.resetWrite (s : State) (u : UnitId) : State :=
  let busy := match (s.unit u).removal with
    | some r => r.cause != .graft
    | none => false
  if busy || (s.unit u).reqReset then s else (s.put (Reg.UNIT_CTL_RESET_REQ u.id) 1).inTurn (.reset u)

/-- 1 written to GRAFT_REQ (R444, R445). -/
def State.graftWrite (s : State) (u : UnitId) : State :=
  if (s.unit u).graft != .idle || (s.unit u).removal.isSome then s
  else if u.pixel && ((s.unitPaths u).filter (fun b => !b.leaving)).all (fun b => s.get (Reg.DEV_PATH_CFG_SHED_RANK b.path) != 0) then
    (s.put (Reg.UNIT_CTL_GRAFT_REQ u.id) 1).graftAccept u
  else s.refuseAt u 0x0D0D 8

/-- 1 written to CS_COMMIT (R40, R41). -/
def State.commitWrite (s : State) : State :=
  let st := s.get Reg.CS_STATUS_STATE
  if st = 1 ∨ st = 2 then s.put Reg.DEV_LDG_STATUS_LAST_REASON 0x0D08
  else (s.puts [(Reg.CS_STATUS_STATE, 1), (Reg.CS_STATUS_DROPPED, 0)]).inTurn .commit

/-! ### Idle (R23, R44) -/

/-- A frame of the owner is open. -/
def State.bndBusy (s : State) (b : Bnd) : Bool :=
  match b with
  | .none => true
  | .wrap _ => true
  | .link l => (s.link l).frame.isSome
  | .rfe => s.rfe.frame.isSome
  | .scene => s.cse.scene.isSome
  | .pcd i => if i < 4 then (s.enc i).pic.isSome else (s.dec (i - 4)).frame.isSome
  | .rpk e => (s.eng e).job.isSome
  | .tg g => (s.tg g).activeNs.isSome
  | .ri i => (s.ri i).frame.isSome
  | .apu _ => false

/-- Two frame periods have passed since the owner's last frame ended: it is idle, and values that wait for its boundary take effect;
an aligned Change Set does not wait for an idle source. An owner that is idle since its source stopped takes them too. -/
def State.goIdle (s : State) (b : Bnd) : State :=
  if s.bndBusy b then s
  else
    let s := if s.bndIdle b then s else { s with idle := s.idle ++ [b] }
    s.settleCs.follow

/-! ### The commands -/

def execUnitEnable (t : Nat) (u : UnitId) (s : State) : Res := .next ((s.tick t).ctlCommon u.id (Reg.UNIT_CTL u.id) (fun s => s.enableWrite u))
def execUnitDisable (t : Nat) (u : UnitId) (s : State) : Res := .next ((s.tick t).ctlCommon u.id (Reg.UNIT_CTL u.id) (fun s => s.disableWrite u))
def execCsCommit (t : Nat) (s : State) : Res :=
  .next ((s.tick t).ctlCommon 0 Reg.CS_COMMIT (fun s => (s.setReg Reg.CS_COMMIT.ofs 1).commitWrite))
def execConsistencyCheck (t : Nat) (s : State) : Res := .next (s.tick t).runCheck
def execUnitIdle (t : Nat) (b : Bnd) (s : State) : Res := .next ((s.tick t).goIdle b)
def execResetReq (t : Nat) (u : UnitId) (s : State) : Res := .next ((s.tick t).ctlCommon u.id (Reg.UNIT_CTL u.id) (fun s => s.resetWrite u))
def execGraftReq (t : Nat) (u : UnitId) (s : State) : Res := .next ((s.tick t).ctlCommon u.id (Reg.UNIT_CTL u.id) (fun s => s.graftWrite u))
def execGpioFnWrite (t : Nat) (n : Fin 32) (v : Word) (s : State) : Res :=
  .next ((s.tick t).ctlCommon 0 (Reg.DEV_GPIO_FN n) (fun s => s.inTurn (.gpio n v)))
def execGpioPulseEnd (t : Nat) (n : Fin 32) (s : State) : Res := .next ((s.tick t).gpioEnd n)
def execCpWrCfgWrite (t : Nat) (k : Fin 8) (v : Word) (s : State) : Res :=
  .next ((s.tick t).ctl .scc true (Reg.SCC_CP_WR_CFG k) (fun s => s.inTurn (.wrPort k v)))
def execCpRdCfgWrite (t : Nat) (k : Fin 8) (v : Word) (s : State) : Res :=
  .next ((s.tick t).ctl .scc true (Reg.SCC_CP_RD_CFG k) (fun s => s.inTurn (.rdPort k v)))

/-- The drain window of a unit ends; a unit that its reset disables leaves the plan (R35, R441). -/
def State.drainFinish (s : State) (u : UnitId) : State :=
  let t := s.drainEnd u
  if s.enabled u && !t.enabled u then t.replan else t

def execDrainEnd (t : Nat) (u : UnitId) (s : State) : Res := .next ((s.tick t).drainFinish u)

/-! Commands that may close the last frame of a link that stops (R92). -/

def execFs (t : Nat) (link : Fin 2) (pkt : List Nat) (s : State) : Res := .next ((s.tick t).packet link 1 pkt).slrFinish
def execFe (t : Nat) (link : Fin 2) (pkt : List Nat) (s : State) : Res := .next ((s.tick t).packet link 2 pkt).slrFinish
def execLs (t : Nat) (link : Fin 2) (pkt : List Nat) (s : State) : Res := .next ((s.tick t).packet link 3 pkt).slrFinish
def execEmb (t : Nat) (link : Fin 2) (pkt : List Nat) (s : State) : Res := .next ((s.tick t).packet link 4 pkt).slrFinish
def execStat (t : Nat) (link : Fin 2) (pkt : List Nat) (s : State) : Res := .next ((s.tick t).packet link 5 pkt).slrFinish
def execHeaderError (t : Nat) (link : Fin 2) (pkt : List Nat) (s : State) : Res := .next ((s.tick t).headerError link pkt).slrFinish
def execLineDeadline (t : Nat) (link : Fin 2) (s : State) : Res := .next ((s.tick t).lineDeadline link).slrFinish
def execPatternFrameClose (t : Nat) (link : Fin 2) (s : State) : Res := .next ((s.tick t).patternClose link).slrFinish
def execRunoutTimeout (t : Nat) (link : Fin 2) (s : State) : Res := .next ((s.tick t).checkStopped link).slrFinish
def execStop (t : Nat) (link : Fin 2) (word : Nat) (s : State) : Res :=
  .next ((s.tick t).cmd .slr true (Reg.SLR_LINK_CTL link) ((word ||| 2) % 16) (fun s => s.linkCtl link (word ||| 2))).slrFinish

end Sys2Proof.Machine
end

