-- ==== Sys2Proof/Machine/HifCmd.lean ====
section
/-!
DEFINITION. Commands of the host interface: queue pairs, clip store commands, admin commands, the write buffer, the DRAM
aperture, MSI-X and the PCIe link (15_host_interface.md, R375 to R403, R404; R418 of 16_boot_and_security.md; R458).
-/

namespace Sys2Proof.Machine

/-- The HIF works and the PCIe link is up, so that it reaches the host and the host reaches it. -/
def State.hostUp (s : State) : Bool := s.on .hif && decide (2 ≤ s.get Reg.HIF_LINK_STATUS_STATE) && !s.hif.stopped

/-! ### MSI-X (R379) -/

/-- Pending vectors that are open now send their messages. -/
def State.sendPending (s : State) : State :=
  (List.range 2048).foldl (fun (s : State) v =>
    let f : Fld := ⟨(Reg.HIF_MSIX_PBA (v / 32)).ofs, v % 32, v % 32⟩
    if s.flag f && s.vectorOpen v then (s.put f 0).sendVector v else s) s

/-- The mask of a vector's table entry, or the function mask, is written. -/
def State.maskVector (s : State) (v : Option (Fin 2048)) (masked : Bool) : State :=
  let s := match v with
    | some v => s.putB (Reg.HIF_MSIX_VCTL_MASK v.val) masked
    | none => { s with hif := { s.hif with fnMask := masked } }
  s.sendPending

/-! ### Queue pairs (R382, R383) -/

/-- Snapshots for outstanding commands that pass a test are given up. -/
def State.dropSnaps (s : State) (p : Nat → Nat → Bool) : State :=
  let gone := fun (d : SnapDest) => match d with
    | .host q cid _ _ => p q cid
    | .dram _ => false
  let s := { s with snap := { s.snap with waiting := s.snap.waiting.filter (fun d => !gone d) } }
  match s.snap.writing with
  | some (d, _) => if gone d then ({ s with snap := { s.snap with writing := none } }).snapNext else s
  | none => s

/-- A pair is disabled: its commands and completions are discarded (R404). -/
def State.qpOff (s : State) (q : Nat) : State :=
  let s := (s.setQp q (fun _ => QpSt.reset)).puts [(Reg.HIF_QP_CFG_EN q, 0), (Reg.HIF_QP_STATUS_STATE q, 0)]
  let s := { s with hif := { s.hif with descs := s.hif.descs.filter (fun d => d.q != q) } }
  let s := s.dropSnaps (fun r _ => r == q)
  if q = 0 then { s with
    hif := { s.hif with aev := [] }
    htp := { s.htp with hostCmd := none }
    checks := s.checks.map (fun r => match r with
      | .power t _ => .power t none
      | r => r) }
  else s

/-- Every pair is disabled. -/
def State.qpsOff (s : State) : State := (List.range 64).foldl (fun (s : State) q => s.qpOff q) s

/-- A write to HIF_QP_CFG(q). -/
def State.qpCfgWrite (s : State) (q v : Nat) : State :=
  let f := Reg.HIF_QP_CFG q
  let en := bitAt v 31
  let v := if q = 0 then setBits v 10 0 0 else v
  if s.flag (Reg.HIF_QP_CFG_EN q) then
    if en then s.refuse .hif 0x0A02 f else if q = 0 then s.qpsOff else s.qpOff q
  else if !en then s.setReg f.ofs (BitVec.ofNat 32 (v &&& 0x0FFF07FF))
  else if s.get (Reg.HIF_SQ_BASE_LO q) % 4096 ≠ 0 ∨ s.get (Reg.HIF_CQ_BASE_LO q) % 4096 ≠ 0 ∨ bits v 27 16 = 0 then
    s.refuse .hif 0x0A01 f
  else if q ≠ 0 ∧ !s.flag (Reg.HIF_QP_CFG_EN 0) then s.refuse .hif 0x0A03 f
  else
    ((s.setReg f.ofs (BitVec.ofNat 32 (v &&& 0x8FFF07FF))).setQp q (fun _ => QpSt.reset)).puts
      [(Reg.HIF_QP_STATUS_STATE q, 1), (Reg.HIF_QP_STATUS_SQ_HEAD q, 0), (Reg.HIF_SQ_TAIL q, 0), (Reg.HIF_CQ_HEAD q, 0),
       (Reg.HIF_CQ_TAIL_TAIL q, 0), (Reg.HIF_CQ_TAIL_PHASE q, 1)]

/-- A base register of a pair is written (R382). -/
def State.qpBaseWrite (s : State) (q : Nat) (f : Fld) (v : Nat) : State :=
  if s.flag (Reg.HIF_QP_CFG_EN q) then s.refuse .hif 0x0A02 f else s.setReg f.ofs (BitVec.ofNat 32 v)

/-- A write to the SQ doorbell. -/
def State.sqDoorbell (s : State) (q v : Nat) : State :=
  if !s.hostUp ∨ s.qpState q = 0 then s
  else
    let s := s.put (Reg.HIF_SQ_TAIL q) v
    if s.qpDepth q ≤ v ∧ s.qpState q ≠ 2 then s.qpError q else s

/-- A write to the CQ doorbell: the entries up to the new head are free. -/
def State.cqDoorbell (s : State) (q v : Nat) : State :=
  if !s.hostUp ∨ s.qpState q = 0 then s
  else
    let d := s.qpDepth q
    let old := s.get (Reg.HIF_CQ_HEAD q)
    let tail := s.get (Reg.HIF_CQ_TAIL_TAIL q)
    let s := s.put (Reg.HIF_CQ_HEAD q) v
    if d ≤ v ∨ (tail + d - old) % d < (v + d - old) % d then (if s.qpState q = 2 then s else s.qpError q)
    else if q = 0 then s.flushAev else s

/-! ### Submission entries (Table HIF-3, R386, R387, R397) -/

/-- The fields of a submission entry. -/
def HostCmd.ofEntry (b : List Byte) (sqHead order : Nat) : HostCmd :=
  { op := leVal (bytesAt b 0 1), flags := leVal (bytesAt b 1 1), cid := leVal (bytesAt b 2 2), dptr1 := leVal (bytesAt b 8 8)
    dptr2 := leVal (bytesAt b 16 8), slba := leVal (bytesAt b 24 8), nblk := leVal (bytesAt b 32 4), arg0 := leVal (bytesAt b 36 4)
    arg1 := leVal (bytesAt b 40 4), sqHead := sqHead, order := order }

/-- The take form of TRIM. -/
def HostCmd.takeForm (c : HostCmd) : Bool := c.op == 4 && c.flags % 2 == 1

/-- The command names a range of blocks. -/
def HostCmd.ranged (c : HostCmd) : Bool := c.op == 1 || c.op == 2 || (c.op == 4 && !c.takeForm)

/-- Bytes of the command's data buffer; 0 for a command without one. -/
def HostCmd.bufBytes (c : HostCmd) : Nat :=
  if c.op = 1 ∨ c.op = 2 ∨ c.op = 0x82 ∨ c.op = 0x87 then 4096 * c.nblk else if c.op = 0x81 then 4096 else 0

/-- Further pages of a buffer of n bytes. -/
def HostCmd.morePages (c : HostCmd) : Nat := ceilDiv (c.bufBytes - (4096 - c.dptr1 % 4096)) 4096

/-- DPTR1 and DPTR2 follow R386. -/
def HostCmd.pointersOk (c : HostCmd) : Bool :=
  c.bufBytes == 0 || (c.dptr1 % 4 == 0 &&
    (match c.morePages with
     | 0 => c.dptr2 == 0
     | 1 => c.dptr2 % 4096 == 0
     | _ => c.dptr2 % 8 == 0))

/-- Opcodes of the admin pair and of the I/O pairs (Table HIF-5). -/
def opKnown (q op : Nat) : Bool := if q = 0 then decide (0x81 ≤ op ∧ op ≤ 0x87) else decide (1 ≤ op ∧ op ≤ 6)

/-- Blocks of [a, a + n) that lie in an area. -/
def blocksIn (a n start len : Nat) : Nat := min (a + n) (start + len) - max a start

/-- The status with which a fetched command completes at once, if any. -/
def State.entryStatus (s : State) (q : Nat) (c : HostCmd) (b : List Byte) : Nat :=
  let x := s.qp q
  if x.outstanding.any (fun d => d.cid == c.cid) || x.ready.any (fun d => d.cid == c.cid) then 0x03
  else if !opKnown q c.op then 0x01
  else if q = 0 ∧ c.cid = 0xFFFF then 0x02
  else if leVal (bytesAt b 4 4) ≠ 0 ∨ leVal (bytesAt b 44 20) ≠ 0 ∨ c.flags / 2 ≠ 0 ∨ (c.flags ≠ 0 ∧ c.op ≠ 4) then 0x02
  else if (c.ranged || c.op == 0x82 || c.op == 0x87) && !decide (1 ≤ c.nblk ∧ c.nblk ≤ 262144) then 0x02
  else if !c.pointersOk then 0x02
  else if (c.op = 0x85 ∧ 4 < c.arg0 % 8) ∨ (c.op = 0x87 ∧ c.nblk < 8) ∨ (c.op = 1 ∧ s.get Reg.HIF_WBUF_BYTES < 4096 * c.nblk) then 0x02
  else if c.ranged && decide (s.clip.blocks < c.slba + c.nblk) then 0x07
  else if c.ranged && c.op != 2 &&
      blocksIn c.slba c.nblk s.clip.metaStart s.clip.metaBlocks + blocksIn c.slba c.nblk s.clip.userStart s.clip.userBlocks != c.nblk then 0x08
  else 0

/-- The pair whose entry is fetched next: the admin SQ first, then the I/O SQs in rotation (R384). -/
def State.nextPair (s : State) : Option Nat :=
  let has := fun q => (s.qpState q == 1 || s.qpState q == 3) && s.get (Reg.HIF_QP_STATUS_SQ_HEAD q) != s.get (Reg.HIF_SQ_TAIL q)
  if has 0 then some 0 else (List.range 63).map (fun k => (s.hif.lastIo + k) % 63 + 1) |>.find? has

/-- A command waits for PS0 (R402). -/
def State.cmdHeld (s : State) (c : HostCmd) : Bool :=
  match s.hif.heldFrom with
  | some n => decide (n ≤ c.order) && c.op != 0x85
  | none => false

/-- A submission entry is fetched; `err` says that the host's answer was an error or poisoned. -/
def State.sqFetch (s : State) (entry : List Byte) (err : Bool) : State :=
  if !s.hostUp ∨ s.flag Reg.HTP_SHUTDOWN_STATUS_SHUTDOWN then s
  else
    match s.nextPair with
    | none => s
    | some q =>
      let head := (s.get (Reg.HIF_QP_STATUS_SQ_HEAD q) + 1) % s.qpDepth q
      let s := ((s.put (Reg.HIF_QP_STATUS_SQ_HEAD q) head).count Reg.HIF_CNT_CMD 1)
      let (v, s) := s.fresh
      let s := { s with hif := { s.hif with order := s.hif.order + 1, lastIo := if q = 0 then s.hif.lastIo else q } }
      let c := HostCmd.ofEntry entry head (s.hif.order - 1)
      if err then s.completeAfter q (v % 65536) head 0x04 0 none
      else
        match s.entryStatus q c entry with
        | 0 =>
          let s := s.setQp q (fun x => { x with outstanding := x.outstanding ++ [c] })
          if s.cmdHeld c then s.put (Reg.HIF_QP_STATUS_STATE q) 3 else s
        | st => s.completeAfter q c.cid head st 0 none

/-- A command that executes: fetched, of one of the opcodes, and not held. -/
def State.running (s : State) (q cid : Nat) (op : Nat) : Option HostCmd :=
  if !s.hostUp ∨ s.qpState q = 0 then none
  else (s.hostCmd q cid).filter (fun c => c.op == op && !s.cmdHeld c)

/-- Pages of a command's buffer after the first, of the page list read from the host; none where the list is malformed
(R386). -/
def HostCmd.further (c : HostCmd) (list : List Nat) : Option (List Nat) :=
  match c.morePages with
  | 0 => some []
  | 1 => some [c.dptr2]
  | n => if n ≤ list.length ∧ (list.take n).all (fun p => p % 4096 == 0) then some (list.take n) else none

/-! ### Completions (R384, R385) -/

/-- The oldest completion of a pair that may be posted is written to the CQ. -/
def State.postCompletion (s : State) (q : Nat) : State :=
  if !s.hostUp ∨ !s.cqRoom q then s
  else
    let waits := fun (c : Completion) => match c.after with
      | some (r, cid) => (s.qp r).outstanding.any (fun d => d.cid == cid) || (s.qp r).ready.any (fun d => d.cid == cid)
      | none => false
    match (s.qp q).ready.find? (fun c => !waits c) with
    | none => s
    | some c => (s.setQp q (fun x => { x with ready := x.ready.erase c })).cqWrite q c.result c.sqHead c.cid c.status

/-- The coalescing time of a pair expires (feature 0x01). -/
def State.coalesceEnd (s : State) (q : Nat) : State :=
  let x := s.qp q
  let w := s.hif.feature1 / 256 % 256 * 10000
  if !s.hostUp ∨ x.coalesced = 0 ∨ (s.hif.feature1 ≠ 0 ∧ (w = 0 ∨ s.mediaNs < x.coalescedAt + w)) then s
  else (s.setQp q (fun x => { x with coalesced := 0 })).sendVector (if q = 0 then 0 else s.get (Reg.HIF_QP_CFG_VECTOR q))

/-! ### Clip store commands (R388 to R393) -/

/-- Data of the write buffer laid over data of the store that begins at block `a`. -/
def overlay (l : List WbufEntry) (a : Nat) (data : List Byte) : List Byte :=
  l.foldl (fun (d : List Byte) e =>
    let n := data.length / 4096
    let lo := max a e.slba
    let hi := min (a + n) (e.slba + e.nblk)
    if lo < hi then putBytes d (4096 * (lo - a)) (bytesAt e.data (4096 * (lo - e.slba)) (4096 * (hi - lo))) else d) data

/-- READ transfers its blocks. `bad` names the bursts that fail on retry, by their number in the data, with their bytes as
read (R390). -/
def State.hostRead (s : State) (q cid : Nat) (list : List Nat) (bad : List (Nat × List Byte)) (hostErr : Bool) : State :=
  match s.running q cid 2 with
  | none => s
  | some c =>
    match c.further list with
    | none => s.complete q cid 0x02 0
    | some pages =>
      if hostErr then s.complete q cid 0x04 0
      else
        let a := s.blockAddr c.slba
        let covered := fun (k : Nat) => s.hif.wbuf.any (fun e => decide (e.slba ≤ c.slba + k ∧ c.slba + k < e.slba + e.nblk))
        let lost := (List.range c.nblk).filter (fun k => !covered k &&
          ((List.range 64).any (fun j => s.burstPoisoned (a + 4096 * k + 64 * j)) || bad.any (fun b => b.1 / 64 == k)))
        let raw := bad.foldl (fun (d : List Byte) b => putBytes d (64 * b.1) (bytesAt b.2 0 64)) (s.read a (4096 * c.nblk))
        let s := s.toHost c.dptr1 pages (overlay s.hif.wbuf c.slba raw)
        match lost with
        | [] => s.complete q cid 0 0
        | k :: _ =>
          let s := lost.foldl (fun (s : State) k => s.logError q cid 0x09 (c.slba + k) 1) (s.count Reg.HIF_CNT_DATA_ERR 1)
          s.complete q cid 0x09 k

/-- Bytes of the write buffer in use. -/
def State.wbufShow (s : State) : State := s.put Reg.HIF_WBUF_USED (sumN (s.hif.wbuf.map (fun e => 4096 * e.nblk)))

/-- All data of a WRITE is in the write buffer (R391); it waits where there is no room. -/
def State.hostWrite (s : State) (q cid : Nat) (list : List Nat) (data : List Byte) (hostErr : Bool) : State :=
  match s.running q cid 1 with
  | none => s
  | some c =>
    if (c.further list).isNone then s.complete q cid 0x02 0
    else if hostErr then s.complete q cid 0x04 0
    else if s.get Reg.HIF_WBUF_BYTES < s.get Reg.HIF_WBUF_USED + 4096 * c.nblk then s
    else
      let e : WbufEntry := { q := q, cid := cid, slba := c.slba, nblk := c.nblk, data := bytesAt data 0 (4096 * c.nblk), order := s.hif.order }
      let s := { s with hif := { s.hif with wbuf := s.hif.wbuf ++ [e], order := s.hif.order + 1 } }
      s.wbufShow.complete q cid 0 0

/-- The oldest buffered WRITE is copied to the store. `bad` names the bursts of it whose copy fails on retry (R392). -/
def State.wbufCopied (s : State) (bad : List Nat) : State :=
  match s.hif.wbuf with
  | [] => s
  | e :: rest =>
    let a := s.blockAddr e.slba
    let bad := bad.filter (fun b => decide (b < 64 * e.nblk))
    let s := ({ s with hif := { s.hif with wbuf := rest } }).wbufShow
    let s := bad.foldl (fun (s : State) b => s.poisonBursts (a + 64 * b) 64) (s.write a e.data)
    if bad.isEmpty then s
    else
      let s := ((s.count Reg.HIF_CNT_WRITE_FAULT 1).raise .hif 3).logFree .hif 0 3 0x0C 0
      let s := s.logError e.q e.cid 0x0C e.slba e.nblk
      let s := { s with hif := { s.hif with failed := e.order :: s.hif.failed } }
      (s.setQp e.q (fun x => { x with deferred := true })).asyncEvent 1 1 e.q

/-- FLUSH completes once every earlier completed WRITE is copied (R393). -/
def State.hostFlush (s : State) (q cid : Nat) : State :=
  match s.running q cid 3 with
  | none => s
  | some c =>
    if s.hif.wbuf.any (fun e => decide (e.order < c.order)) then s
    else s.complete q cid (if s.hif.failed.any (fun o => decide (o < c.order)) then 0x0C else 0) 0

/-- A PIN, UNPIN or take-form TRIM goes to its reel controller (R389). -/
def State.passDesc (s : State) (q : Nat) (c : HostCmd) : State :=
  let d : ReelDesc := { q := q, cid := c.cid, op := c.op, reel := c.arg0 % 8, take := c.arg1 % 65536 }
  if s.hif.descs.contains d then s else { s with hif := { s.hif with descs := s.hif.descs ++ [d] } }

/-- The range form of TRIM: its blocks read as zero (R388). -/
def State.trimRange (s : State) (c : HostCmd) : State :=
  let s := s.write (s.blockAddr c.slba) (zeros (4096 * c.nblk))
  let cut := fun (e : WbufEntry) =>
    let lo := max c.slba e.slba
    let hi := min (c.slba + c.nblk) (e.slba + e.nblk)
    if lo < hi then { e with data := putBytes e.data (4096 * (lo - e.slba)) (zeros (4096 * (hi - lo))) } else e
  { s with hif := { s.hif with wbuf := s.hif.wbuf.map cut } }

/-- TRIM in either form. -/
def State.hostTrim (s : State) (q cid : Nat) : State :=
  match s.running q cid 4 with
  | none => s
  | some c => if c.takeForm then s.passDesc q c else (s.trimRange c).complete q cid 0 0

/-- PIN (opcode 5) and UNPIN (6). -/
def State.hostPin (s : State) (q cid op : Nat) : State :=
  match s.running q cid op with
  | none => s
  | some c => s.passDesc q c

/-- A reel controller takes the oldest descriptor. A poison tag drops it, and the command completes with INTERNAL_RETRY
(R388, R389). -/
def State.reelDescriptor (s : State) (poison : Nat) : State :=
  match s.hif.descs with
  | [] => s
  | d :: rest =>
    let s := { s with hif := { s.hif with descs := rest } }
    if poison % 256 ≠ 0 then
      let (v, s) := s.fresh
      (s.logEvt .mss d.reel 0x82 0x02 0 (v % 1024) (poison % 256)).complete d.q d.cid 0x0D 0
    else if d.op = 4 then
      match (s.reel d.reel).takeSlot d.take with
      | none => s.complete d.q d.cid 0x0A 0
      | some _ =>
        if (s.reel d.reel).erasable d.take then ((s.eraseTake d.reel d.take).noteFree d.reel).complete d.q d.cid 0 0
        else s.complete d.q d.cid 0x0B 0
    else
      match s.pinTake d.reel d.take (d.op == 5) with
      | ((false, _), s) => s.complete d.q d.cid 0x0A 0
      | ((true, was), s) => s.complete d.q d.cid 0 (if d.op = 6 then b2n was else 0)

/-! ### Admin commands -/

/-- IDENTIFY data (Table HIF-7). -/
def State.identify (s : State) : List Byte :=
  let c := s.clip
  leBytes 4 s.variant.code ++ leBytes 4 s.variant.unitsPresent ++ leBytes 4 s.boot.fwVersion ++ leBytes 4 (s.get Reg.SCC_BOOT_SEQ) ++
    leBytes 8 c.blocks ++ leBytes 8 c.metaStart ++ leBytes 8 c.metaBlocks ++ leBytes 8 c.userStart ++ leBytes 8 c.userBlocks ++
    leBytes 2 64 ++ leBytes 2 4096 ++ leBytes 4 262144 ++ leBytes 4 (s.get Reg.HIF_WBUF_BYTES) ++ zeros 4028

/-- The attestation report (R418, Table BOOT-5). -/
def State.attest (s : State) (nonce : List Byte) : List Byte :=
  let body := leBytes 4 0x54535441 ++ leBytes 2 0x0100 ++ leBytes 2 4883 ++ bytesAt nonce 0 32 ++
    (List.range 16).flatMap (fun i => leBytes 4 (s.get (Reg.SCC_IMAGE_DIGEST i))) ++ leBytes 4 (s.get Reg.SCC_BOOT_SEQ) ++
    leBytes 1 (s.get Reg.SCC_BOOT_STATUS_SLOT) ++ leBytes 1 s.boot.keySlot ++ leBytes 1 s.rollbackF ++ leBytes 1 s.lifecycle ++
    leBytes 4 (s.fuseVal 2112 4 + 16 * b2n s.vendorDisabled + 32 * b2n s.dbgClosed) ++ leBytes 4 s.variant.code ++
    leBytes 8 (s.fuseVal 2384 64) ++ s.keyHash s.boot.keySlot ++ leBytes 6 (secOf s.mediaNs) ++ leBytes 4 (nsecOf s.mediaNs) ++
    leBytes 1 (s.get Reg.SCC_BOOT_STATUS_RESULT) ++ zeros 53
  let seed := (List.range 32).map (fun i => BitVec.ofNat 8 (s.fuseVal (2128 + 8 * i) 8))
  body ++ bytesAt (Config.mlDsaSign seed (sha3 body)) 0 4627

/-- A log page of Table HIF-8. -/
def State.logPage (s : State) (page : Nat) (nonce : List Byte) : Option (List Byte) :=
  match page with
  | 1 => some (s.hif.errLog.flatMap (fun e => (List.range 32).map (Config.errLogByte e.sq e.cid e.status e.slba e.nblk e.timeNs)))
  | 2 => some (s.read (s.addr40 Reg.DEV_EVLOG_BASE_LO Reg.DEV_EVLOG_BASE_HI) 131072)
  | 3 => some ((List.range 8).flatMap (fun r => leBytes 4 (s.get (Reg.MSS_REEL_STATUS r)) ++ leBytes 4 (s.get (Reg.MSS_REEL_FREE r))))
  | 4 => some (s.attest nonce)
  | _ => none

/-- n bytes of a log page from an offset on. Bytes beyond what the page holds are free. -/
def State.logBytes (s : State) (page : List Byte) (o n : Nat) : List Byte :=
  (List.range n).map (fun i => page.getD (o + i) (BitVec.ofNat 8 (Config.free (s.freeCtr + i))))

/-- GET_LOG. `nonce` is what stands at DPTR1. -/
def State.getLog (s : State) (cid : Nat) (list : List Nat) (nonce : List Byte) (hostErr : Bool) : State :=
  match s.running 0 cid 0x82 with
  | none => s
  | some c =>
    match s.logPage (c.arg0 % 256) nonce, c.further list with
    | some b, some pages =>
      if hostErr then s.complete 0 cid 0x04 0
      else
        let n := 4096 * c.nblk
        (({ s with freeCtr := s.freeCtr + n }).toHost c.dptr1 pages (s.logBytes b c.slba n)).complete 0 cid 0 0
    | _, _ => s.complete 0 cid 0x02 0

/-- IDENTIFY. -/
def State.hostIdentify (s : State) (cid : Nat) (list : List Nat) (hostErr : Bool) : State :=
  match s.running 0 cid 0x81 with
  | none => s
  | some c =>
    match c.further list with
    | none => s.complete 0 cid 0x02 0
    | some pages => if hostErr then s.complete 0 cid 0x04 0 else (s.toHost c.dptr1 pages s.identify).complete 0 cid 0 0

/-- GET_FEATURE. -/
def State.getFeature (s : State) (cid : Nat) : State :=
  match s.running 0 cid 0x83 with
  | none => s
  | some c =>
    match c.arg0 % 256 with
    | 1 => s.complete 0 cid 0 s.hif.feature1
    | 2 => s.complete 0 cid 0 s.hif.feature2
    | 3 => s.complete 0 cid 0 (s.get Reg.HTP_PWR_STATUS_STATE)
    | _ => s.complete 0 cid 0x02 0

/-- SET_FEATURE. -/
def State.setFeature (s : State) (cid : Nat) : State :=
  match s.running 0 cid 0x84 with
  | none => s
  | some c =>
    match c.arg0 % 256 with
    | 1 => ({ s with hif := { s.hif with feature1 := c.arg1 % 65536 } }).complete 0 cid 0 0
    | 2 => ({ s with hif := { s.hif with feature2 := c.arg1 } }).complete 0 cid 0 0
    | _ => s.complete 0 cid 0x02 0

/-- SET_POWER goes to the power states, serialised with checks (R400, R431). -/
def State.setPower (s : State) (cid : Nat) : State :=
  match s.running 0 cid 0x85 with
  | none => s
  | some c =>
    let r := CheckReq.power (c.arg0 % 8) (some cid)
    if s.checks.contains r ∨ s.htp.hostCmd = some cid then s else s.inTurn r

/-- ABORT (R396). -/
def State.hostAbort (s : State) (cid : Nat) : State :=
  match s.running 0 cid 0x86 with
  | none => s
  | some c =>
    let q := c.arg0 % 64
    let k := c.arg1 % 65536
    match (s.hostCmd q k).filter (fun d => d.op != 0x85 && !(q == 0 && k == cid)) with
    | some d =>
      let s := { s with hif := { s.hif with descs := s.hif.descs.filter (fun e => !(e.q == q && e.cid == d.cid)) } }
      let s := (s.complete q k 0x05 0).count Reg.HIF_CNT_ABORTED 1
      (s.setQp 0 (fun x => { x with outstanding := x.outstanding.erase c })).completeAfter 0 cid c.sqHead 0 0 (some (q, k))
        |>.dropSnaps (fun r i => r == q && i == k)
    | none =>
      (s.setQp 0 (fun x => { x with outstanding := x.outstanding.erase c })).completeAfter 0 cid c.sqHead 0x06 0
        (if q = 0 ∧ k = cid then none else some (q, k))

/-- SNAPSHOT (R448). -/
def State.hostSnapshot (s : State) (cid : Nat) (list : List Nat) (hostErr : Bool) : State :=
  match s.running 0 cid 0x87 with
  | none => s
  | some c =>
    match c.further list with
    | none => s.complete 0 cid 0x02 0
    | some pages =>
      if hostErr then s.complete 0 cid 0x04 0
      else
        let d := SnapDest.host 0 cid c.dptr1 pages
        if s.snap.waiting.contains d || (s.snap.writing.map (·.1)) == some d then s else s.snapStart d

/-! ### The DRAM aperture (R377, R378) -/

/-- A read through the aperture: `bad` names the bursts that fail on retry, by their system address, with their bytes as read. -/
def State.apertureRead (s : State) (a n : Nat) (bad : List (Nat × List Byte)) : State :=
  let raw := fun (k : Nat) => match s.bufAt k with
    | some b => b.kind == .corrRaw || b.kind == .origRaw
    | none => false
  let bursts := (List.range ((a % 64 + n + 63) / 64)).map (fun k => a / 64 * 64 + 64 * k)
  let lost := bursts.filter (fun k => !raw k && (s.burstPoisoned k || bad.any (fun b => b.1 / 64 == k / 64)))
  let byte := fun (k : Nat) => match bad.find? (fun b => b.1 / 64 == k / 64 && !raw k) with
    | some b => b.2.getD (k % 64) 0
    | none => s.readByte k
  let data := (List.range n).map (fun i => byte (a + i))
  s.out (if lost.isEmpty then .readData a data else .poisonedData a data)

/-- An access of 1 to 512 bytes at aperture offset x. -/
def State.aperture (s : State) (x : Nat) (data : Option (List Byte)) (n : Nat) (bad : List (Nat × List Byte)) : State :=
  let a := s.addr40 Reg.HIF_APT_BASE_LO Reg.HIF_APT_BASE_HI + x
  if s.inScratch a || s.inScratch (a + n - 1) then
    let s := s.logEvt .hif 0 0x84 0x13 a 0x2C 0
    if data.isNone then s.out (.completerAbort a) else s
  else
    match data with
    | some b => s.write a b
    | none => s.apertureRead a n bad

/-! ### The link (R374, R404, R458) -/

/-- Link-down, hot reset or function-level reset. -/
def State.hostReset (s : State) : State :=
  let s := s.qpsOff
  let s := { s with
    regs := SMap.keep s.regs (fun k => decide (k < 0xA10000 ∨ 0xA18100 ≤ k))
    hif := { s.hif with fnMask := false } }
  (s.raise .hif 1).breakLocksOf (fun o => o == 0x0A00)

/-- STATE of the link becomes `st`. -/
def State.pcieState (s : State) (st rate width : Nat) (flit : Bool) : State :=
  let old := s.get Reg.HIF_LINK_STATUS_STATE
  let s := s.puts [(Reg.HIF_LINK_STATUS_STATE, st), (Reg.HIF_LINK_STATUS_RATE, rate), (Reg.HIF_LINK_STATUS_WIDTH, width),
    (Reg.HIF_LINK_STATUS_FLIT, b2n flit)]
  let s := if old = st then s else s.raise .hif 0
  if st < 2 then (if 2 ≤ old then s.hostReset else s) else if old < 2 then s.sendPending else s

/-- The endpoint may train: the image gave the IDs, and the core runs (R374, R411). -/
def State.linkAllowed (s : State) : Bool := s.boot.stage == .running && !s.boot.pcieIds.isEmpty && s.live .hif && !s.hif.stopped

/-- The PCIe link changes. -/
def State.pcieChange (s : State) (st rate width : Nat) (flit : Bool) : State :=
  if !s.clocked ∨ (st ≠ 0 ∧ !s.linkAllowed) then s else s.pcieState st rate width flit

/-! ### The commands -/

def execMsixUnmask (t : Nat) (v : Option (Fin 2048)) (masked : Bool) (s : State) : Res :=
  .next ((s.tick t).ctl .hif true (Reg.HIF_MSIX_VCTL ((v.map (·.val)).getD 0)) (fun s => s.maskVector v masked))
def execQpEnable (t : Nat) (q : Fin 64) (v : Word) (s : State) : Res :=
  .next ((s.tick t).ctl .hif true (Reg.HIF_QP_CFG q) (fun s => s.qpCfgWrite q v.toNat))
def execSqDoorbell (t : Nat) (q : Fin 64) (v : Word) (s : State) : Res := .next ((s.tick t).sqDoorbell q v.toNat)
def execCqDoorbell (t : Nat) (q : Fin 64) (v : Word) (s : State) : Res := .next ((s.tick t).cqDoorbell q v.toNat)
def execSqFetch (t : Nat) (entry : List Byte) (err : Bool) (s : State) : Res := .next ((s.tick t).sqFetch entry err)
def execCompletionPost (t : Nat) (q : Fin 64) (s : State) : Res := .next ((s.tick t).postCompletion q)
def execCoalesceTimer (t : Nat) (q : Fin 64) (s : State) : Res := .next ((s.tick t).coalesceEnd q)
def execWrite (t : Nat) (q : Fin 64) (cid : Nat) (pages : List Nat) (data : List Byte) (hostErr : Bool) (s : State) : Res :=
  .next ((s.tick t).hostWrite q cid pages data hostErr)
def execRead (t : Nat) (q : Fin 64) (cid : Nat) (pages : List Nat) (bad : List (Nat × List Byte)) (hostErr : Bool) (s : State) : Res :=
  .next ((s.tick t).hostRead q cid pages bad hostErr)
def execFlush (t : Nat) (q : Fin 64) (cid : Nat) (s : State) : Res := .next ((s.tick t).hostFlush q cid)
def execTrim (t : Nat) (q : Fin 64) (cid : Nat) (s : State) : Res := .next ((s.tick t).hostTrim q cid)
def execPin (t : Nat) (q : Fin 64) (cid : Nat) (s : State) : Res := .next ((s.tick t).hostPin q cid 5)
def execUnpin (t : Nat) (q : Fin 64) (cid : Nat) (s : State) : Res := .next ((s.tick t).hostPin q cid 6)
def execReelDescriptor (t : Nat) (poison : Nat) (s : State) : Res := .next ((s.tick t).reelDescriptor poison)
def execIdentify (t cid : Nat) (pages : List Nat) (hostErr : Bool) (s : State) : Res := .next ((s.tick t).hostIdentify cid pages hostErr)
def execGetLog (t cid : Nat) (pages : List Nat) (nonce : List Byte) (hostErr : Bool) (s : State) : Res :=
  .next ((s.tick t).getLog cid pages nonce hostErr)
def execGetFeature (t cid : Nat) (s : State) : Res := .next ((s.tick t).getFeature cid)
def execSetFeature (t cid : Nat) (s : State) : Res := .next ((s.tick t).setFeature cid)
def execSetPower (t cid : Nat) (s : State) : Res := .next ((s.tick t).setPower cid)
def execAbort (t cid : Nat) (s : State) : Res := .next ((s.tick t).hostAbort cid)
def execSnapshot (t cid : Nat) (pages : List Nat) (hostErr : Bool) (s : State) : Res := .next ((s.tick t).hostSnapshot cid pages hostErr)
def execWbufCopyDone (t : Nat) (bad : List Nat) (s : State) : Res := .next ((s.tick t).wbufCopied bad)
def execPcieReset (t : Nat) (s : State) : Res :=
  let s := s.tick t
  .next (if s.clocked then s.hostReset else s)
def execPerstAssert (t : Nat) (s : State) : Res :=
  let s := s.tick t
  .next (if !s.clocked then s else if s.get Reg.HIF_LINK_STATUS_STATE < 2 then s.hostReset.pcieState 0 0 0 false else s.pcieState 0 0 0 false)
def execLinkChange (t : Nat) (st : Fin 6) (rate width : Fin 16) (flit : Bool) (s : State) : Res :=
  .next ((s.tick t).pcieChange st rate width flit)
/-- An access of up to 512 bytes within the 8 MiB of the aperture; a DRAM address beyond the capacity of the part stops the
machine (R333). -/
def execApertureAccess (t : Nat) (x : Fin 0x800000) (data : Option (List Byte)) (n : Fin 512) (bad : List (Nat × List Byte)) (s : State) : Res :=
  let s := s.tick t
  let len := match data with
    | some b => b.length
    | none => n + 1
  let a := s.addr40 Reg.HIF_APT_BASE_LO Reg.HIF_APT_BASE_HI + x
  if !s.hostUp ∨ len = 0 ∨ 512 < len then .next s
  else if s.inDram a len then .next (s.aperture x data len bad) else .fault (.dramAddressAbsent a)

end Sys2Proof.Machine
end

