-- ==== Sys2Proof/Machine/Htp.lean ====
section
/-!
DEFINITION. Health, thermal and power: zones, Pollard throttling, shutdown, power states, retention, gauges and monitors
(17_thermal_power_and_gauges.md, R421 to R438; R401 to R403 of 15_host_interface.md; R419 of 16_boot_and_security.md).
-/

namespace Sys2Proof.Machine

/-! ### Zones (R421) -/

/-- Neighbours of a zone (Table HTP-1). -/
def zoneNeighbours (z : Nat) : List Nat :=
  ([[1, 7, 8], [0, 2, 3, 7], [1, 3, 4, 6], [1, 2, 5, 7], [2, 5, 6], [3, 4, 6, 8], [2, 4, 5], [0, 1, 3, 8], [0, 5, 7]] : List (List Nat)).getD z []

/-- Insert a number into a rising list. -/
def insertInt (x : Int) : List Int → List Int
  | [] => [x]
  | y :: t => if x ≤ y then x :: y :: t else y :: insertInt x t

/-- Twice the median of a list: of an even count the sum of the middle two. -/
def median2 (l : List Int) : Int :=
  let m := l.foldl (fun acc x => insertInt x acc) []
  m.getD ((m.length - 1) / 2) 0 + m.getD (m.length / 2) 0

/-- The greatest number of a list that is not empty. -/
def maxI (l : List Int) : Int := match l with
  | [] => 0
  | x :: t => t.foldl max x

/-- The least number of a list that is not empty. -/
def minI (l : List Int) : Int := match l with
  | [] => 0
  | x :: t => t.foldl min x

/-- A zone. -/
def State.zone (s : State) (z : Nat) : ZoneSt := getN s.htp.zones z { dev := 0, broken := false, temp := 0 }

/-- The cross-check of one zone at a sample: its count of samples that differ. -/
def State.zoneDev (s : State) (raw : List Int) (z : Nat) : Nat :=
  let l := (zoneNeighbours z).filter (fun n => !(s.zone n).broken)
  let d := 2 * raw.getD z 0 - median2 (l.map (fun n => raw.getD n 0))
  if 2 ≤ l.length ∧ (384 < d ∨ d < -384) then (s.zone z).dev + 1 else 0

/-- A sample of the diodes brings the zone readings up to date: the cross-check, then the readings with their
substitutes. -/
def State.zonesSample (s : State) (raw : List Int) : State :=
  let dev := (List.range 9).map (fun z => if (s.zone z).broken then 0 else s.zoneDev raw z)
  let s := (List.range 9).foldl (fun (s : State) z =>
    let n := dev.getD z 0
    let s := { s with htp := { s.htp with zones := updN s.htp.zones z (fun x => { x with dev := n, broken := x.broken || decide (8 ≤ n) }) } }
    if 8 ≤ n then
      let (v, s) := s.fresh
      s.fault .htp 4 z 0x0F 0 z (v % 2 ^ 32)
    else s) s
  let good := (List.range 9).filter (fun z => !(s.zone z).broken)
  let (v, s) := s.fresh
  let temp := fun (z : Nat) =>
    if good.contains z then raw.getD z 0
    else
      match (zoneNeighbours z).filter (fun n => good.contains n), good with
      | [], [] => toSigned 16 v
      | [], l => maxI (l.map (fun n => raw.getD n 0)) + 80
      | l, _ => maxI (l.map (fun n => raw.getD n 0)) + 80
  (List.range 9).foldl (fun (s : State) z =>
    let t := toSigned 16 (ofSigned 16 (temp z))
    let s := { s with htp := { s.htp with zones := updN s.htp.zones z (fun x => { x with temp := t }) } }
    let s := s.puts [(Reg.HTP_ZONE_TEMP z, ofSigned 16 t), (Reg.HTP_ZONE_BROKEN z, b2n (s.zone z).broken),
      (Reg.HTP_ZONE_RAW_T z, ofSigned 16 (raw.getD z 0))]
    s.gauge 4 z t) s

/-- Zone readings. -/
def State.temps (s : State) : List Int := s.htp.zones.toList.map (·.temp)

/-- The warnings of R424. -/
def State.warnings (s : State) : State :=
  let cold := decide (minI s.temps < s.threshold Reg.HTP_THR_LOW_WARN)
  let hot := decide (s.threshold Reg.HTP_THR_HIGH_WARN ≤ maxI s.temps)
  let s := if s.htp.sampled && cold != s.htp.cold then s.raise .htp 0 else s
  let s := if s.htp.sampled && hot != s.htp.hot then s.raise .htp 1 else s
  let s := if s.htp.sampled && hot && !s.htp.hot then s.asyncFree 3 s.level else s
  { s with htp := { s.htp with sampled := true, cold := cold, hot := hot } }

/-! ### Pollard (R425, R426) -/

/-- The level changes: paths are shed or accept again, and the change is announced. -/
def State.setLevel (s : State) (l : Nat) : State :=
  let s := (s.put Reg.HTP_POLLARD_STATUS_LEVEL l).raise .htp 2
  let s := { s with htp := { s.htp with levelAt := s.now } }
  let s := s.plan.bookings.foldl (fun (s : State) (b : Booking) =>
    if b.leaving then s else s.putB (Reg.DEV_PATH_SHED_SHED_NOW b.path) (s.pathShed b.path)) s
  (s.logFree .htp 0 2 0x0D 0).asyncFree 3 l

/-- The level at a sample. -/
def State.pollard (s : State) : State :=
  let tmax := maxI s.temps
  let p := s.threshold Reg.HTP_THR_HIGH_POLLARD
  let l := s.level
  let cap := s.get Reg.DEV_LDG_STATUS_COVER
  let due := decide (s.get Reg.HTP_POLLARD_CFG_STEP_MS * 400000 ≤ s.now - s.htp.levelAt)
  let s := if p ≤ tmax ∧ l < cap ∧ due then s.setLevel (l + 1)
    else if tmax < p - 16 * s.get Reg.HTP_POLLARD_CFG_HYST ∧ 0 < l ∧ due then s.setLevel (l - 1) else s
  let atCap := decide (p ≤ tmax) && s.level == cap
  let s := if atCap && !s.flag Reg.HTP_POLLARD_STATUS_AT_CAP then s.raise .htp 3 else s
  s.putB Reg.HTP_POLLARD_STATUS_AT_CAP atCap

/-! ### Retention (R419, R460) -/

/-- The MSS places every channel in self-refresh, or brings it back. -/
def State.selfRefresh (s : State) (on : Bool) : State :=
  (List.range s.variant.channels).foldl (fun (s : State) c => s.putB (Reg.MSS_CH_STATUS_SELF_REFRESH c) on) s

/-- Registers 0 to 62 of the retention record as bytes. -/
def State.retBytes (s : State) : List Byte := (List.range 63).flatMap (fun i => leBytes 4 (s.get (Reg.HTP_KPR_RET i)))

/-- KPR_SAFE. -/
def State.keeperSafe (s : State) (on : Bool) : State :=
  if s.boot.kprSafe = on then s else ({ s with boot := { s.boot with kprSafe := on } }).out (.keeper 0 on)

/-- A retention completes: self-refresh under the Keeper island, the record of Table BOOT-6, KPR_SAFE. -/
def State.retainStore (s : State) (cause : Nat) : State :=
  let s := s.selfRefresh true
  let last := (s.get Reg.DEV_EVLOG_SEQ + 63) % 64
  let ev := (List.range 8).map (fun w => (Reg.HTP_KPR_RET (8 + w), s.get (Reg.HTP_KPR_EVT last w)))
  let s := s.puts ([(Reg.HTP_KPR_RET 0, 0x5045454B), (Reg.HTP_KPR_RET 1, 1 + 256 * cause), (Reg.HTP_KPR_RET 2, s.clip.generation),
    (Reg.HTP_KPR_RET 3, s.get Reg.MSS_CLIP_BASE_LO), (Reg.HTP_KPR_RET 4, s.get Reg.MSS_CLIP_BASE_HI),
    (Reg.HTP_KPR_RET 5, secOf s.mediaNs / 2 ^ 32), (Reg.HTP_KPR_RET 6, secOf s.mediaNs % 2 ^ 32), (Reg.HTP_KPR_RET 7, nsecOf s.mediaNs)] ++ ev)
  (s.put (Reg.HTP_KPR_RET 63) (crc32 s.retBytes)).keeperSafe true

/-- The DRAM contents are lost (R432, R461). -/
def State.loseDram (s : State) : State :=
  { s with mem := [], mss := { s.mss with poisoned := [], epoch := s.mss.epoch + 1 } }

/-! ### Shutdown (R403, R429) -/

/-- The cycles of the window W. -/
def State.shutdownWindow (s : State) (tmax : Int) : Nat :=
  let n := s.htp.hist.length - 1
  let rise := tmax - s.htp.hist.getD n tmax
  if n = 0 ∨ rise ≤ 0 then 2000000
  else min 2000000 (((s.threshold Reg.HTP_THR_CRIT_CRITICAL + 96 - tmax) * n * 40000) / rise).toNat

/-- The part shuts down: the pixel units latch off, and the HIF completes its commands. -/
def State.shutdown (s : State) : State :=
  let tmax := maxI s.temps
  let z := ((List.range 9).find? (fun z => (s.zone z).temp == tmax)).getD 0
  let s := s.puts [(Reg.HTP_SHUTDOWN_STATUS_SHUTDOWN, 1), (Reg.HTP_SHUTDOWN_STATUS_ZONE, z), (Reg.HTP_SHUTDOWN_STATUS_TMAX, ofSigned 16 tmax)]
  let s := { s with htp := { s.htp with windowEnd := s.now + s.shutdownWindow tmax } }
  let s := (UnitId.all.filter (fun u => u.pixel && s.variant.has u)).foldl (fun (s : State) u => s.put (Reg.UNIT_STATE_PHASE u.id) 5) s
  let (v, s) := s.fresh
  let s := s.logFree .htp 0 (v % 256) 0x0E 0
  let s := s.asyncFree 4 s.level
  (List.range 64).foldl (fun (s : State) q => (s.qp q).outstanding.foldl (fun (s : State) c => s.complete q c.cid 0x0E 0) s) s

/-- The shutdown test at a sample. -/
def State.criticalTest (s : State) : State :=
  let tmax := maxI s.temps
  let n := if s.threshold Reg.HTP_THR_CRIT_CRITICAL ≤ tmax then s.htp.critical + 1 else 0
  let s := { s with htp := { s.htp with critical := n, hist := (tmax :: s.htp.hist).take 11 } }
  if 2 ≤ n && !s.flag Reg.HTP_SHUTDOWN_STATUS_SHUTDOWN then s.shutdown else s

/-- A sample of the nine diodes, in 1 ÷ 16 °C. -/
def State.htpSample (s : State) (raw : List Int) : State :=
  if !s.live .htp then s
  else
    let s := (s.zonesSample (raw.map (fun r => toSigned 16 (ofSigned 16 r)))).warnings
    (if s.flag Reg.HTP_SHUTDOWN_STATUS_SHUTDOWN then s else s.pollard).criticalTest

/-- The core clocks stop. -/
def State.stopCore (s : State) : State :=
  { s.put Reg.HIF_LINK_STATUS 0 with
    boot := { s.boot with stage := .stopped, retaining := none }
    hif := { s.hif with stopped := true } }

/-- The window of a shutdown ends: `done` says that the orderly stop is complete. -/
def State.windowEnds (s : State) (done : Bool) : State :=
  if !s.flag Reg.HTP_SHUTDOWN_STATUS_SHUTDOWN ∨ s.boot.stage = .stopped then s
  else if done ∨ s.htp.windowEnd ≤ s.now ∨ s.temps.any (fun t => decide (s.threshold Reg.HTP_THR_CRIT_CRITICAL + 96 ≤ t)) then
    ((if done then s.retainStore 2 else s).stopCore).out .thermTrip
  else s

/-- READMIT bits. -/
def State.readmit (s : State) (mask : Nat) : State :=
  (List.range 9).foldl (fun (s : State) z =>
    if bitAt mask z then
      ({ s with htp := { s.htp with zones := updN s.htp.zones z (fun x => { x with dev := 0, broken := false }) } }).put (Reg.HTP_ZONE_BROKEN z) 0
    else s) s

/-! ### Life, ageing, supplies (R436 to R438) -/

/-- Ageing factors at 80, 85, … 105 °C, in 1 ÷ 1,000 (Table HTP-6). -/
def ageFactor : List Nat := [392, 541, 738, 1000, 1344, 1792]

/-- What a second at t ÷ 16 °C adds to the life used, in 1 ÷ 80,000 s. -/
def lifeStep (t : Int) : Nat :=
  if t ≤ 1280 then 80 * 392
  else if 1680 ≤ t then 80 * 1792
  else
    let d := (t - 1280).toNat
    80 * ageFactor.getD (d / 80) 0 + (ageFactor.getD (d / 80 + 1) 0 - ageFactor.getD (d / 80) 0) * (d % 80)

/-- A second of operation. -/
def State.lifeTick (s : State) : State :=
  if !s.live .htp then s
  else
    let n := s.htp.lifeFrac + lifeStep (maxI s.temps)
    let v := s.get Reg.HTP_LIFE_USED_LO + 2 ^ 32 * s.get Reg.HTP_LIFE_USED_HI + n / 80000
    ({ s with htp := { s.htp with lifeFrac := n % 80000 } }).puts [(Reg.HTP_LIFE_USED_LO, v % 2 ^ 32), (Reg.HTP_LIFE_USED_HI, v / 2 ^ 32)]

/-- An ageing monitor reports its frequency change in 0.01 %. -/
def State.ageUpdate (s : State) (z : Nat) (change : Int) : State :=
  if !s.live .htp then s
  else
    let s := s.put (Reg.HTP_AGE_V z) (ofSigned 16 change)
    if toSigned 16 (ofSigned 16 change) ≤ -300 ∧ !s.htp.ageWarned then
      (({ s with htp := { s.htp with ageWarned := true } }).raise .htp 6).logFree .htp z 6 0x0F 0
    else s

/-- Nominal voltages in mV (Table PIN-2). -/
def railNominal : List Nat := [750, 800, 900, 900, 850, 1200, 900, 1800, 3300, 1800, 1200]

/-- A sample of a supply monitor. -/
def State.vmonSample (s : State) (i mv : Nat) : State :=
  if !s.live .htp then s
  else
    let nom := railNominal.getD i 0
    let dev := max mv nom - min mv nom
    let warn := decide (5 * nom < 100 * dev)
    let bad := decide (8 * nom < 100 * dev)
    let was := getN s.htp.rails i (false, false)
    let s := s.puts [(Reg.HTP_VMON_MV i, mv), (Reg.HTP_VMON_VWARN i, b2n warn), (Reg.HTP_VMON_VFAULT i, b2n bad)]
    let s := { s with htp := { s.htp with rails := updN s.htp.rails i (fun _ => (warn, bad)) } }
    let s := if warn && !was.1 then s.raise .htp 7 else s
    if bad && !was.2 then (s.raise .htp 8).logFree .htp i 8 0x0F 0 else s

/-! ### Power states (R400 to R402, R431, R432) -/

/-- A write to HTP_PWR_CTL. -/
def State.powerWrite (s : State) (v : Nat) : State :=
  if 4 < v % 8 then s.refuse .htp 0x0C04 Reg.HTP_PWR_CTL
  else if bitAt v 31 then s.inTurn (.power (v % 8) none) else s

/-- What a transition waits for (R401, R402): copies of completed WRITEs, and commands that are neither held nor its own. -/
def State.powerWaits (s : State) (target : Nat) : Bool :=
  let busy := (List.range 64).any (fun q =>
    ((s.qp q).outstanding.any (fun c => !s.cmdHeld c && !(q == 0 && some c.cid == s.htp.hostCmd))) || !(s.qp q).ready.isEmpty)
  (decide (2 ≤ target) && !s.hif.wbuf.isEmpty) || (decide (3 ≤ target) && busy) ||
    (decide (3 ≤ target) && s.htp.hostCmd.isSome && !s.cqRoom 0)

/-- The completion of a SET_POWER to PS3 or PS4, posted before the link goes off (R401). -/
def State.postPower (s : State) : State :=
  match s.htp.hostCmd.bind (fun c => s.hostCmd 0 c) with
  | some c => (s.setQp 0 (fun x => { x with outstanding := x.outstanding.erase c })).cqWrite 0 0 c.sqHead c.cid 0
  | none => s

/-- PS0 is in force: the pixel units are back, and held commands execute. -/
def State.powerRun (s : State) : State :=
  let s := UnitId.all.foldl (fun (s : State) u =>
    if (s.unit u).removal.any (fun r => r.cause == .power) then s.endRemoval u else s) s
  let s := (List.range 64).foldl (fun (s : State) q => if s.qpState q = 3 then s.put (Reg.HIF_QP_STATUS_STATE q) 1 else s) s
  { s.selfRefresh false with hif := { s.hif with heldFrom := none } }

/-- A transition of Table HTP-4 completes. -/
def State.powerDone (s : State) : State :=
  let target := s.get Reg.HTP_PWR_STATUS_TARGET
  if !s.live .htp || !s.flag Reg.HTP_PWR_STATUS_BUSY || s.flag Reg.HTP_SHUTDOWN_STATUS_SHUTDOWN || s.powerWaits target then s
  else
    let s := if 3 ≤ target then s.postPower else s
    let host := s.htp.hostCmd
    let s := ({ s with htp := { s.htp with hostCmd := none } }).puts [(Reg.HTP_PWR_STATUS_BUSY, 0), (Reg.HTP_PWR_STATUS_STATE, target)]
    let s := s.raise .htp 5
    let s := match target with
      | 0 => s.powerRun
      | 2 => s.selfRefresh true
      | 3 => (s.retainStore 1).stopCore
      | 4 => (s.loseDram.keeperSafe false).stopCore
      | _ => s
    match host with
    | some c => if target < 3 then s.complete 0 c 0 0 else s
    | none => s

/-! ### Gauges (R433, R434) -/

/-- Whether a gauge source exists in the part (Table HTP-5). -/
def Variant.gaugeSource (v : Variant) (kind index : Nat) : Bool :=
  match kind with
  | 0 => true
  | 1 => decide (index < 64)
  | 2 => decide (index < 0x30) && index != 0 && index != 7 && index != 0x16 && index != 0x17 && !(decide (0x1C ≤ index ∧ index < 0x20)) &&
      v.has (portUnit index) && !(decide (0x08 + v.renderPaths ≤ index ∧ index < 0x10))
  | 3 => true
  | 4 => decide (index < 9)
  | 5 => decide (index < v.lanes) || decide (32 ≤ index ∧ index < 32 + v.programLanes)
  | 6 => decide (index < v.lanes)
  | 7 => decide (index < 128)
  | 8 => decide (index < v.renderPaths)
  | 9 => decide (index < 4)
  | _ => false

/-- The error count that a gauge of SRC_KIND 0x5 follows, where its source gives one. -/
def State.errCount (s : State) (index : Nat) : Option Nat :=
  if index < 32 then
    if s.flag (Reg.SLR_LANE_STATUS_MARKER_LOCK index) then
      some (s.get (Reg.SLR_CNT_STUFF index) + s.get (Reg.SLR_CNT_MARKER index) + s.get (Reg.SLR_PRBS_ERR index))
    else none
  else some (s.get (Reg.ORE_CNT_CRC_LINES (index - 32)))

/-- A write to a configuration register of a gauge: 0 HTP_GAUGE_CFG, 1 ORIGIN, 2 WIDTH. -/
def State.gaugeWrite (s : State) (g which : Nat) (v : Word) : State :=
  let f := if which = 0 then Reg.HTP_GAUGE_CFG g else if which = 1 then Reg.HTP_GAUGE_ORIGIN g else Reg.HTP_GAUGE_WIDTH g
  let v := if which = 0 then v &&& 0xF3FF8000 else v
  let n := s.setReg f.ofs v
  let kind := n.get (Reg.HTP_GAUGE_CFG_SRC_KIND g)
  if !s.variant.gaugeSource kind (n.get (Reg.HTP_GAUGE_CFG_INDEX g)) ||
      (kind != 0 && !n.flag (Reg.HTP_GAUGE_CFG_LOG2 g) && n.get (Reg.HTP_GAUGE_WIDTH g) == 0) then s.refuse .htp 0x0C03 f
  else if s.reg f.ofs = v then s
  else
    { n with htp := { n.htp with
      gauges := updN n.htp.gauges g (fun _ => GaugeSt.empty)
      lastErr := updN n.htp.lastErr g (fun _ => (n.errCount (n.get (Reg.HTP_GAUGE_CFG_INDEX g))).getD 0) } }

/-- SNAP: the gauges of the mask are copied out and cleared. -/
def State.gaugeSnap (s : State) : State :=
  (List.range 32).foldl (fun (s : State) g =>
    if bitAt (s.get Reg.HTP_GAUGE_MASK) g then
      let x := getN s.htp.gauges g GaugeSt.empty
      let sum := ofSigned 64 x.sum
      let s := s.puts [(Reg.HTP_GAUGE_MIN g, ofSigned 32 x.min), (Reg.HTP_GAUGE_MAX g, ofSigned 32 x.max), (Reg.HTP_GAUGE_SUM_LO g, sum % 2 ^ 32),
        (Reg.HTP_GAUGE_SUM_HI g, sum / 2 ^ 32), (Reg.HTP_GAUGE_COUNT_LO g, x.count % 2 ^ 32), (Reg.HTP_GAUGE_COUNT_HI g, x.count / 2 ^ 32)]
      let s := s.puts ((List.range 64).map (fun b => (Reg.HTP_GAUGE_BIN g b, SMap.getD x.bins 0 b)))
      { s with htp := { s.htp with gauges := updN s.htp.gauges g (fun _ => GaugeSt.empty) } }
    else s) s

/-- A sample of a source that a gauge looks at by itself: queue depth every µs, error count every ms. -/
def State.gaugePeriod (s : State) (g : Nat) : State :=
  let index := s.get (Reg.HTP_GAUGE_CFG_INDEX g)
  let take := fun (s : State) (v : Int) =>
    let b := gaugeBin (s.flag (Reg.HTP_GAUGE_CFG_LOG2 g)) (toSigned 32 (s.get (Reg.HTP_GAUGE_ORIGIN g))) (s.get (Reg.HTP_GAUGE_WIDTH g)) v
    { s with htp := { s.htp with gauges := updN s.htp.gauges g (fun x => x.add b v) } }
  if !s.live .htp then s
  else
    match s.get (Reg.HTP_GAUGE_CFG_SRC_KIND g) with
    | 3 => take s (cellsOf (s.queue index).items)
    | 5 =>
      match s.errCount index with
      | some n =>
        let last := getN s.htp.lastErr g 0
        take { s with htp := { s.htp with lastErr := updN s.htp.lastErr g (fun _ => n) } } (if last ≤ n then n - last else n : Nat)
      | none => s
    | _ => s

/-! ### Threshold registers (R423) -/

/-- Whether a value lies within limits given in °C. -/
def inDegrees (lo hi v : Int) : Bool := decide (16 * lo ≤ v ∧ v ≤ 16 * hi)

/-- The thresholds in force are a legal setting. -/
def State.thresholdsOk (s : State) : Bool :=
  let ls := s.threshold Reg.HTP_THR_LOW_STOP
  let lw := s.threshold Reg.HTP_THR_LOW_WARN
  let hw := s.threshold Reg.HTP_THR_HIGH_WARN
  let p := s.threshold Reg.HTP_THR_HIGH_POLLARD
  let c := s.threshold Reg.HTP_THR_CRIT_CRITICAL
  inDegrees (-55) (-40) ls && inDegrees (-45) 0 lw && inDegrees 80 102 hw && inDegrees 90 105 p && inDegrees 105 115 c &&
    decide (ls < lw ∧ lw < hw ∧ hw ≤ p ∧ p < c)

/-- A write to a threshold register or HTP_POLLARD_CFG. -/
def State.thresholdWrite (s : State) (f : Fld) (v : Word) : State :=
  let n := s.setReg f.ofs v
  let step := n.get Reg.HTP_POLLARD_CFG_STEP_MS
  let hyst := n.get Reg.HTP_POLLARD_CFG_HYST
  if n.thresholdsOk && decide (1 ≤ step ∧ step ≤ 100 ∧ 1 ≤ hyst ∧ hyst ≤ 8) then n else s.refuse .htp 0x0C01 f

/-! ### The commands -/

def execHtpSample (t : Nat) (raw : List Int) (s : State) : Res := .next ((s.tick t).htpSample raw)
def execShutdownWindowEnd (t : Nat) (done : Bool) (s : State) : Res := .next ((s.tick t).windowEnds done)
def execReadmit (t : Nat) (mask : Fin 512) (s : State) : Res :=
  .next ((s.tick t).cmd .htp true Reg.HTP_ZONE_CTL mask (fun s => s.readmit mask))
def execLifeTick (t : Nat) (s : State) : Res := .next (s.tick t).lifeTick
def execAgeMonitorUpdate (t : Nat) (z : Fin 9) (change : Int) (s : State) : Res := .next ((s.tick t).ageUpdate z change)
def execVmonSample (t : Nat) (i : Fin 11) (mv : Fin 65536) (s : State) : Res := .next ((s.tick t).vmonSample i mv)
def execPowerCommand (t : Nat) (v : Word) (s : State) : Res :=
  .next ((s.tick t).cmd .htp true Reg.HTP_PWR_CTL (v.toNat &&& 0x80000007) (fun s => s.powerWrite v.toNat))
def execPowerTransitionDone (t : Nat) (s : State) : Res := .next (s.tick t).powerDone
def execGaugeSnap (t : Nat) (s : State) : Res :=
  .next ((s.tick t).cmd .htp true Reg.HTP_GAUGE_CTL (2 ^ 31) (fun s => s.gaugeSnap))
def execGaugeCfgWrite (t : Nat) (g : Fin 32) (which : Fin 3) (v : Word) (s : State) : Res :=
  .next ((s.tick t).ctl .htp true (Reg.HTP_GAUGE_CFG g) (fun s => s.gaugeWrite g which v))
def execGaugePeriodicSample (t : Nat) (g : Fin 32) (s : State) : Res := .next ((s.tick t).gaugePeriod g)

end Sys2Proof.Machine
end

