-- ==== Sys2Proof/Machine/Flash.lean ====
section
/-!
DEFINITION. Flash writes, fuse programming, retention requests and the Keeper island (16_boot_and_security.md, R405, R414 to R419;
19_pins_and_electrical.md, R455, R460 to R462).
-/

namespace Sys2Proof.Machine

/-! ### The flash (R405, R414) -/

/-- Bytes of the flash. -/
def flashSize : Nat := 0x2000000 * 2 ^ (Config.flashLog % 4)

/-- A byte of the flash. -/
def State.flashByte (s : State) (a : Nat) : Byte := SMap.getD s.flash (Config.flashByte a) a

/-- Store flash bytes from an address on. -/
def storeFlash (m : SMap Byte) (a : Nat) : List Byte → SMap Byte
  | [] => m
  | b :: t => storeFlash (SMap.setD m (Config.flashByte a) a b) (a + 1) t

/-- Slot A starts at 0 and slot B at half the flash; the identity area lies at the end of slot B's half (R405). -/
def slotBase (slot : Nat) : Nat := if slot = 0 then 0 else flashSize / 2
def slotLimit (slot : Nat) : Nat := if slot = 0 then flashSize / 2 else flashSize / 2 - 0x10000

/-- A zone reading outside 0 to 85 °C refuses flash and fuse commands (R414). -/
def State.writeTemp (s : State) : Bool := s.temps.any (fun t => decide (t < 0 ∨ 1360 < t))

/-- A flash command, erase or program, of n bytes. -/
def State.flashCmd (s : State) (op : FlashOp) (a n : Nat) : State :=
  let f := Reg.SCC_FLASH_CTL
  let hits := fun (lo len : Nat) => decide (a < lo + len ∧ lo < a + n)
  let live := s.boot.stage != .recovery && hits (slotBase s.boot.slot) (slotLimit s.boot.slot)
  if s.writeTemp then s.refuse .scc 0x0B01 f
  else if live || hits (flashSize - 0x10000) 0x10000 then s.refuse .scc 0x0B02 f
  else if a % n ≠ 0 ∨ flashSize ≤ a ∨ s.flag Reg.SCC_FLASH_STATUS_BUSY then s.refuse .scc 0x0B03 f
  else ({ s with boot := { s.boot with flashOp := some op } }).puts [(Reg.SCC_FLASH_STATUS_BUSY, 1), (Reg.SCC_FLASH_STATUS_ERROR, 0)]

/-- ERASE. -/
def State.flashErase (s : State) : State :=
  let a := s.get Reg.SCC_FLASH_ADDR
  s.flashCmd (.erase a) a 0x10000

/-- PROGRAM. -/
def State.flashProgram (s : State) : State :=
  let a := s.get Reg.SCC_FLASH_ADDR
  s.flashCmd (.program a ((List.range 64).flatMap (fun i => leBytes 4 (s.get (Reg.SCC_FLASH_BUF i))))) a 256

/-- A flash command completes. A failed one leaves free bytes. -/
def State.flashDone (s : State) (ok : Bool) : State :=
  match s.boot.flashOp with
  | none => s
  | some op =>
    let s := ({ s with boot := { s.boot with flashOp := none } }).puts [(Reg.SCC_FLASH_STATUS_BUSY, 0), (Reg.SCC_FLASH_STATUS_ERROR, b2n (!ok))]
    let (a, data) := match op with
      | .erase a => (a, List.replicate 0x10000 (255 : Byte))
      | .program a d => (a, d.zipIdx.map (fun (e : Byte × Nat) => e.1 &&& s.flashByte (a + e.2)))
    let free := (List.range data.length).map (fun i => BitVec.ofNat 8 (Config.free (s.freeCtr + i)))
    { s with flash := storeFlash s.flash a (if ok then data else free), freeCtr := if ok then s.freeCtr else s.freeCtr + data.length }

/-! ### Fuses (R415, R416) -/

/-- Fuse bits begin to blow. -/
def State.fuseStart (s : State) (l : List Nat) : State :=
  ({ s with boot := { s.boot with fuseOp := some { bits := l } } }).puts
    [(Reg.SCC_FUSE_STATUS_BUSY, 1), (Reg.SCC_FUSE_STATUS_DONE, 0), (Reg.SCC_FUSE_STATUS_FAIL, 0)]

/-- A usable key slot remains when bits `l` are blown too. -/
def State.keyLeft (s : State) (l : List Nat) : Bool :=
  (List.range 4).any (fun k => s.keyUsable k && !l.contains (2112 + k) && !(k == 0 && l.contains 2116))

/-- A command of SCC_FUSE_CTL: the bits it blows, and whether R416 refuses it. -/
def State.fuseBits (s : State) (op slot : Nat) : List Nat × Bool :=
  match op with
  | 1 =>
    let hash := (List.range 512).filter (fun i => bitAt (s.get (Reg.SCC_FUSE_DATA (i / 32))) (i % 32))
    (hash.map (fun i => 512 * slot + i) ++ (if slot ≠ 0 ∧ s.lifecycle = 1 then [2121] else []), s.keyFused slot)
  | 2 => ([2112 + slot], !s.keyLeft [2112 + slot])
  | 3 => ([2116], !s.keyLeft [2116])
  | 4 => ([2448], false)
  | 5 => ([2120, 2121, 2122], false)
  | _ => ([], false)

/-- A fuse command. One that comes while another runs has no effect. -/
def State.fuseCmd (s : State) (op slot : Nat) : State :=
  let f := Reg.SCC_FUSE_CTL
  let (l, bad) := s.fuseBits op slot
  if op = 0 ∨ 5 < op ∨ s.boot.fuseOp.isSome then s
  else if s.writeTemp then s.refuse .scc 0x0B01 f
  else if bad ∨ s.lifecycle = 7 then s.refuse .scc 0x0B04 f
  else s.fuseStart l

/-- ADVANCE (R415). -/
def State.advance (s : State) : State :=
  let n := s.boot.rollback - s.rollbackF
  if n = 0 ∨ s.boot.fuseOp.isSome then s
  else if s.writeTemp then s.refuse .scc 0x0B01 Reg.SCC_BOOT_CTL
  else s.fuseStart ((((List.range 64).map (2048 + ·)).filter (fun b => !s.fuse b)).take n)

/-- A fuse command is verified. Which bits of a failed one have blown is free. -/
def State.fuseDone (s : State) (ok : Bool) : State :=
  match s.boot.fuseOp with
  | none => s
  | some op =>
    let l := if ok then op.bits else (op.bits.zipIdx.filter (fun e => Config.free (s.freeCtr + e.2) % 2 == 1)).map (·.1)
    let s := { s with
      boot := { s.boot with fuseOp := none }
      freeCtr := if ok then s.freeCtr else s.freeCtr + op.bits.length
      fuses := l.foldl (fun m b => SMap.insert m b ()) s.fuses }
    (s.puts [(Reg.SCC_FUSE_STATUS_BUSY, 0), (Reg.SCC_FUSE_STATUS_DONE, b2n ok), (Reg.SCC_FUSE_STATUS_FAIL, b2n (!ok))]).showFuses

/-! ### The Keeper island (R419, R460 to R462) -/

/-- A clip store is open. -/
def State.storeOpen (s : State) : Bool := s.get Reg.MSS_CLIP_STATE_STATE == 1 || s.get Reg.MSS_CLIP_STATE_STATE == 2

/-- Registers of the Keeper island: retention, event copies and the life counter. -/
def keeperReg (k : Nat) : Bool := decide (0xC01000 ≤ k ∧ k < 0xC02000) || k == 0xC00300 || k == 0xC00304

/-- A whole-part reset: everything but the Keeper island, the DRAM, the flash and the fuses starts again. -/
def State.coldReset (s : State) : State :=
  let r := State.reset
  let n := { r with
    pending := s.pending
    variant := s.variant
    now := s.now
    regs := SMap.keep s.regs keeperReg
    planSeq := s.planSeq
    mss := { r.mss with epoch := s.mss.epoch, poisoned := s.mss.poisoned }
    htp := { r.htp with lifeFrac := s.htp.lifeFrac }
    boot := { r.boot with kprHold := s.boot.kprHold, kprSafe := s.boot.kprSafe, rails := s.boot.rails }
    flash := s.flash
    fuses := s.fuses
    mem := s.mem
    outbox := s.outbox
    freeCtr := s.freeCtr }
  (List.range 32).foldl (fun (n : State) b => if getN s.gpioOut b false then n.out (.gpio b false) else n) n

/-- RETAINED is cleared and KPR_SAFE falls. -/
def State.clearRetained (s : State) : State :=
  (s.put ⟨(Reg.HTP_KPR_RET 1).ofs, 0, 0⟩ 0).keeperSafe false

/-- KPR_HOLD rises. -/
def State.holdRise (s : State) : State :=
  let s := { s with boot := { s.boot with kprHold := true } }
  if s.boot.stage = .training then { s with boot := { s.boot with holdPending := true } }
  else if s.boot.stage = .running ∧ s.boot.retaining = none ∧ s.storeOpen ∧ !s.flag Reg.HTP_SHUTDOWN_STATUS_SHUTDOWN then
    { s with boot := { s.boot with retaining := some 4 } }
  else s

/-- KPR_HOLD falls. -/
def State.holdFall (s : State) : State :=
  let s := { s with boot := { s.boot with kprHold := false, holdPending := false } }
  if s.boot.rails then s else s.loseDram.clearRetained

/-- The core rails fall. -/
def State.railsLost (s : State) : State :=
  let s := s.coldReset
  let s := { s with boot := { s.boot with rails := false } }
  let s := if s.boot.kprHold && s.boot.kprSafe then s else s.loseDram
  if s.boot.kprHold then s else s.clearRetained

/-- The record's magic and CRC hold and RETAINED is set (R420). -/
def State.recordGood (s : State) : Bool :=
  s.get (Reg.HTP_KPR_RET 0) == 0x5045454B && s.get (Reg.HTP_KPR_RET 63) == crc32 s.retBytes && bitAt (s.get (Reg.HTP_KPR_RET 1)) 0

/-- The power-on reset of the Keeper: what its registers hold is free, a record that fails its CRC reads as not retained, and the DRAM
is in reset. -/
def State.keeperOn (s : State) : State :=
  let s := s.coldReset
  let s := { s with boot := { s.boot with rails := false } }
  let l := (List.range 64).map (fun i => Reg.HTP_KPR_RET i) ++ (List.range 512).map (fun i => Reg.HTP_KPR_EVT (i / 8) (i % 8)) ++
    [Reg.HTP_LIFE_USED_LO, Reg.HTP_LIFE_USED_HI]
  let s := (s.puts (l.zipIdx.map (fun e => (e.1, Config.free (s.freeCtr + e.2)))))
  let s := { s with freeCtr := s.freeCtr + l.length }
  let s := s.loseDram.keeperSafe false
  if s.get (Reg.HTP_KPR_RET 63) = crc32 s.retBytes then s else s.clearRetained

/-- REBOOT: the retention, then the boot sequence. -/
def State.reboot (s : State) : State := { s with boot := { s.boot with retaining := some 3 } }

/-- A write to SCC_BOOT_CTL. -/
def State.bootCtl (s : State) (v : Nat) : State :=
  let s := if bitAt v 1 then s.advance else s
  if bitAt v 0 then s.reboot else s

/-! ### The commands -/

def execErase (t : Nat) (s : State) : Res := .next ((s.tick t).cmd .scc true Reg.SCC_FLASH_CTL 1 (fun s => s.flashErase))
def execProgram (t : Nat) (s : State) : Res := .next ((s.tick t).cmd .scc true Reg.SCC_FLASH_CTL 2 (fun s => s.flashProgram))
def execFlashOpDone (t : Nat) (ok : Bool) (s : State) : Res := .next ((s.tick t).flashDone ok)
def execReboot (t : Nat) (s : State) : Res := .next ((s.tick t).cmd .scc true Reg.SCC_BOOT_CTL 1 (fun s => s.reboot))
def execAdvance (t : Nat) (s : State) : Res := .next ((s.tick t).cmd .scc true Reg.SCC_BOOT_CTL 2 (fun s => s.advance))
def execKeyHash (t : Nat) (slot : Fin 4) (s : State) : Res :=
  .next ((s.tick t).cmd .scc true Reg.SCC_FUSE_CTL (0x10000000 + slot) (fun s => s.fuseCmd 1 slot))
def execRevoke (t : Nat) (slot : Fin 4) (s : State) : Res :=
  .next ((s.tick t).cmd .scc true Reg.SCC_FUSE_CTL (0x20000000 + slot) (fun s => s.fuseCmd 2 slot))
def execVendorDisable (t : Nat) (s : State) : Res :=
  .next ((s.tick t).cmd .scc true Reg.SCC_FUSE_CTL 0x30000000 (fun s => s.fuseCmd 3 0))
def execDbgClose (t : Nat) (s : State) : Res :=
  .next ((s.tick t).cmd .scc true Reg.SCC_FUSE_CTL 0x40000000 (fun s => s.fuseCmd 4 0))
def execLifecycleRetired (t : Nat) (s : State) : Res :=
  .next ((s.tick t).cmd .scc true Reg.SCC_FUSE_CTL 0x50000000 (fun s => s.fuseCmd 5 0))
def execFuseDone (t : Nat) (ok : Bool) (s : State) : Res := .next ((s.tick t).fuseDone ok)
def execKprHoldRise (t : Nat) (s : State) : Res := .next (s.tick t).holdRise
def execKprHoldFall (t : Nat) (s : State) : Res := .next (s.tick t).holdFall
def execCoreRailLoss (t : Nat) (s : State) : Res := .next (s.tick t).railsLost
def execKeeperPowerOn (t : Nat) (s : State) : Res := .next (s.tick t).keeperOn
def execSysRstAssert (t : Nat) (s : State) : Res := .next (s.tick t).coldReset

end Sys2Proof.Machine
end

