-- ==== Sys2Proof/Machine/Bus.lean ====
section
/-!
DEFINITION. The register bus: what a write of any register does, from any requester (R7 to R13, R41, R375, R376, R380, R381, R430, R440,
R469 to R475, and the chapters of the registers), and the Management SPI port.
-/

namespace Sys2Proof.Machine

/-- A register named by its offset. -/
def fldOf (ofs : Nat) : Fld := ⟨ofs, 31, 0⟩

/-! ### Writes that store (R11, R12, R41) -/

/-- An RW write: the writable bits take the value. -/
def State.rwWrite (s : State) (ofs mask : Nat) (v : Word) : State :=
  let m := BitVec.ofNat 32 mask
  s.setReg ofs ((v &&& m) ||| (s.reg ofs &&& ~~~m))

/-- A Change Set is being checked or is pending (R41). -/
def State.csBusy (s : State) : Bool := s.get Reg.CS_STATUS_STATE == 1 || s.get Reg.CS_STATUS_STATE == 2

/-- A write that R41 ignores is counted. -/
def State.csDropped (s : State) : State := s.put Reg.CS_STATUS_DROPPED (min 0xFF (s.get Reg.CS_STATUS_DROPPED + 1))

/-- An RWS write: the shadow copy takes the value, unless the unit is in a Change Set under way. -/
def State.rwsWrite (s : State) (u ofs mask : Nat) (v : Word) : State :=
  if s.csBusy && bitAt (s.get Reg.CS_MASK) u then s.csDropped
  else
    let m := BitVec.ofNat 32 mask
    s.setShadow ofs ((v &&& m) ||| (s.shadowReg ofs &&& ~~~m))

/-- A register without an effect of its own. -/
def State.plainWrite (s : State) (u ofs : Nat) (v : Word) : State :=
  match Regs.find ofs with
  | none => s
  | some r =>
    match r.access with
    | .rws => s.rwsWrite u ofs r.wmask v
    | .rw => s.rwWrite ofs r.wmask v
    | .w1c => s.setReg ofs (s.reg ofs &&& ~~~(v &&& BitVec.ofNat 32 r.c1mask))
    | .wr => s.setReg ofs (v &&& BitVec.ofNat 32 r.cmask)
    | _ => s

/-! ### Common windows -/

/-- MGMT_INT_N is driven low by the summaries routed to it (R451). -/
def State.mgmtLine (s : State) : Bool := (List.range 13).any (fun v => s.flag (Reg.DEV_INT_VEC_MGMT v) && s.summary v)

/-- A write to DEV_INT_VEC(u): the ball follows the routing. -/
def State.intVecWrite (s : State) (ofs : Nat) (v : Word) : State :=
  let n := s.plainWrite 0 ofs v
  if n.mgmtLine = s.mgmtLine then n else n.out (.mgmtInt n.mgmtLine)

/-- A write to the device-common window. -/
def State.devWrite (s : State) (by' : Requester) (ofs : Nat) (v : Word) : State :=
  let n := v.toNat
  if ofs = Reg.DEV_VIEW.ofs then s.setView by' 0 (bitAt n 0)
  else if ofs = Reg.DEV_EVT_STATUS.ofs then s.intClear 0 n
  else if ofs = Reg.DEV_EVT_ENABLE.ofs then (s.plainWrite 0 ofs v).refreshSummary 0
  else if ofs = Reg.DEV_EVT_FORCE.ofs then (s.plainWrite 0 ofs v).intForce 0 n
  else if ofs = Reg.CS_MASK.ofs then (if s.csBusy then s.csDropped else s.plainWrite 0 ofs v)
  else if ofs = Reg.CS_COMMIT.ofs then
    let s := s.plainWrite 0 ofs v
    if bitAt n 0 then s.commitWrite else s
  else if ofs = Reg.DEV_SNAP_CTL.ofs then
    let s := s.plainWrite 0 ofs v
    if bitAt n 0 then s.snapCtl else s
  else if 0x740 ≤ ofs ∧ ofs < 0x774 then s.intVecWrite ofs v
  else if 0x800 ≤ ofs ∧ ofs < 0x880 then s.inTurn (.gpio ((ofs - 0x800) / 4) v)
  else s.plainWrite 0 ofs v

/-- A write to UNIT_CTL: ENABLE, FREEZE, RESET_REQ, GRAFT_REQ in this order. -/
def State.unitCtlWrite (s : State) (u : UnitId) (v : Nat) : State :=
  let s := if bitAt v 0 then s.enableWrite u else s.disableWrite u
  let s := if bitAt v 1 = s.flag (Reg.UNIT_CTL_FREEZE u.id) then s else s.freeze u (bitAt v 1)
  let s := if bitAt v 4 then s.resetWrite u else s
  if bitAt v 5 then s.graftWrite u else s

/-- A write to the common unit block. -/
def State.commonWrite (s : State) (by' : Requester) (u : UnitId) (w : Nat) (v : Word) : State :=
  let ofs := 0x100000 * u.id + w
  match w with
  | 0x08 => s.unitCtlWrite u v.toNat
  | 0x14 => s.setView by' u.id (bitAt v.toNat 0)
  | 0x18 => s.intClear u.id v.toNat
  | 0x1C => (s.rwWrite ofs (intMask u.id) v).refreshSummary u.id
  | 0x20 => (s.setReg ofs (v &&& BitVec.ofNat 32 (intMask u.id))).intForce u.id v.toNat
  | 0x30 =>
    let d := v.toNat % 65536
    if d < 5 ∨ 1000 < d then s.refuse u 0x0D10 (fldOf ofs) else s.plainWrite u.id ofs v
  | _ => s.plainWrite u.id ofs v

/-! ### Unit windows -/

/-- SLR. -/
def State.slrWrite (s : State) (ofs w : Nat) (v : Word) : State :=
  if w = 0x120 ∨ w = 0x1A0 then (s.linkCtl ((w - 0x100) / 0x80) v.toNat).slrFinish
  else if w = 0x500 ∨ w = 0x510 ∨ w = 0x520 then s.sctlWord ((w - 0x500) / 0x10) v
  else if 0x1000 ≤ w ∧ w % 0x40 = 0x14 then s.laneTestWrite ((w - 0x1000) / 0x40) v
  else s.plainWrite 1 ofs v

/-- RFE. -/
def State.rfeWrite (s : State) (ofs w : Nat) (v : Word) : State :=
  if tableWindow ofs then s.tableWrite w v
  else if ofs = Reg.RFE_TBL_CTL.ofs then (if v.toNat % 8 = 0 then s.plainWrite 2 ofs v else (s.plainWrite 2 ofs v).requestSwap (v.toNat % 8))
  else if ofs = Reg.RFE_CAL_CFG.ofs then s.calModeWrite v
  else if ofs = Reg.RFE_CAL_CTL.ofs then (s.plainWrite 2 ofs v).calCtl v.toNat
  else
    match s.calParam w v.toNat with
    | some code => s.refuse .rfe code (fldOf ofs)
    | none => s.plainWrite 2 ofs v

/-- CSE. -/
def State.cseWrite (s : State) (ofs w : Nat) (v : Word) : State :=
  let p := (w - 0x1000) / 0x400
  if tableWindow ofs then s.rpTableWrite w v
  else if ofs = Reg.CSE_TNR_CTL.ofs then
    let s := s.plainWrite 3 ofs v
    let s := if bitAt v.toNat 0 then s.setCse (fun c => { c with histReset := true }) else s
    if bitAt v.toNat 1 then s.cseClr else s
  else if 0x1000 ≤ w ∧ w < 0x3000 ∧ w % 0x400 = 0x98 then
    let s := s.plainWrite 3 ofs v
    if bitAt v.toNat 0 then s.lutLoad p else s
  else if 0x1000 ≤ w ∧ w < 0x3000 ∧ w % 0x400 = 0xA0 then
    let s := s.plainWrite 3 ofs v
    if bitAt v.toNat 0 then s.rpRequestSwap p else s
  else s.plainWrite 3 ofs v

/-- PCD. -/
def State.pcdWrite (s : State) (ofs w : Nat) (v : Word) : State :=
  let i := (w - 0x1000) / 0x200
  let o := w % 0x200
  if 0x1000 ≤ w ∧ i < 4 ∧ o = 0x30 then
    let s := s.plainWrite 4 ofs v
    let s := if bitAt v.toNat 0 then s.forceIrap i else s
    if bitAt v.toNat 1 then s.pcdClr i else s
  else if 0x1800 ≤ w ∧ w < 0x1C00 ∧ 0x28 ≤ o ∧ o < 0x58 ∧ o ≠ 0x34 then s.refuse .pcd 0x0401 (fldOf ofs)
  else s.plainWrite 4 ofs v

/-- RPK. -/
def State.rpkWrite (s : State) (ofs w : Nat) (v : Word) : State :=
  let e := (w - 0x1000) / 0x100
  if w < 0x1000 ∨ 0x1400 ≤ w then s.plainWrite 5 ofs v
  else
    match w % 0x100 with
    | 0x08 => s.ringWrite e (fldOf ofs) v
    | 0x0C => s.ringWrite e (fldOf ofs) (v &&& 0xFF)
    | 0x10 => s.ringWrite e (fldOf ofs) (v &&& 0x1FFF)
    | 0x1C => s.ringWrite e (fldOf ofs) v
    | 0x20 => s.ringWrite e (fldOf ofs) (v &&& 0xFF)
    | 0x2C =>
      let s := s.plainWrite 5 ofs v
      if bitAt v.toNat 0 then s.engClr e else s
    | _ => s.plainWrite 5 ofs v

/-- ORE. What a sink answers to a software AUX transaction is free here; AUX_CMD names it. -/
def State.oreWrite (s : State) (ofs w : Nat) (v : Word) : State :=
  let n := v.toNat
  if tableWindow ofs then s.palWrite w v
  else if 0x1000 ≤ w ∧ w < 0x1800 ∧ w % 0x100 = 0x18 then
    let g := (w - 0x1000) / 0x100
    let s := s.plainWrite 6 ofs v
    let s := if bitAt n 0 then s.tgClr g else s
    if bitAt n 31 then s.palRequest g else s
  else if w = 0x6004 ∨ w = 0x6104 then
    let k := (w - 0x6000) / 0x100
    let s := s.plainWrite 6 ofs v
    let s := if bitAt n 0 then s.psrEnter k else s
    let s := if bitAt n 1 then s.psrExit k else s
    if bitAt n 2 then s.pnlRetrain k else s
  else if w = 0x6010 ∨ w = 0x6110 then
    let reply := (List.range 4).map (fun i => BitVec.ofNat 32 (Config.free (s.freeCtr + i)))
    ({ s.plainWrite 6 ofs v with freeCtr := s.freeCtr + 4 }).auxCmd ((w - 0x6000) / 0x100) v reply
  else s.plainWrite 6 ofs v

/-- APU. -/
def State.apuWrite (s : State) (ofs w : Nat) (v : Word) : State :=
  let n := v.toNat
  if tableWindow ofs then s.slotMapWrite ofs ((w - 0x8000) / 0x100) (w % 0x80 / 0x40) (w % 0x40 / 4) v
  else if ofs = Reg.APU_START_CTL.ofs then
    let s := s.plainWrite 7 ofs v
    if bitAt n 0 then s.apuGo else s
  else if 0x1000 ≤ w ∧ w < 0x1800 ∧ w % 0x100 = 0x10 then
    let p := (w - 0x1000) / 0x100
    let s := s.plainWrite 7 ofs v
    let s := if bitAt n 2 then s.apuClr p else s
    let s := if bitAt n 3 then s.apuSwap p else s
    let s := if bitAt n 1 then s.apuStop p else s
    if bitAt n 0 then s.armPort p else s
  else s.plainWrite 7 ofs v

/-- RTU. -/
def State.rtuWrite (s : State) (ofs w : Nat) (v : Word) : State :=
  let n := v.toNat
  if ofs = Reg.RTU_REF_CFG.ofs then s.refCfgWrite v
  else if ofs = (Reg.RTU_PTP_CFG 0).ofs then s.ptpCfgWrite 0 v
  else if ofs = (Reg.RTU_PTP_CFG 1).ofs then s.ptpCfgWrite 1 v
  else if ofs = Reg.RTU_TIME_CTL.ofs then
    let s := s.plainWrite 8 ofs v
    let s := if bitAt n 0 then s.snapTime else s
    if bitAt n 1 then s.setTime else s
  else if w = 0x314 ∨ w = 0x334 then
    let s := s.plainWrite 8 ofs v
    if bitAt n 0 then s.tsPop ((w - 0x300) / 0x20) else s
  else if s.rtuParam ofs n then s.refuse .rtu 0x0801 (fldOf ofs)
  else s.plainWrite 8 ofs v

/-- MSS. -/
def State.mssWrite (s : State) (ofs w : Nat) (v : Word) : State :=
  let n := v.toNat
  if tableWindow ofs then s.slotWrite ofs ((w - 0x40000) / 0x400) (w % 0x400 / 0x200) (w % 0x200 / 4) v
  else if ofs = Reg.MSS_ARB_CFG.ofs then s.arbWrite v
  else if ofs = Reg.MSS_NREF_CFG.ofs then s.nrefWrite v
  else if ofs = Reg.MSS_CRC_TEST_CTL.ofs then
    let s := s.plainWrite 9 ofs v
    if bitAt n 0 then s.crcTest else s
  else if 0x800 ≤ w ∧ w < 0x900 ∧ (Regs.find ofs).any (fun r => r.name == "MSS_REEL_CTL") then
    s.recWrite (((Regs.find ofs).map (fun r => r.inst w)).getD 0) (bitAt n 0)
  else if 0x1000 ≤ w ∧ w < 0x2000 ∧ w % 0x100 = 0x08 then
    let c := (w - 0x1000) / 0x100
    let s := s.plainWrite 9 ofs v
    let s := if bitAt n 1 then s.slotClr c else s
    if bitAt n 0 then s.slotSwap c else s
  else s.plainWrite 9 ofs v

/-- HIF. -/
def State.hifWrite (s : State) (ofs w : Nat) (v : Word) : State :=
  if 0x1000 ≤ w ∧ w < 0x2000 then
    let q := (w - 0x1000) / 0x40
    match w % 0x40 with
    | 0x00 => s.qpCfgWrite q v.toNat
    | 0x04 => s.qpBaseWrite q (fldOf ofs) v.toNat
    | 0x08 => s.qpBaseWrite q (fldOf ofs) v.toNat
    | 0x0C => s.qpBaseWrite q (fldOf ofs) v.toNat
    | 0x10 => s.qpBaseWrite q (fldOf ofs) v.toNat
    | _ => s
  else if ofs = Reg.HIF_APT_BASE_LO.ofs ∧ v.toNat % 0x800000 ≠ 0 then s.refuse .hif 0x0A04 (fldOf ofs)
  else if 0x10000 ≤ w ∧ w < 0x18000 ∧ w % 16 = 12 then (s.plainWrite 10 ofs v).sendPending
  else s.plainWrite 10 ofs v

/-- SCC. -/
def State.sccWrite (s : State) (by' : Requester) (ofs w : Nat) (v : Word) : State :=
  let n := v.toNat
  if ofs = Reg.SCC_BOOT_CTL.ofs then (s.plainWrite 11 ofs v).bootCtl n
  else if ofs = Reg.SCC_FUSE_CTL.ofs then (s.plainWrite 11 ofs v).fuseCmd (bits n 31 28) (n % 4)
  else if ofs = Reg.SCC_FLASH_CTL.ofs then
    let s := s.plainWrite 11 ofs v
    let s := if bitAt n 0 then s.flashErase else s
    if bitAt n 1 then s.flashProgram else s
  else if 0x31000 ≤ w ∧ w < 0x32000 then
    let k := (w - 0x31000) / 0x200
    if w % 0x200 = 0 then s.inTurn (.wrPort k v)
    else if w % 0x200 = 4 then
      let s := s.plainWrite 11 ofs v
      if bitAt n 8 then s.push k (n % 4 + 1) .ok else s
    else s.plainWrite 11 ofs v
  else if 0x32000 ≤ w ∧ w < 0x32800 then
    let k := (w - 0x32000) / 0x100
    if w % 0x100 = 0 then s.inTurn (.rdPort k v)
    else if w % 0x100 = 4 then
      let s := s.plainWrite 11 ofs v
      if bitAt n 0 then s.popPort k .ok 0 else s
    else s.plainWrite 11 ofs v
  else if 0x40000 ≤ w ∧ w < 0x48000 ∧ w % 0x20 = 0x10 then
    let q := (w - 0x40000) / 0x20
    let s := s.plainWrite 11 ofs v
    let s := if bitAt n 0 then s.puts [(Reg.SCC_CPQ_LOST q, 0), (Reg.SCC_CNT_POST_FAIL q, 0)] else s
    let s := if bitAt n 1 then s.cpReset q else s
    if bitAt n 2 then s.cpReinstate q else s
  else if h : 0x50000 ≤ w ∧ w < 0x50400 then s.release ⟨(w - 0x50000) / 4, by omega⟩ by'.code
  else if ofs = Reg.SCC_LOCK_CTL.ofs then
    let s := s.plainWrite 11 ofs v
    if bitAt n 31 then s.breakLock ⟨n % 256, Nat.mod_lt _ (by decide)⟩ by'.code else s
  else s.plainWrite 11 ofs v

/-- HTP. -/
def State.htpWrite (s : State) (ofs w : Nat) (v : Word) : State :=
  let n := v.toNat
  if ofs = Reg.HTP_PWR_CTL.ofs then (s.plainWrite 12 ofs v).powerWrite n
  else if ofs = Reg.HTP_ZONE_CTL.ofs then (s.plainWrite 12 ofs v).readmit n
  else if ofs = Reg.HTP_GAUGE_CTL.ofs then
    let s := s.plainWrite 12 ofs v
    if bitAt n 31 then s.gaugeSnap else s
  else if ofs = Reg.HTP_THR_LOW.ofs ∨ ofs = Reg.HTP_THR_HIGH.ofs then s.thresholdWrite (fldOf ofs) v
  else if ofs = Reg.HTP_THR_CRIT.ofs then s.thresholdWrite (fldOf ofs) (v &&& 0xFFFF)
  else if ofs = Reg.HTP_POLLARD_CFG.ofs then s.thresholdWrite (fldOf ofs) (v &&& 0xFF0F0000)
  else if 0x2000 ≤ w ∧ w < 0x6000 ∧ w % 0x200 < 0x0C then s.gaugeWrite ((w - 0x2000) / 0x200) (w % 0x200 / 4) v
  else s.plainWrite 12 ofs v

/-- A write beyond the common unit block of a present unit. -/
def State.unitWrite (s : State) (by' : Requester) (u : UnitId) (ofs : Nat) (v : Word) : State :=
  let w := ofs % 0x100000
  match u with
  | .slr => s.slrWrite ofs w v
  | .rfe => s.rfeWrite ofs w v
  | .cse => s.cseWrite ofs w v
  | .pcd => s.pcdWrite ofs w v
  | .rpk => s.rpkWrite ofs w v
  | .ore => s.oreWrite ofs w v
  | .apu => s.apuWrite ofs w v
  | .rtu => s.rtuWrite ofs w v
  | .mss => s.mssWrite ofs w v
  | .hif => s.hifWrite ofs w v
  | .scc => s.sccWrite by' ofs w v
  | .htp => s.htpWrite ofs w v

/-- A write on the register bus, at a byte offset of BAR0: a shutdown refuses it (R430), an absent unit or instance and an offset of no
register ignore it (R7, R8, R469), a removed unit refuses it beyond the common block (R440). -/
def State.busWrite (s : State) (by' : Requester) (ofs : Nat) (v : Word) : State :=
  if s.flag Reg.HTP_SHUTDOWN_STATUS_SHUTDOWN then s.refuse .htp 0x0C05 (fldOf ofs)
  else if ofs % 4 ≠ 0 then s
  else if ofs < 0x100000 then s.devWrite by' ofs v
  else
    match UnitId.ofId (ofs / 0x100000) with
    | none => s
    | some u =>
      if !s.variant.hasReg ofs then s
      else if ofs % 0x100000 < 0x100 then s.commonWrite by' u (ofs % 0x100000) v
      else if s.removed u then s.refuse u 0x0D0E (fldOf ofs)
      else s.unitWrite by' u ofs v

/-- The register bus is released to a requester: in RECOVERY to the Management SPI port alone (R381, R411). -/
def State.busFor (s : State) (by' : Requester) : Bool :=
  s.boot.busOpen && (s.boot.stage != .recovery || by' == .mgmt)

/-! ### The Management SPI port (R380, R381, R430) -/

/-- A read on behalf of the port; SCC_LOCK is acquired (R371). -/
def State.mgmtRead (s : State) (ofs : Nat) : State :=
  let w := ofs % 0x100000
  if h : ofs / 0x100000 = 11 ∧ 0x50000 ≤ w ∧ w < 0x50400 ∧ ofs % 4 = 0 then
    if s.flag Reg.HTP_SHUTDOWN_STATUS_SHUTDOWN ∨ s.removed .scc then s.out (.mgmtReply 0x80 0)
    else
      let (d, s) := s.acquire ⟨(w - 0x50000) / 4, by omega⟩ Requester.mgmt.code
      s.out (.mgmtReply 0x80 d)
  else s.out (.mgmtReply 0x80 (if ofs % 4 = 0 then s.readReg .mgmt ofs else 0))

/-- A failed transaction. -/
def State.mgmtFail (s : State) (status : Nat) : State :=
  ((s.count Reg.HIF_CNT_MGMT_ERR 1).raise .hif 4).out (.mgmtReply status 0)

/-- A transaction of the port. `cut` says that it ended before the last data byte of a write, `late` that the access did not complete
within 100 µs. -/
def State.mgmt (s : State) (op addr : Nat) (v : Word) (cut late : Bool) : State :=
  let down := s.flag Reg.HTP_SHUTDOWN_STATUS_SHUTDOWN
  if (op ≠ 0x02 ∧ op ≠ 0x0B) ∨ cut ∨ (!s.clocked ∧ !down) ∨ s.boot.stage = .held then s
  else if !s.boot.busOpen then s.out (.mgmtReply 0x83 0)
  else if 0x4000000 ≤ addr then s.mgmtFail 0x81
  else if late then s.mgmtFail 0x82
  else if op = 0x0B then s.mgmtRead addr
  else (s.busWrite .mgmt addr v).out (.mgmtReply 0x80 0)

/-! ### The commands -/

def execRegisterWrite (t : Nat) (by' : Requester) (ofs : Nat) (v : Word) (s : State) : Res :=
  let s := s.tick t
  .next (if s.busFor by' then s.busWrite by' ofs v else s)
def execMgmtTransaction (t : Nat) (op : Fin 256) (addr : Word) (v : Word) (cut late : Bool) (s : State) : Res :=
  .next ((s.tick t).mgmt op addr.toNat v cut late)
/-- A read completes Unsupported Request; a write is dropped (and logged through AER, which is no state of the part's registers). -/
def execBar0BadAccess (t : Nat) (write : Bool) (addr : Nat) (s : State) : Res :=
  let s := s.tick t
  .next (if write ∨ !s.hostUp then s else s.out (.unsupportedRequest addr))

end Sys2Proof.Machine
end

