-- ==== Sys2Proof/Machine/Boot.lean ====
section
/-!
DEFINITION. The boot sequence (16_boot_and_security.md, R405 to R412, R419, R420, R485; R330, R331, R339, R350, R460, R462, R480):
the release of reset, the load after training, and the end of a retention.
-/

namespace Sys2Proof.Machine

/-- n free bytes. -/
def State.takeFree (s : State) (n : Nat) : List Byte × State :=
  ((List.range n).map (fun i => BitVec.ofNat 8 (Config.free (s.freeCtr + i))), { s with freeCtr := s.freeCtr + n })

/-! ### Validation of a slot (R406, R408) -/

/-- The image of a slot. -/
def State.slotImage (s : State) (slot : Nat) (o : Nat) : Byte := s.flashByte (slotBase slot + o)

/-- Sections of a type. -/
def secsOf (l : List ImgSec) (typ : Nat) : List ImgSec := l.filter (fun c => c.typ == typ)

/-- The bytes of the first section of a type. -/
def secBytes (rd : Nat → Byte) (l : List ImgSec) (typ : Nat) : List Byte :=
  match secsOf l typ with
  | [] => []
  | c :: _ => imgBytes rd c.off c.bytes

/-- No two entries of a list are equal. -/
def distinct : List Nat → Bool
  | [] => true
  | a :: t => !t.contains a && distinct t

/-- MISSING_SECTION of R406; a Vendor ID of 0xFFFF counts as an absent PCIE_IDS section (Table BOOT-3). -/
def sectionsMissing (rd : Nat → Byte) (l : List ImgSec) : Bool :=
  ([1, 5, 7, 8] : List Nat).any (fun t => (secsOf l t).isEmpty) ||
  l.any (fun c => c.typ != 2 && c.typ != 3 && c.typ != 9 && decide (1 < (secsOf l c.typ).length)) ||
  !distinct ((secsOf l 9).map (fun c => (rd c.off).toNat)) || leVal (bytesAt (secBytes rd l 7) 0 2) == 0xFFFF

/-- The unit records of an image, in order: offset and value. -/
def unitRecords (rd : Nat → Byte) (l : List ImgSec) : List (Nat × Word) :=
  (secsOf l 2).flatMap (fun c => (List.range (c.bytes / 8)).map (fun i =>
    (imgVal rd (c.off + 8 * i) 4, BitVec.ofNat 32 (imgVal rd (c.off + 8 * i + 4) 4))))

/-- A record outside BAR0 or in the registers of this chapter (R408, check 5). -/
def recordForbidden (r : Nat × Word) : Bool := decide (0x4000000 ≤ r.1) || decide (0xB00100 ≤ r.1 ∧ r.1 < 0xB00400)

/-- A microcode section that names no unit, or a unit that takes no graft. -/
def microcodeForbidden (rd : Nat → Byte) (c : ImgSec) : Bool :=
  match UnitId.ofId (rd c.off).toNat with
  | some u => !u.pixel
  | none => true

/-- Checks 1 to 5 of R408 on a slot: 0, or the code of Table BOOT-8. -/
def State.slotCheck (s : State) (slot : Nat) : Nat :=
  let rd := s.slotImage slot
  match imgHeader rd (slotLimit slot) with
  | none => 0x01
  | some h =>
    let l := imgSections rd h.sections
    let v := s.verifyImage rd h h.keySlot
    if v ≠ 0 then v
    else if h.rollback < s.rollbackF then 0x05
    else if bitAt h.flags 0 && !s.dbgClosed then 0x06
    else if l.any (fun c => decide (c.typ = 0 ∨ 9 < c.typ) && bitAt c.flags 0) then 0x08
    else if sectionsMissing rd l then 0x07
    else if (unitRecords rd l).any recordForbidden || (secsOf l 9).any (microcodeForbidden rd) then 0x09
    else 0

/-- The digests (check 6) of the sections that `want` names. -/
def State.slotDigests (s : State) (slot : Nat) (want : ImgSec → Bool) : Nat :=
  let rd := s.slotImage slot
  match imgHeader rd (slotLimit slot) with
  | none => 0x01
  | some h => if ((imgSections rd h.sections).filter want).all (secGood rd) then 0 else 0x0A

/-- Result register of a slot. -/
def slotResult (slot : Nat) : Fld := if slot = 0 then Reg.SCC_BOOT_STATUS_SLOT_A_RESULT else Reg.SCC_BOOT_STATUS_SLOT_B_RESULT

/-- Slots in the order of R408: the valid header with the higher SEQUENCE first, A when the two are equal. -/
def State.slotOrder (s : State) : List Nat :=
  let seq := fun (k : Nat) => (imgHeader (s.slotImage k) (slotLimit k)).map (fun h => h.seq)
  match seq 0, seq 1 with
  | some a, some b => if a < b then [1, 0] else [0, 1]
  | none, some _ => [1, 0]
  | _, _ => [0, 1]

/-- Validate slots in turn: the first that passes and those still to be tried, with each result shown. -/
def State.trySlots (s : State) (check : State → Nat → Nat) : List Nat → Option (Nat × List Nat) × State
  | [] => (none, s)
  | k :: rest =>
    let code := check s k
    let s := s.put (slotResult k) code
    if code = 0 then (some (k, rest), s) else s.trySlots check rest

/-! ### Reset release (R330, R332, R408, R409, R411) -/

/-- Both slots failed (R411). -/
def State.recovery (s : State) : State :=
  let (r, s) := s.fresh
  ({ s with boot := { s.boot with stage := .recovery, busOpen := true } }).puts
    [(Reg.SCC_BOOT_STATUS_STATE, 2), (Reg.SCC_BOOT_STATUS_RESULT, r % 256)]

/-- DRAM_CONFIG goes into MSS_CFG; each channel's LFSR takes a free non-zero seed, and the channels train. -/
def State.trainStart (s : State) (cfg : List Byte) : State :=
  let v := fun (i : Nat) => leVal (bytesAt cfg i 1)
  let s := s.puts [(Reg.MSS_CFG_CHANNELS, s.variant.channels), (Reg.MSS_CFG_GRADE, v 0 % 4), (Reg.MSS_CFG_DENSITY, v 1 % 2),
    (Reg.MSS_CFG_RANKS, (v 2 - 1) % 2)]
  let n := s.variant.channels
  let s := (List.range n).foldl (fun (s : State) c =>
    (s.setCh c (fun (x : ChSt) => { x with lfsr := Config.free (s.freeCtr + c) % (2 ^ 32 - 1) + 1, retriedTraining := false })).put
      (Reg.MSS_CH_STATUS_TRAIN c) 1) s
  { s with freeCtr := s.freeCtr + n, boot := { s.boot with stage := .training } }

/-- The boot sequence up to training. -/
def State.bootStart (s : State) : State :=
  if s.boot.stage ≠ .held then s
  else
    let retained := s.recordGood && s.boot.kprHold
    let s := { s with media := 0, boot := { s.boot with released := s.now, rails := true, retained := retained } }
    let s := (if retained then s else s.loseDram).showFuses
    let s := s.puts [(Reg.SCC_BOOT_STATUS_STATE, 0), (Reg.SCC_BOOT_STATUS_SLOT_A_RESULT, 0xFF), (Reg.SCC_BOOT_STATUS_SLOT_B_RESULT, 0xFF)]
    let check := fun (s : State) (k : Nat) =>
      let c := s.slotCheck k
      if c ≠ 0 then c else s.slotDigests k (fun x => x.typ == 5 || x.typ == 6)
    match s.trySlots check s.slotOrder with
    | (none, s) => s.recovery
    | (some (k, rest), s) =>
      let s := { s with boot := { s.boot with slot := k, other := !rest.isEmpty } }
      let rd := s.slotImage k
      match imgHeader rd (slotLimit k) with
      | none => s.recovery
      | some h => s.trainStart (secBytes rd (imgSections rd h.sections) 5)

/-! ### The store at boot (R350, R420) -/

/-- DRAM that the configuration gives: 8 GiB per channel, density step and rank. -/
def State.dramBytes (s : State) : Nat :=
  0x200000000 * 2 ^ (s.get Reg.MSS_CFG_DENSITY) * (s.get Reg.MSS_CFG_RANKS + 1) * s.variant.channels

/-- A reel of the layout agrees with its descriptor in the store, whose CRC holds. -/
def State.descriptorSame (s : State) (base r : Nat) (x : ReelSt) : Bool :=
  s.read (base + 4096 * (2 + r)) 4096 == Machine.reelDescriptor r x

/-- The retained store can be reopened under a layout: the header at the recorded base is current, its GENERATION is the recorded one, and
the layout and the reel descriptors are the same. -/
def State.reopenable (s : State) (c : ClipSt) : Bool :=
  let base := s.addr40 (Reg.HTP_KPR_RET 3) (Reg.HTP_KPR_RET 4)
  let g0 := (s.headerGen base 0).getD 0
  let g1 := (s.headerGen base 1).getD 0
  let cur := if g0 < g1 then 1 else 0
  let h := s.read (base + 4096 * cur) 4096
  decide (max g0 g1 ≠ 0) && max g0 g1 == s.get (Reg.HTP_KPR_RET 2) && h == storeHeader { c with generation := max g0 g1 } &&
    (List.range 8).all (fun r => s.descriptorSame base r (getN c.reels r ReelSt.reset))

/-- The old store stays untouched: its place is kept from the plan, and no reel is present. -/
def State.refuseLayout (s : State) : State :=
  let base := s.addr40 (Reg.HTP_KPR_RET 3) (Reg.HTP_KPR_RET 4)
  let cur := if (s.headerGen base 0).getD 0 < (s.headerGen base 1).getD 0 then 1 else 0
  let blocks := leVal (bytesAt (s.read (base + 4096 * cur) 32) 24 8)
  let s := if (s.headerGen base cur).isNone then s else
    s.puts [(Reg.MSS_CLIP_BASE_LO, base % 2 ^ 32), (Reg.MSS_CLIP_BASE_HI, base / 2 ^ 32),
      (Reg.MSS_CLIP_BLOCKS_LO, blocks % 2 ^ 32), (Reg.MSS_CLIP_BLOCKS_HI, blocks / 2 ^ 32)]
  s.put Reg.MSS_CLIP_STATE_STATE 3

/-- Open the clip store: reopen, create, or leave alone. -/
def State.openStore (s : State) (c : ClipSt) : State :=
  let bad := !s.layoutOk c
  let s := if bad then s.refuse .mss 0x0906 Reg.MSS_CLIP_BASE_LO else s
  if s.boot.retained then
    if !bad && s.reopenable c then s.reopenStore c else s.refuseLayout
  else if bad then s
  else s.createStore c

/-- One entry of the Lineage Table for a page of the store, the event log or the table itself (KIND 8 or 9); the fields that such a page
has no use for are free, and so is the producer where none is named. -/
def State.pageLineage (s : State) (kind : Nat) (unit : Option Nat) (first p : Nat) : State :=
  let (f, s) := s.takeFree 17
  let who : List Byte := match unit with
    | some u => leBytes 1 u ++ [0]
    | none => f.take 2
  s.write (s.linBase + 32 * p) (leBytes 1 kind ++ who ++ [0] ++ (f.drop 2).take 6 ++ leBytes 4 first ++ (f.drop 8).take 7 ++ [0] ++ f.drop 15 ++ zeros 8)

/-- The event log and the Lineage Table take pages of their own; their pages and those of the clip store have their entries. -/
def State.placeFixed (s : State) : State :=
  let clip := pagesOf (s.addr40 Reg.MSS_CLIP_BASE_LO Reg.MSS_CLIP_BASE_HI) (4096 * (s.get Reg.MSS_CLIP_BLOCKS_LO + 2 ^ 32 * s.get Reg.MSS_CLIP_BLOCKS_HI))
  let top := pagesOf (s.mss.capacity - 0x10000 * s.variant.channels) (0x10000 * s.variant.channels)
  let total := s.mss.capacity / pageBytes
  let place := fun (used : List (Nat × Nat)) (n kind : Nat) =>
    let start := Config.planBase s.planSeq kind 0
    (findPages used total n start).getD (start % max 1 total)
  let log := place [clip, top] 1 BufKind.eventLog.code
  let lin := place [clip, top, (log, log + 1)] 4 BufKind.lineage.code
  let s := s.puts [(Reg.DEV_EVLOG_BASE_LO, log * pageBytes % 2 ^ 32), (Reg.DEV_EVLOG_BASE_HI, log * pageBytes / 2 ^ 32),
    (Reg.MSS_LIN_BASE_LO, lin * pageBytes % 2 ^ 32), (Reg.MSS_LIN_BASE_HI, lin * pageBytes / 2 ^ 32)]
  let s := s.pageLineage 9 (some UnitId.scc.id) log log
  let s := (List.range 4).foldl (fun (s : State) i => s.pageLineage 9 none lin (lin + i)) s
  (List.range (clip.2 - clip.1)).foldl (fun (s : State) i => s.pageLineage 8 none clip.1 (clip.1 + i)) s

/-- The 64 Keeper event records are copied into the event log ring, with FLAGS bit 0, at the index of their own SEQ; the log goes on
after the highest. -/
def State.copyKeeperEvents (s : State) : State :=
  let base := s.addr40 Reg.DEV_EVLOG_BASE_LO Reg.DEV_EVLOG_BASE_HI
  let n := s.get Reg.DEV_EVLOG_SEQ
  let s := (List.range 64).foldl (fun (s : State) i =>
    let b := (List.range 8).flatMap (fun w => leBytes 4 (s.get (Reg.HTP_KPR_EVT i w)))
    let b := putBytes b 19 ((bytesAt b 19 1).map (fun x => x ||| 1))
    s.write (base + 32 * (s.get (Reg.HTP_KPR_EVT i 0) % 4096)) b) s
  s.put Reg.DEV_EVLOG_SEQ ((max n (maxN ((List.range 64).map (fun i => s.get (Reg.HTP_KPR_EVT i 0) + 1)))) % 2 ^ 32)

/-! ### Unit records (R409, R410) -/

/-- The enables and Change Sets that a record started run their checks. -/
def State.runChecks (s : State) (fuel : Nat) : State :=
  match fuel with
  | 0 => s
  | n + 1 => if s.checks.isEmpty then s else s.runCheck.runChecks n

/-- Apply one record. A record that names an absent unit or instance is refused with 0x0D01 (R9); `first` is the unit whose enable was
refused first. -/
def State.applyRecord (first : Option Nat) (s : State) (r : Nat × Word) : Option Nat × State :=
  let u := r.1 / 0x100000
  let enable := u != 0 && r.1 % 0x100000 == 0x08 && r.2.getLsbD 0
  if !s.variant.hasReg r.1 then
    (if enable then first.orElse (fun _ => some u) else first, s.put Reg.DEV_LDG_STATUS_LAST_REASON 0x0D01)
  else
    let s := s.busWrite .heartwood r.1 r.2
    let s := s.runChecks (s.checks.length + 1)
    (if enable && !s.flag (Reg.UNIT_STATUS_ENABLED u) then first.orElse (fun _ => some u) else first, s)

/-- Apply records in order. -/
def State.applyRecords (first : Option Nat) (s : State) : List (Nat × Word) → Option Nat × State
  | [] => (first, s)
  | r :: t => let (f, s) := State.applyRecord first s r; State.applyRecords f s t

/-! ### Boot completes (R409 to R411, R485) -/

/-- Sections that go to DRAM. -/
def dramSections (l : List ImgSec) : List ImgSec := l.filter (fun c => c.typ == 1 || c.typ == 3)

/-- What the image booted shows, and Heartwood's units enabled. -/
def State.imageShown (s : State) (rd : Nat → Byte) (h : ImgHdr) (l : List ImgSec) : State :=
  let m := imgDigest rd h
  let s := { s with boot := { s.boot with keySlot := h.keySlot, rollback := h.rollback, fwVersion := h.fw, pcieIds := secBytes rd l 7 } }
  let s := s.puts ([(Reg.SCC_BOOT_SEQ, h.seq), (Reg.SCC_BOOT_STATUS_SLOT, s.boot.slot), (Reg.HIF_WBUF_BYTES, Config.clipField (secBytes rd l 8) 38)] ++
    (List.range 16).map (fun i => (Reg.SCC_IMAGE_DIGEST i, leVal (bytesAt m (4 * i) 4))))
  (([9, 10, 11, 12] : List Nat).foldl (fun (s : State) u => s.puts [(Reg.UNIT_CTL_ENABLE u, 1), (Reg.UNIT_STATUS_ENABLED u, 1)]) s)

/-- The register bus is released with a result. -/
def State.released (s : State) (result unit : Nat) : State :=
  ({ s with boot := { s.boot with stage := .running, busOpen := true } }).puts
    [(Reg.SCC_BOOT_STATUS_STATE, 1), (Reg.SCC_BOOT_STATUS_RESULT, result), (Reg.SCC_BOOT_STATUS_UNIT, unit),
     (Reg.SCC_BOOT_TIME, (s.now - s.boot.released) / 400 % 2 ^ 32)]

/-- The store opens, the sections load, the records apply and the bus is released. -/
def State.bootFinish (s : State) (rd : Nat → Byte) (h : ImgHdr) (l : List ImgSec) : State :=
  let s := s.imageShown rd h l
  let s := (s.openStore (layout (secBytes rd l 8))).placeFixed.copyKeeperEvents.clearRetained
  let s := (dramSections l).foldl (fun (s : State) c => s.write c.dest (imgBytes rd c.off c.bytes)) s
  let s := (secsOf l 9).foldl (fun (s : State) c =>
    match UnitId.ofId (rd c.off).toNat with
    | some u => if s.variant.has u then s.setUnit u (fun x => { x with ucode := some (rd (c.off + 1)).toNat }) else s
    | none => s) s
  let (refused, s) := State.applyRecords none s (unitRecords rd l)
  let s := if (secsOf l 4).isEmpty || !Config.planDiffers (secBytes rd l 4) s.planSeq then s
    else s.logEvt .scc 0 0x85 0x12 0 0 (s.get Reg.DEV_LDG_STATUS_PLAN_SEQ)
  let s := match refused with
    | some u => s.released 0x0B u
    | none => s.released 0 0
  if s.boot.holdPending then
    { s with boot := { s.boot with holdPending := false, retaining := if s.storeOpen then some 4 else s.boot.retaining } }
  else s

/-- The slot that loads after training: the chosen one if its digests hold, else the other if it passes from check 1. -/
def State.loadSlot (s : State) : Option Nat × State :=
  let full := fun (s : State) (k : Nat) =>
    let c := if k = s.boot.slot then 0 else s.slotCheck k
    if c ≠ 0 then c else s.slotDigests k (fun _ => true)
  match s.trySlots full (s.boot.slot :: (if s.boot.other then [1 - s.boot.slot] else [])) with
  | (none, s) => (none, s)
  | (some (k, _), s) => (some k, s)

/-- Every channel has trained or failed. -/
def State.trained (s : State) : Bool :=
  s.boot.stage == .training &&
    (List.range s.variant.channels).all (fun c => s.get (Reg.MSS_CH_STATUS_TRAIN c) == 2 || s.get (Reg.MSS_CH_STATUS_TRAIN c) == 3)

/-- The first channel that failed. -/
def State.failedChannel (s : State) : Option Nat :=
  (List.range s.variant.channels).find? (fun c => s.get (Reg.MSS_CH_STATUS_TRAIN c) == 3)

/-- Retention is over: the record is written; after a REBOOT the boot sequence follows. -/
def State.retentionDone (s : State) : State :=
  match s.boot.retaining with
  | some 4 => ({ s with boot := { s.boot with retaining := none } }).retainStore 4
  | some 3 => ((if s.storeOpen then s.retainStore 3 else s).coldReset).bootStart
  | _ => s

/-! ### The commands -/

def execResetRelease (t : Nat) (s : State) : Res := .next (s.tick t).bootStart

/-- A section whose DEST lies beyond the DRAM stops the machine (R333). -/
def execBootLoad (t : Nat) (s : State) : Res :=
  let s := s.tick t
  if !s.trained then .next s
  else
    match s.loadSlot with
    | (none, s) => .next s.recovery
    | (some k, s) =>
      let rd := s.slotImage k
      match imgHeader rd (slotLimit k) with
      | none => .next s.recovery
      | some h =>
        let l := imgSections rd h.sections
        let s := { s with boot := { s.boot with slot := k }, mss := { s.mss with capacity := s.dramBytes } }
        match s.failedChannel with
        | some c => .next ((s.imageShown rd h l).placeFixed.released 0x0C c)
        | none =>
          match (dramSections l).find? (fun c => !s.inDram c.dest c.bytes) with
          | some c => .fault (.dramAddressAbsent c.dest)
          | none => .next (s.bootFinish rd h l)

def execRetentionDone (t : Nat) (s : State) : Res := .next (s.tick t).retentionDone

end Sys2Proof.Machine
end

