-- ==== Sys2Proof/Machine/Dispatch.lean ====
section
/-!
DEFINITION. One arm per command: each calls its meaning.
-/

namespace Sys2Proof.Machine

def exec (i : Instr) (s : State) : Host.Outcome State Fault Refusal :=
  match i with
  | .registerWrite t src ofs v => Sys2Proof.Machine.execRegisterWrite t src ofs v s
  | .unitEnable t u => Sys2Proof.Machine.execUnitEnable t u s
  | .unitDisable t u => Sys2Proof.Machine.execUnitDisable t u s
  | .csCommit t => Sys2Proof.Machine.execCsCommit t s
  | .consistencyCheck t => Sys2Proof.Machine.execConsistencyCheck t s
  | .slotTableWrap t => Sys2Proof.Machine.execSlotTableWrap t s
  | .unitIdle t b => Sys2Proof.Machine.execUnitIdle t b s
  | .marker t lane line ui => Sys2Proof.Machine.execMarker t lane line ui s
  | .cdrLock t lane => Sys2Proof.Machine.execCdrLock t lane s
  | .cdrLockLost t lane => Sys2Proof.Machine.execCdrLockLost t lane s
  | .adaptDone t lane heights width => Sys2Proof.Machine.execAdaptDone t lane heights width s
  | .ctleTrack t lane height below above width => Sys2Proof.Machine.execCtleTrack t lane height below above width s
  | .fs t link pkt => Sys2Proof.Machine.execFs t link pkt s
  | .fe t link pkt => Sys2Proof.Machine.execFe t link pkt s
  | .ls t link pkt => Sys2Proof.Machine.execLs t link pkt s
  | .emb t link pkt => Sys2Proof.Machine.execEmb t link pkt s
  | .stat t link pkt => Sys2Proof.Machine.execStat t link pkt s
  | .statTempExpire t link => Sys2Proof.Machine.execStatTempExpire t link s
  | .headerError t link pkt => Sys2Proof.Machine.execHeaderError t link pkt s
  | .lineDeadline t link => Sys2Proof.Machine.execLineDeadline t link s
  | .prbsCheckLock t lane line => Sys2Proof.Machine.execPrbsCheckLock t lane line s
  | .prbsCheckUnlock t lane line => Sys2Proof.Machine.execPrbsCheckUnlock t lane line s
  | .prbsGo t lane => Sys2Proof.Machine.execPrbsGo t lane s
  | .prbsInjectPeriod t lane => Sys2Proof.Machine.execPrbsInjectPeriod t lane s
  | .prbsClr t lane => Sys2Proof.Machine.execPrbsClr t lane s
  | .sctlPush t bus entry => Sys2Proof.Machine.execSctlPush t bus entry s
  | .sctlLaunch t bus => Sys2Proof.Machine.execSctlLaunch t bus s
  | .sctlEntryDone t bus status bytes => Sys2Proof.Machine.execSctlEntryDone t bus status bytes s
  | .sctlTimeout t bus => Sys2Proof.Machine.execSctlTimeout t bus s
  | .trigLeadingEdge t n => Sys2Proof.Machine.execTrigLeadingEdge t n s
  | .trigTrailingEdge t n => Sys2Proof.Machine.execTrigTrailingEdge t n s
  | .linkRun t link word => Sys2Proof.Machine.execRun t link word s
  | .linkStop t link word => Sys2Proof.Machine.execStop t link word s
  | .linkRelock t link word => Sys2Proof.Machine.execRelock t link word s
  | .linkClr t link word => Sys2Proof.Machine.execLinkClr t link word s
  | .runoutTimeout t link => Sys2Proof.Machine.execRunoutTimeout t link s
  | .patternFs t link => Sys2Proof.Machine.execPatternFs t link s
  | .patternFrameClose t link => Sys2Proof.Machine.execPatternFrameClose t link s
  | .rfeRowComplete t => Sys2Proof.Machine.execRfeRowComplete t s
  | .rfeTableWrite t ofs v => Sys2Proof.Machine.execRfeTableWrite t ofs v s
  | .swapBlack t => Sys2Proof.Machine.execSwapBlack t s
  | .swapCol t => Sys2Proof.Machine.execSwapCol t s
  | .swapGain t => Sys2Proof.Machine.execSwapGain t s
  | .tableCopyDone t => Sys2Proof.Machine.execTableCopyDone t s
  | .rfeTableParity t table entry row reloaded => Sys2Proof.Machine.execRfeTableParity t table entry row reloaded s
  | .calModeWrite t v => Sys2Proof.Machine.execCalModeWrite t v s
  | .calRunWrite t => Sys2Proof.Machine.execCalRunWrite t s
  | .calRun t => Sys2Proof.Machine.execCalRun t s
  | .stepDark t => Sys2Proof.Machine.execStepDark t s
  | .stepFlat t => Sys2Proof.Machine.execStepFlat t s
  | .calStepComputeDone t => Sys2Proof.Machine.execCalStepComputeDone t s
  | .calAccept t => Sys2Proof.Machine.execAccept t s
  | .calDiscard t => Sys2Proof.Machine.execDiscard t s
  | .calClr t => Sys2Proof.Machine.execCalClr t s
  | .sceneSof t => Sys2Proof.Machine.execSceneSof t s
  | .sceneRow t => Sys2Proof.Machine.execSceneRow t s
  | .mfDescriptorReceive t => Sys2Proof.Machine.execMfDescriptorReceive t s
  | .histReset t => Sys2Proof.Machine.execHistReset t s
  | .cseClr t => Sys2Proof.Machine.execCseClr t s
  | .cseParity t k => Sys2Proof.Machine.execCseParity t k s
  | .lutLoad t p => Sys2Proof.Machine.execLutLoad t p s
  | .lutFetchDone t p => Sys2Proof.Machine.execLutFetchDone t p s
  | .rpTableSwap t p => Sys2Proof.Machine.execRpTableSwap t p s
  | .rpHeldLoadStart t p => Sys2Proof.Machine.execRpHeldLoadStart t p s
  | .rpParity t p => Sys2Proof.Machine.execRpParity t p s
  | .pictureStart t p => Sys2Proof.Machine.execPictureStart t p s
  | .pictureEnd t n r => Sys2Proof.Machine.execPictureEnd t n r s
  | .forceIrap t n => Sys2Proof.Machine.execForceIrap t n s
  | .pcdSesClr t n => Sys2Proof.Machine.execPcdSesClr t n s
  | .decGridInstant t n due => Sys2Proof.Machine.execDecGridInstant t n due s
  | .decOutputPost t n p => Sys2Proof.Machine.execDecOutputPost t n p s
  | .pcdParity t ses k => Sys2Proof.Machine.execPcdParity t ses k s
  | .jobStart t e => Sys2Proof.Machine.execJobStart t e s
  | .jobEnd t e => Sys2Proof.Machine.execJobEnd t e s
  | .rpkRingTailWrite t e v => Sys2Proof.Machine.execRpkRingTailWrite t e v s
  | .rpkCplHeadWrite t e v => Sys2Proof.Machine.execRpkCplHeadWrite t e v s
  | .swJobStart t e => Sys2Proof.Machine.execSwJobStart t e s
  | .swJobComplete t e lost => Sys2Proof.Machine.execSwJobComplete t e lost s
  | .rpkEngClr t e => Sys2Proof.Machine.execRpkEngClr t e s
  | .rpkParity t e => Sys2Proof.Machine.execRpkParity t e s
  | .tgVblank t g => Sys2Proof.Machine.execTgVblank t g s
  | .tgActiveStart t g => Sys2Proof.Machine.execTgActiveStart t g s
  | .tgActiveEnd t g => Sys2Proof.Machine.execTgActiveEnd t g s
  | .underrun t sink line x n => Sys2Proof.Machine.execUnderrun t sink line x n s
  | .tgClr t g => Sys2Proof.Machine.execTgClr t g s
  | .paletteSwap t g => Sys2Proof.Machine.execPaletteSwap t g s
  | .riFrame t n row wide psf num den => Sys2Proof.Machine.execRiFrame t n row wide psf num den s
  | .riFrameWritten t n p anc crc => Sys2Proof.Machine.execRiFrameWritten t n p anc crc s
  | .riLockLost t n p => Sys2Proof.Machine.execRiLockLost t n p s
  | .psrEnter t k => Sys2Proof.Machine.execPsrEnter t k s
  | .psrEntryDone t k => Sys2Proof.Machine.execPsrEntryDone t k s
  | .psrExit t k => Sys2Proof.Machine.execPsrExit t k s
  | .retrain t k => Sys2Proof.Machine.execRetrain t k s
  | .panelTrainDone t k ok psr => Sys2Proof.Machine.execPanelTrainDone t k ok psr s
  | .hpdChange t k level irq => Sys2Proof.Machine.execHpdChange t k level irq s
  | .auxCmd t k v reply => Sys2Proof.Machine.execAuxCmd t k v reply s
  | .st2110VideoPacket t k => Sys2Proof.Machine.execSt2110VideoPacket t k s
  | .st2110AudioPacket t k => Sys2Proof.Machine.execSt2110AudioPacket t k s
  | .ethLinkChange t p up => Sys2Proof.Machine.execEthLinkChange t p up s
  | .audioFrameBoundary t p words => Sys2Proof.Machine.execAudioFrameBoundary t p words s
  | .noBoundary t p => Sys2Proof.Machine.execNoBoundary t p s
  | .audioGo t => Sys2Proof.Machine.execGo t s
  | .leadInStart t p => Sys2Proof.Machine.execLeadInStart t p s
  | .audioStart t p words => Sys2Proof.Machine.execAudioStart t p words s
  | .audioArm t p => Sys2Proof.Machine.execArm t p s
  | .apuStop t p => Sys2Proof.Machine.execApuStop t p s
  | .audioSwap t p => Sys2Proof.Machine.execSwap t p s
  | .apuClr t p => Sys2Proof.Machine.execApuClr t p s
  | .slotMapWrite t p copy n v => Sys2Proof.Machine.execSlotMapWrite t p copy n v s
  | .trailEnd t p => Sys2Proof.Machine.execTrailEnd t p s
  | .txBlockArrive t p => Sys2Proof.Machine.execTxBlockArrive t p s
  | .rateWindow t p meas => Sys2Proof.Machine.execRateWindow t p meas s
  | .fsyncLoss t p => Sys2Proof.Machine.execFsyncLoss t p s
  | .recBlockWrite t p => Sys2Proof.Machine.execRecBlockWrite t p s
  | .recBlockMissing t p => Sys2Proof.Machine.execRecBlockMissing t p s
  | .refEdge t src => Sys2Proof.Machine.execRefEdge t src s
  | .refEdgeTimeout t => Sys2Proof.Machine.execRefEdgeTimeout t s
  | .ptpSync t slot ofs pred mpd freq => Sys2Proof.Machine.execPtpSync t slot ofs pred mpd freq s
  | .ptpAnnounce t slot m => Sys2Proof.Machine.execPtpAnnounce t slot m s
  | .ptpSyncLoss t slot announce => Sys2Proof.Machine.execPtpSyncLoss t slot announce s
  | .refSrcWrite t v => Sys2Proof.Machine.execRefSrcWrite t v s
  | .ptpActiveSwitch t v => Sys2Proof.Machine.execPtpActiveSwitch t v s
  | .setTime t snap => Sys2Proof.Machine.execSet t snap s
  | .snapTime t => Sys2Proof.Machine.execSnapTime t s
  | .ptpEventStamp t port tx tag => Sys2Proof.Machine.execPtpEventStamp t port tx tag s
  | .tsPop t port => Sys2Proof.Machine.execTsPop t port s
  | .ltcInFrame t good h m sec f drop rate start => Sys2Proof.Machine.execLtcInFrame t good h m sec f drop rate start s
  | .ltcOutFrame t => Sys2Proof.Machine.execLtcOutFrame t s
  | .trainingDone t c ok => Sys2Proof.Machine.execTrainingDone t c ok s
  | .zqcs t c => Sys2Proof.Machine.execZqcs t c s
  | .refreshDue t c => Sys2Proof.Machine.execRefreshDue t c s
  | .ddrHotChange t high => Sys2Proof.Machine.execDdrHotChange t high s
  | .ddrHotCool t => Sys2Proof.Machine.execDdrHotCool t s
  | .arbTurn t c arrivals => Sys2Proof.Machine.execArbTurn t c arrivals s
  | .dramReadReturn t port addr r rmw full lat => Sys2Proof.Machine.execDramReadReturn t port addr r rmw full lat s
  | .coppiceRecompute t unit inst inputLost again => Sys2Proof.Machine.execCoppiceRecompute t unit inst inputLost again s
  | .slotSwap t c => Sys2Proof.Machine.execSlotSwap t c s
  | .slotClr t c => Sys2Proof.Machine.execSlotClr t c s
  | .crcTest t => Sys2Proof.Machine.execCrcTest t s
  | .recWrite t r level => Sys2Proof.Machine.execRec t r level s
  | .takeOpen t r => Sys2Proof.Machine.execTakeOpen t r s
  | .takeOpenRetry t r => Sys2Proof.Machine.execTakeOpenRetry t r s
  | .takeClose t r => Sys2Proof.Machine.execTakeClose t r s
  | .reelDescriptor t poison => Sys2Proof.Machine.execReelDescriptor t poison s
  | .cpPost t q cells flt => Sys2Proof.Machine.execCpPost t q cells flt s
  | .cpRead t q flt parity => Sys2Proof.Machine.execCpRead t q flt parity s
  | .cpIdleTimeout t q => Sys2Proof.Machine.execCpIdleTimeout t q s
  | .sweepDone t q => Sys2Proof.Machine.execSweepDone t q s
  | .queueReset t q => Sys2Proof.Machine.execReset t q s
  | .queueReinstate t q => Sys2Proof.Machine.execReinstate t q s
  | .cpqClr t q => Sys2Proof.Machine.execCpqClr t q s
  | .freeRebuildDone t => Sys2Proof.Machine.execFreeRebuildDone t s
  | .cpWrCfgWrite t k v => Sys2Proof.Machine.execCpWrCfgWrite t k v s
  | .portPush t k cells flt => Sys2Proof.Machine.execPush t k cells flt s
  | .cpRdCfgWrite t k v => Sys2Proof.Machine.execCpRdCfgWrite t k v s
  | .portPop t k flt parity => Sys2Proof.Machine.execPop t k flt parity s
  | .lockAcquire t src n => Sys2Proof.Machine.execLockAcquire t src n s
  | .lockRelease t src n => Sys2Proof.Machine.execLockRelease t src n s
  | .breakLock t src n => Sys2Proof.Machine.execBreak t src n s
  | .bar0BadAccess t write addr => Sys2Proof.Machine.execBar0BadAccess t write addr s
  | .apertureAccess t x data n bad => Sys2Proof.Machine.execApertureAccess t x data n bad s
  | .msixUnmask t v masked => Sys2Proof.Machine.execMsixUnmask t v masked s
  | .mgmtTransaction t op addr v cut late => Sys2Proof.Machine.execMgmtTransaction t op addr v cut late s
  | .qpEnable t q v => Sys2Proof.Machine.execQpEnable t q v s
  | .sqDoorbell t q v => Sys2Proof.Machine.execSqDoorbell t q v s
  | .cqDoorbell t q v => Sys2Proof.Machine.execCqDoorbell t q v s
  | .sqFetch t entry err => Sys2Proof.Machine.execSqFetch t entry err s
  | .completionPost t q => Sys2Proof.Machine.execCompletionPost t q s
  | .coalesceTimer t q => Sys2Proof.Machine.execCoalesceTimer t q s
  | .hostWrite t q cid pages data hostErr => Sys2Proof.Machine.execWrite t q cid pages data hostErr s
  | .hostRead t q cid pages bad hostErr => Sys2Proof.Machine.execRead t q cid pages bad hostErr s
  | .flush t q cid => Sys2Proof.Machine.execFlush t q cid s
  | .trim t q cid => Sys2Proof.Machine.execTrim t q cid s
  | .pin t q cid => Sys2Proof.Machine.execPin t q cid s
  | .unpin t q cid => Sys2Proof.Machine.execUnpin t q cid s
  | .identify t cid pages hostErr => Sys2Proof.Machine.execIdentify t cid pages hostErr s
  | .getLog t cid pages nonce hostErr => Sys2Proof.Machine.execGetLog t cid pages nonce hostErr s
  | .getFeature t cid => Sys2Proof.Machine.execGetFeature t cid s
  | .setFeature t cid => Sys2Proof.Machine.execSetFeature t cid s
  | .setPower t cid => Sys2Proof.Machine.execSetPower t cid s
  | .abort t cid => Sys2Proof.Machine.execAbort t cid s
  | .snapshot t cid pages hostErr => Sys2Proof.Machine.execSnapshot t cid pages hostErr s
  | .wbufCopyDone t bad => Sys2Proof.Machine.execWbufCopyDone t bad s
  | .pcieReset t => Sys2Proof.Machine.execPcieReset t s
  | .perstAssert t => Sys2Proof.Machine.execPerstAssert t s
  | .linkChange t st rate width flit => Sys2Proof.Machine.execLinkChange t st rate width flit s
  | .resetRelease t => Sys2Proof.Machine.execResetRelease t s
  | .bootLoad t => Sys2Proof.Machine.execBootLoad t s
  | .sysRstAssert t => Sys2Proof.Machine.execSysRstAssert t s
  | .erase t => Sys2Proof.Machine.execErase t s
  | .program t => Sys2Proof.Machine.execProgram t s
  | .flashOpDone t ok => Sys2Proof.Machine.execFlashOpDone t ok s
  | .reboot t => Sys2Proof.Machine.execReboot t s
  | .advance t => Sys2Proof.Machine.execAdvance t s
  | .keyHash t slot => Sys2Proof.Machine.execKeyHash t slot s
  | .revoke t slot => Sys2Proof.Machine.execRevoke t slot s
  | .vendorDisable t => Sys2Proof.Machine.execVendorDisable t s
  | .dbgClose t => Sys2Proof.Machine.execDbgClose t s
  | .lifecycleRetired t => Sys2Proof.Machine.execLifecycleRetired t s
  | .fuseDone t ok => Sys2Proof.Machine.execFuseDone t ok s
  | .kprHoldRise t => Sys2Proof.Machine.execKprHoldRise t s
  | .retentionDone t => Sys2Proof.Machine.execRetentionDone t s
  | .coreRailLoss t => Sys2Proof.Machine.execCoreRailLoss t s
  | .htpSample t raw => Sys2Proof.Machine.execHtpSample t raw s
  | .shutdownWindowEnd t done => Sys2Proof.Machine.execShutdownWindowEnd t done s
  | .readmit t mask => Sys2Proof.Machine.execReadmit t mask s
  | .lifeTick t => Sys2Proof.Machine.execLifeTick t s
  | .ageMonitorUpdate t z change => Sys2Proof.Machine.execAgeMonitorUpdate t z change s
  | .vmonSample t n mv => Sys2Proof.Machine.execVmonSample t n mv s
  | .powerCommand t v => Sys2Proof.Machine.execPowerCommand t v s
  | .powerTransitionDone t => Sys2Proof.Machine.execPowerTransitionDone t s
  | .gaugeSnap t => Sys2Proof.Machine.execGaugeSnap t s
  | .gaugeCfgWrite t g which v => Sys2Proof.Machine.execGaugeCfgWrite t g which v s
  | .resetReq t u => Sys2Proof.Machine.execResetReq t u s
  | .graftReq t u => Sys2Proof.Machine.execGraftReq t u s
  | .graftPoint t u begun => Sys2Proof.Machine.execGraftPoint t u begun s
  | .graftLoadDone t u => Sys2Proof.Machine.execGraftLoadDone t u s
  | .unitFreeze t u on => Sys2Proof.Machine.execFreeze t u on s
  | .unitRemoval t u begun => Sys2Proof.Machine.execUnitRemoval t u begun s
  | .drainEnd t u => Sys2Proof.Machine.execDrainEnd t u s
  | .snapRequest t => Sys2Proof.Machine.execSnap t s
  | .snapDone t => Sys2Proof.Machine.execSnapDone t s
  | .eventRecordWrite t => Sys2Proof.Machine.execEventRecordWrite t s
  | .intStatusClear t u v => Sys2Proof.Machine.execIntStatusClear t u v s
  | .intForce t u v => Sys2Proof.Machine.execIntForce t u v s
  | .unitViewWrite t src u v => Sys2Proof.Machine.execUnitViewWrite t src u v s
  | .sapwoodWatchdog t c => Sys2Proof.Machine.execSapwoodWatchdog t c s
  | .gpioFnWrite t n v => Sys2Proof.Machine.execGpioFnWrite t n v s
  | .riLock t n rate st352 => Sys2Proof.Machine.execRiLock t n rate st352 s
  | .caParityAlert t c command => Sys2Proof.Machine.execCaParityAlert t c command s
  | .kprHoldFall t => Sys2Proof.Machine.execKprHoldFall t s
  | .keeperPowerOn t => Sys2Proof.Machine.execKeeperPowerOn t s
  | .gaugePeriodicSample t g => Sys2Proof.Machine.execGaugePeriodicSample t g s
  | .mediaTimeSecond t => Sys2Proof.Machine.execMediaTimeSecond t s
  | .gpioPulseEnd t n => Sys2Proof.Machine.execGpioPulseEnd t n s

end Sys2Proof.Machine
end

