-- ==== Sys2Proof/Safety.lean ====
section
/-!
DEFINITION. What counts as a sound state and a completed command, in the terms that statements use.
-/

namespace Sys2Proof.Machine

/-- The memory is in canonical form: addresses strictly rising, and no entry equal to what its address reads as where nothing is
listed. -/
def Memory.wf (epoch : Nat) (m : List Host.Cell) : Bool := SMap.wf m && m.all (fun e => e.2 != Config.unwrittenDram epoch e.1)

/-- The state's memory is in canonical form. -/
def State.memOk (s : State) : Bool := Memory.wf s.mss.epoch s.mem

/-- The command answers a next state with a property. -/
def Completes (c : Instr) (s : State) (post : State → Prop) : Prop := ∃ s', exec c s = .next s' ∧ post s'

/-- A register write reaches a unit: the register bus is released, no shutdown has latched, the unit is present and not removed
(R7, R381, R430, R440). -/
def State.reaches (s : State) (u : UnitId) : Bool :=
  s.boot.busOpen && !s.flag Reg.HTP_SHUTDOWN_STATUS_SHUTDOWN && s.variant.has u && !s.removed u

/-- The words a packet event looks at: those given, or the link's own word stream. -/
def State.linkWords (s : State) (l : Nat) (pkt : List Nat) : List Nat := if pkt.isEmpty then (s.link l).rx else pkt

/-- The state once a packet is taken off the link's own word stream. -/
def State.consumed (s : State) (l : Nat) (pkt rest : List Nat) : State :=
  if pkt.isEmpty then s.setLink l (fun x => { x with rx := rest }) else s

/-- A command leaves every byte of DRAM as it was. -/
def SameDram (s s' : State) : Prop := ∀ a, s'.readByte a = s.readByte a

/-- A command leaves every register but those named as it was. -/
def SameRegs (s s' : State) (but : List Nat) : Prop := ∀ ofs, ofs ∉ but → s'.reg ofs = s.reg ofs

/-- Registers that an interrupt, an event message or a refusal of these units may change (R449, R451, R470, R471, R473): the summary, the
device's event status, the count of dropped messages, the vectors' pending bits, and each unit's interrupt status, UNIT_REFUSE and
UNIT_REFUSE_OFS. -/
def notices (us : List Nat) : List Nat :=
  [Reg.DEV_INT_STATUS.ofs, Reg.DEV_EVT_STATUS.ofs, Reg.DEV_CNT_EVT_DROP.ofs] ++ (List.range 64).map (fun k => (Reg.HIF_MSIX_PBA k).ofs) ++
    us.flatMap (fun u => [(Reg.UNIT_INT_STATUS u).ofs, (Reg.UNIT_REFUSE u).ofs, (Reg.UNIT_REFUSE_OFS u).ofs])

/-- Every register but those listed, and the instances of the registers of the second list, reads as before. -/
def KeepsRegs (u v : State) (words : List Nat) (some : List (Nat → Fld)) : Prop :=
  ∀ ofs, ofs ∉ words → (∀ f ∈ some, ∀ k, (f k).ofs ≠ ofs) → v.reg ofs = u.reg ofs

end Sys2Proof.Machine
end

