-- ==== Sys2Proof/Certificates/Slice0/Obligations.lean ====
section
/-!
DEFINITION. Statements for the provers. Unless it says otherwise, a statement is the model's reading of the rules that its docstring
names; `s.tick t` is the state with its clock at the command's cycle, before the command acts.
-/

open Sys2Proof Sys2Proof.Machine

/-! ### Sensor links -/

/-- R68, R82: CDR lock, its loss, the end of the equaliser sweep and its tracking, and a marker, on a present lane of the enabled SLR.
Tracking changes no code at once: the code moves with the end of a marker. No DRAM byte changes. -/
def Obligations.LaneLockAndEqualiser : Prop :=
  ∀ (s : State) (t : Nat) (n : Fin 32) (heights : List Nat) (height below above width : Nat) (line : List Bool) (ui : Nat),
    let u := s.tick t
    u.on .slr = true → n.val < u.variant.lanes →
    (u.get (Reg.SLR_LANE_CFG_LINK n) ≠ 0 → Completes (.cdrLock t n) s (fun v =>
      v.flag (Reg.SLR_LANE_STATUS_CDR_LOCK n) = true ∧
      (u.flag (Reg.SLR_LANE_CFG_ADAPT n) = true → v.flag (Reg.SLR_LANE_STATUS_ADAPT_DONE n) = false) ∧
      (u.flag (Reg.SLR_LANE_CFG_ADAPT n) = false → v.get (Reg.SLR_LANE_STATUS_CODE n) = u.get (Reg.SLR_LANE_CFG_CTLE n)) ∧ SameDram u v)) ∧
    Completes (.cdrLockLost t n) s (fun v =>
      v.flag (Reg.SLR_LANE_STATUS_CDR_LOCK n) = false ∧ v.flag (Reg.SLR_LANE_STATUS_MARKER_LOCK n) = false ∧ SameDram u v) ∧
    (u.flag (Reg.SLR_LANE_CFG_ADAPT n) = true → u.flag (Reg.SLR_LANE_STATUS_CDR_LOCK n) = true →
      (u.lane n).cdrAt + cyclesOf 740000 ≤ u.now → Completes (.adaptDone t n heights width) s (fun v =>
        v.get (Reg.SLR_LANE_STATUS_CODE n) = bestCode heights ∧ v.flag (Reg.SLR_LANE_STATUS_ADAPT_DONE n) = true ∧ SameDram u v)) ∧
    (u.flag (Reg.SLR_LANE_STATUS_ADAPT_DONE n) = true → (u.lane n).lastTrack + cyclesOf 1000000 ≤ u.now →
      Completes (.ctleTrack t n height below above width) s (fun v =>
        v.get (Reg.SLR_LANE_EYE_HEIGHT n) = height % 65536 ∧ v.get (Reg.SLR_LANE_EYE_WIDTH n) = width % 65536 ∧
        v.get (Reg.SLR_LANE_STATUS_CODE n) = u.get (Reg.SLR_LANE_STATUS_CODE n) ∧ SameDram u v)) ∧
    (u.flag (Reg.SLR_LANE_STATUS_CDR_LOCK n) = true → Completes (.marker t n line ui) s (fun v => (v.lane n).arrival = ui ∧ SameDram u v))

/-- R83, R84: the PRBS checker and generator of a lane in test mode, and its counters. -/
def Obligations.PrbsTest : Prop :=
  ∀ (s : State) (t : Nat) (n : Fin 32) (line : List Bool),
    let u := s.tick t
    let r := line.foldl (prbsStep (prbsTaps (u.get (Reg.SLR_LANE_TEST_POLY n))) (u.flag (Reg.SLR_LANE_TEST_INVERT n)))
      ((u.lane n).prbs, u.flag (Reg.SLR_LANE_TEST_CHK_LOCK n), 0, 0)
    let locked := fun (v : State) => v.flag (Reg.SLR_LANE_TEST_CHK_LOCK n) = r.2.1 ∧
      v.get (Reg.SLR_PRBS_ERR n) = sat32 (u.get (Reg.SLR_PRBS_ERR n) + r.2.2.1) ∧ SameDram u v
    u.live .slr = true → n.val < u.variant.lanes →
    ((u.get (Reg.SLR_LANE_TEST_MODE n) = 1 ∨ u.get (Reg.SLR_LANE_TEST_MODE n) = 2) →
      Completes (.prbsCheckLock t n line) s locked ∧ Completes (.prbsCheckUnlock t n line) s locked) ∧
    (u.get (Reg.SLR_LANE_TEST_MODE n) = 2 → u.reaches .slr = true → u.get (Reg.SLR_LANE_TEST_INJ n) = 2 →
      Completes (.prbsGo t n) s (fun v =>
        v.get (Reg.SLR_INJ_CNT n) = sat32 (u.get (Reg.SLR_INJ_CNT n) + (u.get (Reg.SLR_LANE_TEST_BURST n) + 1)))) ∧
    (u.get (Reg.SLR_LANE_TEST_MODE n) = 2 → u.get (Reg.SLR_LANE_TEST_INJ n) = 3 → 64 ≤ u.get (Reg.SLR_LANE_INJ_PERIOD n) →
      Completes (.prbsInjectPeriod t n) s (fun v => v.get (Reg.SLR_INJ_CNT n) = sat32 (u.get (Reg.SLR_INJ_CNT n) + 1))) ∧
    (u.reaches .slr = true → Completes (.prbsClr t n) s (fun v =>
      v.get (Reg.SLR_PRBS_ERR n) = 0 ∧ v.get (Reg.SLR_PRBS_BITS_LO n) = 0 ∧ v.get (Reg.SLR_PRBS_BITS_HI_V n) = 0 ∧ v.get (Reg.SLR_INJ_CNT n) = 0 ∧
      v.get (Reg.SLR_LANE_TEST_MODE n) = u.get (Reg.SLR_LANE_TEST_MODE n) ∧ SameDram u v))

/-- R86: a sensor control bus takes entries of seven words, launches the oldest at bus idle once its launch time has come, posts its
result, and aborts an I2C entry after 10 ms. -/
def Obligations.SensorControl : Prop :=
  ∀ (s : State) (t : Nat) (b : Fin 3) (entry : List Word) (status : Nat) (bytes : List Nat) (e : List Nat) (rest : List (List Nat)),
    let u := s.tick t
    (u.reaches .slr = true → (u.bus b).words = [] → entry.length = 7 → Completes (.sctlPush t b entry) s (fun v =>
      (v.bus b).queue = (u.bus b).queue ++ [entry.map (·.toNat)] ∧ (v.bus b).words = [] ∧ SameDram u v)) ∧
    (u.live .slr = true → (u.bus b).running = none → (u.bus b).queue = e :: rest → bitAt (e.headD 0) 29 = false →
      Completes (.sctlLaunch t b) s (fun v => (v.bus b).running = some e ∧ (v.bus b).queue = rest ∧ v.outbox = .sensorBus b e :: u.outbox)) ∧
    ((u.bus b).running = some e → bits (e.headD 0) 31 30 ≠ 3 →
      Completes (.sctlEntryDone t b status bytes) s (fun v =>
        (v.bus b).running = none ∧ v.get (Reg.SLR_SCTL_RESULT_STATUS b) = status % 256 ∧ SameDram u v) ∧
      (b.val < 2 → (u.bus b).startedAt + cyclesOf 10000000 ≤ u.now → Completes (.sctlTimeout t b) s (fun v =>
        (v.bus b).running = none ∧ v.get (Reg.SLR_SCTL_RESULT_STATUS b) = 2)))

/-- R87, R91: the edges of a trigger of a running link, and what the trigger balls show. -/
def Obligations.Triggers : Prop :=
  ∀ (s : State) (t : Nat) (n : Fin 4) (l g : Nat),
    let u := s.tick t
    let ofs := toSigned 32 (u.get (Reg.SLR_TRIG_OFFSET n))
    (u.on .slr = true → u.established = true → l < 2 → u.get (Reg.SLR_TRIG_CFG_LINK n) = l + 1 → u.linkState l = 3 → (u.link l).stopAt = none →
      u.userInstant l (((u.mediaNs : Int) - ofs).toNat) = some g → Completes (.trigLeadingEdge t n) s (fun v =>
        getN v.slr.trigHigh n false = true ∧
        v.outbox = .trigger n (!u.flag (Reg.SLR_TRIG_CFG_POLARITY n)) ((g : Int) + ofs).toNat :: u.outbox)) ∧
    (u.live .slr = true → getN u.slr.trigHigh n false = true → Completes (.trigTrailingEdge t n) s (fun v =>
      getN v.slr.trigHigh n false = false ∧
      v.outbox = .trigger n (u.flag (Reg.SLR_TRIG_CFG_POLARITY n)) (getN u.slr.trigAt n 0 + u.get (Reg.SLR_TRIG_WIDTH n)) :: u.outbox))

/-- R60, R85, R91, R92, R477: RUN, STOP, RELOCK and CLR written alone to SLR_LINK_CTL of a used link with no lane in test mode, and the
end of a stop; the clauses of STOP and of its end are for no PENDING Change Set, which a stop may apply (R44). -/
def Obligations.LinkControl : Prop :=
  ∀ (s : State) (t : Nat) (l : Fin 2),
    let u := s.tick t
    (u.reaches .slr = true → u.linkUsed l = true → (u.linkLanes l).all (fun n => u.get (Reg.SLR_LANE_TEST_MODE n) == 0) = true →
      (u.unit .slr).leaving = false →
      ((u.linkState l = 2 ∨ u.linkState l = 5) → Completes (.linkRun t l 1) s (fun v =>
        v.linkState l = 3 ∧ v.flag (Reg.SLR_LINK_STATUS_ARMED l) = true ∧ SameDram u v)) ∧
      (u.linkState l = 3 → u.cs = none → Completes (.linkStop t l 2) s (fun v => (v.linkState l = 4 ∨ v.linkState l = 5) ∧ SameDram u v)) ∧
      ((u.linkState l = 1 ∨ u.linkState l = 2 ∨ u.linkState l = 5) → Completes (.linkRelock t l 8) s (fun v =>
        v.linkState l = (if (u.linkLanes l).isEmpty then 2 else 1) ∧ SameDram u v)) ∧
      Completes (.linkClr t l 4) s (fun v =>
        v.get (Reg.SLR_CNT_HCRC l) = 0 ∧ v.get (Reg.SLR_CNT_LINE_FILL l) = 0 ∧ v.get (Reg.SLR_CNT_LOCK_LOSS l) = 0 ∧
        v.linkState l = u.linkState l ∧ SameDram u v)) ∧
    (∀ at', (u.unit .slr).leaving = false → u.cs = none → (u.link l).stopAt = some at' → (u.link l).frame = none →
      2 ≤ (u.link l).runoutClosed → Completes (.runoutTimeout t l) s (fun v => v.linkState l = 5 ∧ v.flag (Reg.SLR_LINK_STATUS_ARMED l) = false))

/-- R73, R76, R79, R80, R89, R91, R131: a packet at the front of a link's words acts on the link as its type says; an FE closes no
frame. What the shared operations named here do is the chapter's. -/
def Obligations.Packets : Prop :=
  ∀ (s : State) (t : Nat) (l : Fin 2) (pkt : List Nat) (h : Header) (body rest : List Nat),
    let u := s.tick t
    let v := u.consumed l pkt rest
    u.live .slr = true → u.linkState l ≠ 0 →
    (front (u.linkWords l pkt) = .packet h body rest →
      (h.typ = 1 → v.linkState l = 3 → (v.link l).frame = none →
        exec (.fs t l pkt) s = .next (v.beginFrame l v.mediaNs false).slrFinish) ∧
      (h.typ = 2 → exec (.fe t l pkt) s = .next v.slrFinish) ∧
      (h.typ = 3 → exec (.ls t l pkt) s = .next (v.lsGood l h body).slrFinish) ∧
      (h.typ = 4 → ∀ f, (v.link l).frame = some f → bodyOk h body = true →
        exec (.emb t l pkt) s = .next (v.unitPost (v.get (Reg.SLR_LINK_CFG_META_QUEUE l))
          (leBytes 8 f.tag.counter ++ wordBytes (body.take h.length))).slrFinish) ∧
      (h.typ = 5 → bodyOk h body = true → h.length ≠ 0 → bits (body.headD 0) 31 16 ≠ 0x8000 → (u.unit .slr).leaving = false → u.cs = none →
        Completes (.stat t l pkt) s (fun w =>
          w.get (Reg.SLR_STAT_TEMP_TEMP l) = bits (body.headD 0) 31 16 ∧ w.flag (Reg.SLR_STAT_TEMP_VALID l) = true ∧ SameDram u w))) ∧
    (∀ w0 w1 more, front (u.linkWords l pkt) = .bad w0 w1 more → (u.unit .slr).leaving = false → u.cs = none →
      Completes (.headerError t l pkt) s (fun w => w.get (Reg.SLR_CNT_HCRC l) = sat32 (u.get (Reg.SLR_CNT_HCRC l) + 1)))

/-- R74, R76, R77: a good image line of the open frame, in order, of the right form and in time, is kept for its place. -/
def Obligations.LineTaken : Prop :=
  ∀ (s : State) (l : Fin 2) (f : SlrFrame) (h : Header) (body : List Nat),
    (s.link l).frame = some f → (s.link l).discard = false → h.stream = f.fmt.stream → h.ob = false → h.line < f.fmt.lines →
    f.lastLine.all (fun p => decide (p < f.fmt.ob + h.line)) = true →
    h.length = f.fmt.width * (if f.fmt.dg then 2 else 1) * packBits f.fmt.pack / 32 → h.dg = f.fmt.dg → h.pack = f.fmt.pack →
    bodyOk h body = true → f.next ≤ h.line → s.mediaNs ≤ f.deadline h.line →
    ((s.lsGood l h body).link l).frame.bind (fun g => SMap.lookup g.good h.line) =
      some (unpackSamples (packBits f.fmt.pack) (body.take h.length))

/-- R76, R77, R90: a line whose deadline has come is settled: the frame goes on to the next line or closes; a pattern frame closes with
all of its lines at its T_rd; a pattern frame begins at a grid instant of a running link; a STAT temperature lapses after a second. -/
def Obligations.FrameLines : Prop :=
  ∀ (s : State) (t : Nat) (l : Fin 2) (f : SlrFrame) (g : Nat),
    let u := s.tick t
    ((u.link l).frame = some f → u.live .slr = true → f.deadline f.next ≤ u.mediaNs →
      exec (.lineDeadline t l) s = .next (u.settleLine l).slrFinish ∧
      ∀ g, ((u.settleLine l).link l).frame = some g → g.next = f.next + 1) ∧
    ((u.link l).frame = some f → f.pattern = true → f.tag.stamp + f.fmt.trd ≤ u.mediaNs → (u.unit .slr).leaving = false → u.cs = none →
      Completes (.patternFrameClose t l) s (fun v => (v.link l).frame = none)) ∧
    (u.on .slr = true → u.flag (Reg.SLR_LINK_CFG_SOURCE l) = true → u.linkState l = 3 → (u.link l).frame = none → u.established = true →
      u.userInstant l u.mediaNs = some g → Completes (.patternFs t l) s (fun v =>
        ∃ f, (v.link l).frame = some f ∧ f.pattern = true ∧ f.tag.stamp = g)) ∧
    ((u.link l).statAt + 1000000000 ≤ u.mediaNs → Completes (.statTempExpire t l) s (fun v =>
      v.flag (Reg.SLR_STAT_TEMP_VALID l) = false ∧ SameDram u v ∧ SameRegs u v [(Reg.SLR_STAT_TEMP l).ofs]))

/-! ### Raw front end and calibration -/

/-- R114, R116: SWAP commands: while the RFE is not idle a swap only becomes pending; while it is idle, no Change Set holds it and no copy
runs, every pending table changes its active copy and its copy begins. The copies end: every copied table is the same in both copies, no
copy runs, and the interrupt bit is set. -/
def Obligations.TableSwaps : Prop :=
  (∀ (s : State) (t : Nat) (c : Instr) (m : Nat),
      let u := s.tick t
      (c, m) ∈ [(Instr.swapBlack t, 1), (.swapCol t, 2), (.swapGain t, 4)] → u.reaches .rfe = true →
      (u.rfeIdle = false → Completes c s (fun v =>
        v.get Reg.RFE_TBL_STATUS_PENDING = u.get Reg.RFE_TBL_STATUS_PENDING ||| m ∧
        v.get Reg.RFE_TBL_STATUS_ACTIVE = u.get Reg.RFE_TBL_STATUS_ACTIVE ∧ SameDram u v ∧
        SameRegs u v [Reg.RFE_TBL_CTL.ofs, Reg.RFE_TBL_STATUS_PENDING.ofs])) ∧
      (u.rfeIdle = true → u.csHolds 2 = false → u.get Reg.RFE_TBL_STATUS_BUSY = 0 → Completes c s (fun v =>
        v.get Reg.RFE_TBL_STATUS_ACTIVE = u.get Reg.RFE_TBL_STATUS_ACTIVE ^^^ (u.get Reg.RFE_TBL_STATUS_PENDING ||| m) ∧
        v.get Reg.RFE_TBL_STATUS_BUSY = u.get Reg.RFE_TBL_STATUS_PENDING ||| m ∧ SameDram u v))) ∧
  (∀ (s : State) (t : Nat),
      let u := s.tick t
      u.get Reg.RFE_TBL_STATUS_BUSY ≠ 0 → u.cal.engSwaps = 0 → Completes (.tableCopyDone t) s (fun v =>
        v.get Reg.RFE_TBL_STATUS_BUSY = 0 ∧
        v.get Reg.RFE_TBL_STATUS_PENDING = u.get Reg.RFE_TBL_STATUS_PENDING &&& (7 ^^^ u.get Reg.RFE_TBL_STATUS_BUSY) ∧
        v.get Reg.RFE_TBL_STATUS_ACTIVE = u.get Reg.RFE_TBL_STATUS_ACTIVE ∧
        bitAt (v.get (Reg.UNIT_INT_STATUS 2)) 5 = true ∧
        ∀ k, k < 3 → bitAt (u.get Reg.RFE_TBL_STATUS_BUSY) k = true → v.tbl k 0 = v.tbl k 1))

/-- R114, R115, R123: a write through a table window reaches the inactive copy alone; while the table is pending or copied it is refused
with 0x0206, and while the calibration engine owns it with 0x0207. A parity error of a table counts and sets its interrupt bit, and an
entry that cannot be reloaded stays bad in its copy. -/
def Obligations.TableWindows : Prop :=
  ∀ (s : State) (t ofs : Nat) (w : Word) (k e row : Nat) (reloaded : Bool) (f : RfeFrame),
    let u := s.tick t
    let stuck := bitAt (u.get Reg.RFE_TBL_STATUS_PENDING ||| u.get Reg.RFE_TBL_STATUS_BUSY) (tblOf ofs).1
    let owned := bitAt u.calOwned (tblOf ofs).1
    (u.reaches .rfe = true →
      (stuck = false → owned = false → Completes (.rfeTableWrite t ofs w) s (fun v =>
        v.tableRead true ofs = tblMask (tblOf ofs).1 w.toNat ∧ (∀ o, v.tableRead false o = u.tableRead false o) ∧ v.regs = u.regs ∧
        SameDram u v)) ∧
      (stuck = true → Completes (.rfeTableWrite t ofs w) s (fun v =>
        v.get (Reg.UNIT_REFUSE_REASON 2) = 0x0206 ∧ ∀ b o, v.tableRead b o = u.tableRead b o)) ∧
      (stuck = false → owned = true → Completes (.rfeTableWrite t ofs w) s (fun v =>
        v.get (Reg.UNIT_REFUSE_REASON 2) = 0x0207 ∧ ∀ b o, v.tableRead b o = u.tableRead b o))) ∧
    (u.rfe.frame = some f → k < 3 → Completes (.rfeTableParity t k e row reloaded) s (fun v =>
      bitAt (v.get (Reg.UNIT_INT_STATUS 2)) 2 = true ∧
      v.rfe.frame = some { f with cnt := { f.cnt with parity := f.cnt.parity + 1 }, neutral := f.neutral ++ [(k, e, row, !reloaded)] } ∧
      (reloaded = true → v.rfe.bad = u.rfe.bad) ∧ (reloaded = false → (k, u.tblActive k, e) ∈ v.rfe.bad) ∧
      SameDram u v))

/-- R117, R118, R120: a row whose inputs are in hand is corrected and written to the frame's corrected buffer, and nowhere else. The
arithmetic of the row is the chapter's, which `rfeRow` holds. -/
def Obligations.RowsWritten : Prop :=
  ∀ (s : State) (t : Nat) (f : RfeFrame) (base : Nat),
    let u := s.tick t
    let codes := rowBytes (u.rfeRow f (u.rfeCfg f) f.next).1
    let start := base + f.next * rawStride f.fmt.width (u.tapSps 0)
    u.live .rfe = true → u.rfe.frame = some f → f.ready (u.rfeCfg f).d = true → f.next + 1 < f.fmt.lines → f.tag.accepted = [] →
    bitAt (u.rfeCfg f).cfg 31 = false → bitAt (u.rfeCfg f).cfg 30 = true → (u.rawOut f.tag.seq).bind (·.corr) = some base →
    Completes (.rfeRowComplete t) s (fun v =>
      (∃ g, v.rfe.frame = some g ∧ g.next = f.next + 1 ∧ g.tag.seq = f.tag.seq) ∧
      (∀ i x, codes[i]? = some x → v.readByte (start + i) = x) ∧
      (∀ a, a < start ∨ start + codes.length ≤ a → v.readByte a = u.readByte a) ∧ v.regs = u.regs)

/-- R126, R127, R130, R131, R135, R138, R140: runs and steps of the calibration engine: RUN and STEP are requests, the write after a run
requests the swaps of its tables, the computing of a step ends in STATE 6, and ACCEPT, DISCARD and CLR act as Table CAL-4 says. A write to
RFE_CAL_CFG that no rule refuses changes the register; a refused one changes nothing of it. -/
def Obligations.CalibrationRuns : Prop :=
  (∀ (s : State) (t : Nat),
      let u := s.tick t
      let mask := trkBits (u.reg Reg.RFE_CAL_CFG.ofs).toNat ||| u.cal.release
      (u.calState = 2 → mask ≠ 0 → u.rfeIdle = false → Completes (.calRunWrite t) s (fun v =>
        v.calState = 3 ∧ v.get Reg.RFE_TBL_STATUS_PENDING = (u.get Reg.RFE_TBL_STATUS_PENDING ||| mask) % 8 ∧ SameDram u v)) ∧
      ((u.calState = 4 ∨ u.calState = 5) → max 1 (u.get Reg.RFE_CAL_REF_N_FRAMES) ≤ u.get Reg.RFE_CAL_STATE_FRAMES →
        Completes (.calStepComputeDone t) s (fun v => v.calState = 6 ∧ bitAt (v.get (Reg.UNIT_INT_STATUS 2)) 8 = true)) ∧
      (u.reaches .rfe = true →
        (u.get Reg.RFE_CAL_CFG_MODE = 1 → Completes (.calRun t) s (fun v =>
          v.cal.reqRun = true ∧ v.calState = u.calState ∧ SameDram u v)) ∧
        (u.get Reg.RFE_CAL_CFG_MODE = 2 → u.calBusy = false →
          Completes (.stepDark t) s (fun v => v.cal.stepReq = 1 ∧ v.cal.stepOwn = 3 ∧ SameDram u v) ∧
          Completes (.stepFlat t) s (fun v => v.cal.stepReq = 2 ∧ v.cal.stepOwn = 4 ∧ SameDram u v)) ∧
        (u.calState = 6 → u.cal.staged = true → u.cal.stepOwn ≠ 0 → u.rfeIdle = false → Completes (.calAccept t) s (fun v =>
          v.get Reg.RFE_TBL_STATUS_PENDING = (u.get Reg.RFE_TBL_STATUS_PENDING ||| u.cal.stepOwn) % 8 ∧ v.cal.accepting = true ∧ v.calState = 6)) ∧
        (u.calState = 6 → u.cal.accepting = false → Completes (.calDiscard t) s (fun v =>
          v.calState = 0 ∧ v.get Reg.RFE_CAL_STATE_FRAMES = 0 ∧ v.cal.stepOwn = 0 ∧ SameDram u v ∧
          v.get Reg.RFE_TBL_STATUS_PENDING = u.get Reg.RFE_TBL_STATUS_PENDING)) ∧
        Completes (.calClr t) s (fun v =>
          v.get Reg.RFE_CAL_ABANDONED = 0 ∧ v.get Reg.RFE_CAL_DEFECTS_N = 0 ∧ v.get Reg.RFE_CAL_FF_CLAMP = 0 ∧ v.calState = u.calState ∧ SameDram u v))) ∧
  (∀ (s : State) (t : Nat) (w : Word),
      let u := s.tick t
      u.reaches .rfe = true →
      (u.calModeRefusal w.toNat = none → Completes (.calModeWrite t w) s (fun v =>
        v.reg Reg.RFE_CAL_CFG.ofs = w &&& 0xF70FFFFF#32 ∧ SameDram u v)) ∧
      (∀ code, u.calModeRefusal w.toNat = some code → Completes (.calModeWrite t w) s (fun v =>
        v.get (Reg.UNIT_REFUSE_REASON 2) = code ∧ v.reg Reg.RFE_CAL_CFG.ofs = u.reg Reg.RFE_CAL_CFG.ofs ∧ SameDram u v)))

/-! ### Colour engine -/

/-- R145, R162, R166, R167: the scene SOF takes the next raw frame, each row that its raw rows allow is emitted in order and goes to the
history buffer, a motion field descriptor of its queue is kept, and HIST_RESET and CLR act. -/
def Obligations.SceneFrames : Prop :=
  ∀ (s : State) (t : Nat) (o : RawOut) (f : SceneFrame) (c : PCell) (cells : List PCell) (w : State),
    let u := s.tick t
    (u.on .cse = true → u.cse.scene = none → u.nextScene = some o → min 4 o.h ≤ o.written → Completes (.sceneSof t) s (fun v =>
      ∃ g, v.cse.scene = some g ∧ g.tag = o.tag ∧ g.w = o.w ∧ g.h = o.h ∧ g.next = 0 ∧ g.rows = [])) ∧
    (u.live .cse = true → u.cse.scene = some f → u.rawOut f.tag.seq = some o → f.takers = [] → f.next + 1 < f.h → f.histOut = none →
      min (f.next + sceneReach (bits o.cfg 27 26) (u.get Reg.CSE_SCN_CFG_DEMOSAIC) + 1) f.h ≤ o.written →
      Completes (.sceneRow t) s (fun v =>
        v.cse.scene = some { f with next := f.next + 1, rows := f.rows ++ [(f.next, (u.sceneRow f o f.next).1)] } ∧
        SMap.getD v.cse.late 0 Reg.CSE_CNT_MF_CLAMP.ofs =
          SMap.getD u.cse.late 0 Reg.CSE_CNT_MF_CLAMP.ofs + (u.sceneRow f o f.next).2 ∧ SameDram u v)) ∧
    (u.live .cse = true → u.cse.scene = some f → u.rawOut f.tag.seq = some o → f.takers = [] → f.next + 1 = f.h → f.histOut = none →
      f.h ≤ o.written → Completes (.sceneRow t) s (fun v =>
        v.cse.scene = none ∧ v.get Reg.CSE_CNT_PARITY = sat32 (u.get Reg.CSE_CNT_PARITY + SMap.getD u.cse.late 0 Reg.CSE_CNT_PARITY.ofs) ∧
        v.get Reg.CSE_FRAME_SEQ = (u.get Reg.CSE_FRAME_SEQ + 1) % 2 ^ 32 ∧ bitAt (v.get (Reg.UNIT_INT_STATUS 3)) 0 = true)) ∧
    (u.on .cse = true → u.get Reg.CSE_TNR_CFG_MODE = 2 → u.get Reg.CSE_TNR_CFG_MF_QUEUE ≠ 0 →
      u.readItem (u.get Reg.CSE_TNR_CFG_MF_QUEUE) 4096 = (c :: cells, w) → itemPoison (c :: cells) = 0 →
      Completes (.mfDescriptorReceive t) s (fun v => v.cse.mfs = w.cse.mfs ++ [mfDecode c.data])) ∧
    (u.reaches .cse = true →
      Completes (.histReset t) s (fun v => v.cse.histReset = true ∧ SameDram u v ∧ SameRegs u v [Reg.CSE_TNR_CTL.ofs]) ∧
      Completes (.cseClr t) s (fun v =>
        v.get Reg.CSE_CNT_MF_FALLBACK = 0 ∧ v.get Reg.CSE_CNT_MF_CLAMP = 0 ∧ v.get Reg.CSE_CNT_MF_DROP = 0 ∧
        v.get Reg.CSE_CNT_HIST_LOST = 0 ∧ v.get Reg.CSE_CNT_PARITY = 0 ∧ v.get Reg.CSE_CNT_LB_REFILL = 0 ∧ v.get Reg.CSE_CNT_CONCEAL = 0 ∧
        v.cse = u.cse ∧ SameDram u v)) ∧
    (∀ k, u.cse.scene = some f → k = CseBuf.demosaic ∨ k = .raw [] → Completes (.cseParity t k) s (fun v =>
      SMap.getD v.cse.late 0 Reg.CSE_CNT_PARITY.ofs = SMap.getD u.cse.late 0 Reg.CSE_CNT_PARITY.ofs + 1 ∧
      bitAt (v.get (Reg.UNIT_INT_STATUS 3)) 2 = true ∧ v.cse.scene = u.cse.scene))

/-- R180, R182, R183, R190: LUT loads and table swaps of a present render path, what retention held, and its parity errors. -/
def Obligations.RenderTables : Prop :=
  ∀ (s : State) (t p : Nat),
    let u := s.tick t
    p < u.variant.renderPaths →
    (u.reaches .cse = true →
      (u.get (Reg.RP_LUT_STATUS_STATE p) = 0 → u.addr40 (Reg.RP_LUT_ADDR_LO p) (Reg.RP_LUT_ADDR_HI p) % 64 = 0 →
        Completes (.lutLoad t p) s (fun v =>
          v.get (Reg.RP_LUT_STATUS_STATE p) = (if u.rpRetained p true (1 - u.get (Reg.RP_LUT_STATUS_ACTIVE p)) then 3 else 1) ∧
          v.get (Reg.RP_LUT_STATUS_ACTIVE p) = u.get (Reg.RP_LUT_STATUS_ACTIVE p) ∧ SameDram u v)) ∧
      (u.get (Reg.RP_TBL_STATUS_STATE p) = 0 → u.rpSumsOk p (1 - u.get (Reg.RP_TBL_STATUS_ACTIVE p)) = true → u.cseIdle = false →
        Completes (.rpTableSwap t p) s (fun v =>
          v.get (Reg.RP_TBL_STATUS_STATE p) = 2 ∧ v.get (Reg.RP_TBL_STATUS_ACTIVE p) = u.get (Reg.RP_TBL_STATUS_ACTIVE p) ∧ SameDram u v)) ∧
      (u.get (Reg.RP_TBL_STATUS_STATE p) = 0 → u.rpSumsOk p (1 - u.get (Reg.RP_TBL_STATUS_ACTIVE p)) = false →
        Completes (.rpTableSwap t p) s (fun v => v.get (Reg.UNIT_REFUSE_REASON 3) = 0x0312 ∧ v.get (Reg.RP_TBL_STATUS_STATE p) = 0 ∧ SameDram u v))) ∧
    (u.get (Reg.RP_LUT_STATUS_STATE p) = 1 → u.cseIdle = false → Completes (.lutFetchDone t p) s (fun v =>
      v.get (Reg.RP_LUT_STATUS_STATE p) = 2 ∧ v.get (Reg.RP_LUT_STATUS_ACTIVE p) = u.get (Reg.RP_LUT_STATUS_ACTIVE p) ∧ SameDram u v)) ∧
    ((u.rp p).heldLoad = true → u.rpRetained p true (1 - u.get (Reg.RP_LUT_STATUS_ACTIVE p)) = false → u.get (Reg.RP_TBL_STATUS_STATE p) ≠ 3 →
      Completes (.rpHeldLoadStart t p) s (fun v => v.get (Reg.RP_LUT_STATUS_STATE p) = 1 ∧ (v.rp p).heldLoad = false ∧ SameDram u v)) ∧
    Completes (.rpParity t p) s (fun v =>
      SMap.getD v.cse.late 0 (Reg.RP_CNT_RP_PARITY p).ofs = SMap.getD u.cse.late 0 (Reg.RP_CNT_RP_PARITY p).ofs + 1 ∧ bitAt (v.get (Reg.UNIT_INT_STATUS 3)) 24 = true ∧
      SameDram u v)

/-! ### Picture coder -/

/-- R195, R199, R205 to R209, R220: a picture starts on the next complete frame of the session's render path, with the
session's boundary first; it ends with its counter, its status and its interrupt bit; FORCE_IRAP is kept for a later picture; CLR zeroes
the session's counters. -/
def Obligations.EncodeSessions : Prop :=
  ∀ (s : State) (t : Nat) (i : Fin 4) (b : Booking) (o : RenderOut) (n : Nat) (p : EncPic) (r : PicResult),
    let u := s.tick t
    let w := u.boundary (.pcd i) o.tag.begun false
    (u.on .pcd = true → (u.enc i).pic = none → u.encPath i = some b → u.nextPicture i b = some (o, n) → w.flag (Reg.PCD_SES_CFG_EN i) = true →
      Completes (.pictureStart t i) s (fun v => (v.enc i).active = true ∧ (v.enc i).last = some n ∧
        ∃ q, (v.enc i).pic = some q ∧ q.num = n ∧ q.path = some b.path ∧ q.head.irap = w.isIrap i n (w.encSig i o) ∧
          q.head.stamp = o.tag.stamp ∧ q.allowance = w.encAllowance i o.tag.src)) ∧
    (u.live .pcd = true → (u.enc i).pic = some p → Completes (.pictureEnd t i r) s (fun v =>
      (v.enc i).pic = none ∧ v.get (Reg.PCD_CNT_PIC i) = sat32 (u.get (Reg.PCD_CNT_PIC i) + 1) ∧
      v.get (Reg.PCD_RC_LAST_BITS i) = sat32 (sumN ((r.rows.map (·.2)).take (ctuRows p.out.h))) ∧
      v.get (Reg.PCD_SES_STATUS_LAST_POC i) = p.head.poc % 2 ^ 16 ∧ v.get (Reg.PCD_SES_STATUS_LAST_QP i) = p.head.qpBase % 64 ∧
      bitAt (v.get (Reg.UNIT_INT_STATUS 4)) i = true)) ∧
    (u.reaches .pcd = true →
      Completes (.forceIrap t i) s (fun v =>
        (v.enc i).force = (match (u.enc i).force with | some c => some c | none => some u.now) ∧ SameDram u v ∧
        SameRegs u v [(Reg.PCD_SES_CTL i).ofs]) ∧
      Completes (.pcdSesClr t i) s (fun v =>
        v.get (Reg.PCD_CNT_PIC i) = 0 ∧ v.get (Reg.PCD_CNT_EXHAUST i) = 0 ∧ v.get (Reg.PCD_CNT_GUARD i) = 0 ∧
        v.get (Reg.PCD_CNT_BUF_OVER i) = 0 ∧ v.get (Reg.PCD_CNT_REF_INTRA i) = 0 ∧ v.get (Reg.PCD_CNT_PARITY i) = 0 ∧
        v.pcd = u.pcd ∧ SameDram u v))

/-- R214, R215, R218: a grid instant of an enabled decode session whose picture is due opens its frame; a good picture for it is posted
with its descriptor; a parity error counts and sets its interrupt bit. -/
def Obligations.DecodeSessions : Prop :=
  ∀ (s : State) (t : Nat) (i : Fin 2) (tag : FrameTag) (w : State) (p : DecPic) (ses : Fin 6) (k : PcdBuf),
    let u := s.tick t
    let d := u.decDrop i
    let slot := ((u.dec i).slot + 1) % max 1 (u.get (Reg.PCD_DEC_CFG_OUT_COUNT i))
    (u.on .pcd = true → u.established = true → d.sourceBoundary (6 + i) (d.dec i).counter d.mediaNs [.pcd (4 + i)] [] = (tag, w) →
      w.flag (Reg.PCD_DEC_CFG_EN i) = true → (w.dec i).ended = false →
      Completes (.decGridInstant t i .picture) s (fun v => (v.dec i).frame = some tag ∧ (v.dec i).active = true)) ∧
    (u.live .pcd = true → (u.dec i).frame = some tag → p.unsupported = false → p.w ≤ u.get (Reg.PCD_DEC_MAX_W i) →
      p.h ≤ u.get (Reg.PCD_DEC_MAX_H i) → (u.dec i).discarding = false → (u.dec i).concealed = none → p.missing = none →
      p.dataError = false → (u.dec i).parity = false → p.hashMismatch = false →
      Completes (.decOutputPost t i p) s (fun v =>
        (v.dec i).frame = none ∧ (v.dec i).slot = slot ∧ (v.dec i).counter = ((u.dec i).counter + 1) % 2 ^ 48 ∧
        (v.dec i).last = some (decDescriptor ((u.dec i).counter + 1) p.poc (u.decBase i slot) (4 * b2n p.irap) 0 p.w p.h) ∧
        bitAt (v.get (Reg.UNIT_INT_STATUS 4)) (4 + i) = true)) ∧
    (u.on .pcd = true → Completes (.pcdParity t ses k) s (fun v =>
      (ses.val < 4 → SMap.getD v.pcd.late 0 (Reg.PCD_CNT_PARITY ses).ofs = SMap.getD u.pcd.late 0 (Reg.PCD_CNT_PARITY ses).ofs + 1) ∧
      (4 ≤ ses.val → v.get (Reg.PCD_DCNT_PARITY (ses - 4)) = sat32 (u.get (Reg.PCD_DCNT_PARITY (ses - 4)) + 1)) ∧
      bitAt (v.get (Reg.UNIT_INT_STATUS 4)) 10 = true ∧ SameDram u v))

/-! ### Raw packer -/

/-- R221, R223, R243: a path engine takes the next complete raw frame that its path accepted and has a reservation for, and its job ends
with its counter and its interrupt bit. -/
def Obligations.PathJobs : Prop :=
  ∀ (s : State) (t : Nat) (e : Fin 4) (b : Booking) (o : RawOut) (j : PathJob) (src : Nat) (r : Reservation),
    let u := s.tick t
    (u.on .rpk = true → (u.eng e).job = none → (u.eng e).sw = none → u.get (Reg.RPK_ENG_CFG_MODE e) = 1 → u.engPath e = some b →
      u.nextPack e b = some o → o.h ≤ o.written → Completes (.jobStart t e) s (fun v =>
        (v.eng e).last = some o.tag.seq ∧ ∃ q, (v.eng e).job = some q ∧ q.seq = o.tag.seq ∧ q.path = b.path ∧
          q.num = (o.tag.on b.path).getD 0)) ∧
    ((u.eng e).job = some j → u.rawOut j.seq = some o → (if j.src = 0 then o.corr else o.orig) = some src →
      u.reservation j.reel j.path j.num = some r → Completes (.jobEnd t e) s (fun v =>
        (v.eng e).job = none ∧ v.get (Reg.RPK_CNT_JOBS e) = sat32 (u.get (Reg.RPK_CNT_JOBS e) + 1) ∧
        bitAt (v.get (Reg.UNIT_INT_STATUS 5)) e = true))

/-- R245, R246, R252, R253, R333: the descriptor and completion rings of an engine, its software jobs, its CLR and its parity errors. A
job that names an address the DRAM does not have stops the machine. -/
def Obligations.SoftwareJobs : Prop :=
  ∀ (s : State) (t : Nat) (e : Fin 4) (w : Word) (d : List Byte) (lost : List Nat) (a : Nat) (j : PathJob),
    let u := s.tick t
    let size := max 1 (u.get (Reg.RPK_RING_SIZE_SIZE e))
    (u.reaches .rpk = true →
      Completes (.rpkRingTailWrite t e w) s (fun v => v.get (Reg.RPK_RING_TAIL_TAIL e) = w.toNat % 4096 ∧ SameDram u v ∧
        SameRegs u v [(Reg.RPK_RING_TAIL e).ofs]) ∧
      Completes (.rpkCplHeadWrite t e w) s (fun v => v.get (Reg.RPK_CPL_HEAD_HEAD e) = w.toNat % 4096 ∧ SameDram u v ∧
        SameRegs u v [(Reg.RPK_CPL_HEAD e).ofs]) ∧
      Completes (.rpkEngClr t e) s (fun v =>
        v.get (Reg.RPK_CNT_JOBS e) = 0 ∧ v.get (Reg.RPK_CNT_OUT_OF_SPACE e) = 0 ∧ v.get (Reg.RPK_CNT_STRUCT e) = 0 ∧
        v.get (Reg.RPK_CNT_SYNTAX e) = 0 ∧ v.get (Reg.RPK_CNT_CHECK e) = 0 ∧ v.get (Reg.RPK_CNT_READ_FAIL e) = 0 ∧
        v.get (Reg.RPK_CNT_CONCEAL e) = 0 ∧ v.get (Reg.RPK_CNT_RECOMPUTE e) = 0 ∧ v.get (Reg.RPK_CNT_PARITY e) = 0 ∧
        v.get (Reg.RPK_CNT_FLUSHED e) = 0 ∧ v.rpk = u.rpk ∧ SameDram u v)) ∧
    (u.on .rpk = true → (u.eng e).job = none → (u.eng e).sw = none → u.get (Reg.RPK_ENG_CFG_MODE e) = 2 → u.cs = none →
      u.get (Reg.RPK_RING_HEAD_HEAD e) ≠ u.get (Reg.RPK_RING_TAIL_TAIL e) →
      (u.get (Reg.RPK_CPL_TAIL_TAIL e) + 1) % size ≠ u.get (Reg.RPK_CPL_HEAD_HEAD e) →
      Completes (.swJobStart t e) s (fun v =>
        (v.eng e).sw = some (u.read (u.addr40 (Reg.RPK_RING_BASE_LO e) (Reg.RPK_RING_BASE_HI e) + 64 * u.get (Reg.RPK_RING_HEAD_HEAD e)) 64))) ∧
    ((u.eng e).sw = some d → u.swAbsent e = none → Completes (.swJobComplete t e lost) s (fun v =>
      (v.eng e).sw = none ∧ v.get (Reg.RPK_CNT_JOBS e) = sat32 (u.get (Reg.RPK_CNT_JOBS e) + 1) ∧
      v.get (Reg.RPK_CPL_TAIL_TAIL e) = (u.get (Reg.RPK_CPL_TAIL_TAIL e) + 1) % size % 4096 ∧
      v.get (Reg.RPK_RING_HEAD_HEAD e) = (u.get (Reg.RPK_RING_HEAD_HEAD e) + 1) % size % 4096)) ∧
    (u.swAbsent e = some a → exec (.swJobComplete t e lost) s = .fault (.dramAddressAbsent a)) ∧
    ((u.eng e).job = some j → Completes (.rpkParity t e) s (fun v =>
      SMap.getD v.rpk.late 0 (Reg.RPK_CNT_PARITY e).ofs = SMap.getD u.rpk.late 0 (Reg.RPK_CNT_PARITY e).ofs + 1 ∧
      bitAt (v.get (Reg.UNIT_INT_STATUS 5)) 6 = true ∧ v.rpk.eng = u.rpk.eng ∧ SameDram u v))

/-! ### Outputs -/

/-- R114, R259, R260, R262, Table ORE-5: at the start of vertical blanking a generator takes the frame it is to show, or shows its frame
again; its active video begins and ends; underruns are recorded and counted on each lane of the group. CLR of a generator zeroes its
counters and those of its lanes; a palette swap waits for the vertical blanking of an enabled generator, and is done at once otherwise. -/
def Obligations.TimingGenerators : Prop :=
  (∀ (s : State) (t : Nat) (g : Fin 8) (f : Shown) (sink line x n low : Nat),
      let u := s.tick t
      let w := (u.boundary (.tg g) (((u.tgPick g).map (fun f => f.tag.begun)).getD []) false).oreSync
      (u.on .ore = true → u.established = true → ((u.boundary (.tg g) (((u.tgPick g).map (fun f => f.tag.begun)).getD []) false).tg g).palPending = false →
        w.flag (Reg.ORE_TG_CFG_EN g) = true →
        (w.tgPick g = some f → Completes (.tgVblank t g) s (fun v =>
          (v.tg g).shown = some f ∧ (v.tg g).first = true ∧ (v.tg g).repeats = 0 ∧ (v.tg g).activeNs = none ∧
          v.get (Reg.ORE_TG_STATUS_REPEAT g) = 0 ∧ bitAt (v.get (Reg.UNIT_INT_STATUS 6)) g = true)) ∧
        (w.tgPick g = none → (w.tg g).shown = some f → Completes (.tgVblank t g) s (fun v =>
          (v.tg g).shown = some f ∧ (v.tg g).first = false ∧ (v.tg g).repeats = (w.tg g).repeats + 1 ∧
          v.get (Reg.ORE_TG_STATUS_REPEAT g) = 1 ∧ bitAt (v.get (Reg.UNIT_INT_STATUS 6)) g = true))) ∧
      (u.on .ore = true → u.established = true → u.flag (Reg.ORE_TG_CFG_EN g) = true → Completes (.tgActiveStart t g) s (fun v =>
        (v.tg g).activeNs = some u.mediaNs ∧ (v.tg g).shown = (u.tg g).shown)) ∧
      (u.on .ore = true → (u.tg g).activeNs.isSome = true → (u.tg g).shown = some f → Completes (.tgActiveEnd t g) s (fun v =>
        v.tg g = { u.tg g with first := false } ∧ v.regs = u.regs ∧ SameDram u v)) ∧
      (u.on .ore = true → n ≠ 0 → sink < 16 →
        (List.range 16).find? (fun m => u.flag (Reg.ORE_PL_CFG_TX_EN m) &&
          decide (m ≤ sink ∧ sink < m + groupLanes (u.get (Reg.ORE_PL_CFG_GROUP m)))) = some low →
        Completes (.underrun t sink line x n) s (fun v =>
          (∀ k, k < groupLanes (u.get (Reg.ORE_PL_CFG_GROUP low)) →
            v.get (Reg.ORE_CNT_UNDERRUN_PIX (low + k)) = sat32 (u.get (Reg.ORE_CNT_UNDERRUN_PIX (low + k)) + n) ∧
            v.get (Reg.ORE_CNT_UNDERRUN_EVT (low + k)) = sat32 (u.get (Reg.ORE_CNT_UNDERRUN_EVT (low + k)) + 1)) ∧
          bitAt (v.get (Reg.UNIT_INT_STATUS 6)) 8 = true ∧ SameDram u v))) ∧
  (∀ (s : State) (t : Nat) (g : Fin 8),
      let u := s.tick t
      u.reaches .ore = true →
      Completes (.tgClr t g) s (fun v =>
        v.get (Reg.ORE_CNT_FRAME_REPEAT g) = 0 ∧ v.get (Reg.ORE_CNT_FRAME_HOLD g) = 0 ∧
        (∀ m ∈ u.tgLanes g, v.get (Reg.ORE_CNT_UNDERRUN_PIX m) = 0 ∧ v.get (Reg.ORE_CNT_UNDERRUN_EVT m) = 0 ∧ v.get (Reg.ORE_CNT_CRC_Y m) = 0 ∧
          v.get (Reg.ORE_CNT_CRC_C m) = 0 ∧ v.get (Reg.ORE_CNT_CRC_LINES m) = 0 ∧ v.get (Reg.ORE_CNT_AUD_UNDER m) = 0) ∧
        v.ore = u.ore ∧ SameDram u v) ∧
      (u.enabled .ore = true → u.flag (Reg.ORE_TG_CFG_EN g) = true → Completes (.paletteSwap t g) s (fun v =>
        v.tg g = { u.tg g with palPending := true } ∧ SameDram u v ∧ SameRegs u v [(Reg.ORE_TG_CTL g).ofs])) ∧
      (u.enabled .ore = false ∨ u.flag (Reg.ORE_TG_CFG_EN g) = false → Completes (.paletteSwap t g) s (fun v =>
        (v.tg g).palActive = 1 - (u.tg g).palActive ∧ getN (v.tg g).pal 0 [] = getN (v.tg g).pal 1 [] ∧
        getN (v.tg g).pal (v.tg g).palActive [] = getN (u.tg g).pal (v.tg g).palActive [] ∧
        SameDram u v ∧ SameRegs u v [(Reg.ORE_TG_CTL g).ofs])))

/-- R274, R275, R276, R277: a Return Ingest locks; a received frame that matches its declaration opens a frame in the next ring slot, one
that does not counts and puts the ingest back to LOCKED; a frame received whole is the newest in the ring; losing lock closes the frame incomplete. -/
def Obligations.ReturnIngest : Prop :=
  ∀ (s : State) (t : Nat) (i rate : Fin 4) (st352 : Word) (row num den : Nat) (wide psf : Bool) (f : RiFrameSt) (p : RiPixels)
    (crc : List (Nat × Nat × Nat)),
    let u := s.tick t
    let ok := u.riMatches i row wide psf num den
    let r := u.sourceBoundary (2 + i) (((u.ri i).seq + 1) % 2 ^ 32) u.mediaNs [.ri i]
      (if ok then (u.ri i).waiting else (u.riPaths i).map (·.path))
    let locked := 2 ≤ u.get (Reg.ORE_RI_STATUS_STATE i)
    u.on .ore = true →
    (u.get (Reg.ORE_RI_STATUS_STATE i) = 1 → Completes (.riLock t i rate st352) s (fun v =>
      v.get (Reg.ORE_RI_STATUS_STATE i) = 2 ∧ bitAt (v.get (Reg.UNIT_INT_STATUS 6)) 10 = true ∧ SameDram u v ∧
      ∀ n ∈ u.riLanes i, v.get (Reg.ORE_PL_STATUS_RX n) = 2 ∧ v.get (Reg.ORE_PL_STATUS_RATE n) = rate ∧ v.reg (Reg.ORE_PL_ST352 n).ofs = st352)) ∧
    (locked → ok = false → Completes (.riFrame t i row wide psf num den) s (fun v =>
      v.get (Reg.ORE_RI_STATUS_STATE i) = 2 ∧ v.get (Reg.ORE_CNT_FMT_MISMATCH i) = sat32 (r.2.get (Reg.ORE_CNT_FMT_MISMATCH i) + 1) ∧
      (v.ri i).frame = none)) ∧
    (locked → ok = true → r.1.accepted ≠ [] → Completes (.riFrame t i row wide psf num den) s (fun v =>
      v.get (Reg.ORE_RI_STATUS_STATE i) = 3 ∧ ∃ q, (v.ri i).frame = some q ∧ q.tag = r.1 ∧ (q.w, q.h) = riSize row wide ∧
        q.slot = ((u.ri i).slot + 1) % (r.2.get (Reg.ORE_RI_CFG_RING_M1 i) + 1))) ∧
    ((u.ri i).frame = some f → u.riPaths i = [] → Completes (.riFrameWritten t i p [] crc) s (fun v =>
      (v.ri i).frame = none ∧ (v.ri i).outs.head? = some { f with doneAt := u.now } ∧
      v.get (Reg.ORE_RI_STATUS_SLOT i) = f.slot % 256 ∧
      (∀ k b, (w422Frame f.w f.h p)[k]? = some b → v.readByte (f.base + k) = b) ∧
      (∀ a, a < f.base ∨ f.base + (w422Frame f.w f.h p).length ≤ a → v.readByte a = u.readByte a))) ∧
    (locked → (u.ri i).frame = some f → Completes (.riLockLost t i p) s (fun v =>
      v.get (Reg.ORE_RI_STATUS_STATE i) = 1 ∧ (v.ri i).frame = none ∧
      v.get (Reg.ORE_CNT_RI_INCOMPLETE i) = sat32 (u.get (Reg.ORE_CNT_RI_INCOMPLETE i) + 1) ∧
      (∃ q, (v.ri i).outs.head? = some q ∧ q.slot = f.slot ∧ q.tag.incomplete = true) ∧ bitAt (v.get (Reg.UNIT_INT_STATUS 6)) 12 = true))

/-- R279 to R282, Table ORE-3: the states of a panel port (1 TRAINING, 2 ACTIVE, 3 entering PSR, 4 PSR, 5 failed), hot plug, and an AUX
transaction with a reply. -/
def Obligations.PanelPorts : Prop :=
  ∀ (s : State) (t : Nat) (k : Fin 2) (ok psr level irq : Bool) (w : Word) (reply : List Word),
    let u := s.tick t
    (u.reaches .ore = true →
      (u.pnlState k = 2 → Completes (.psrEnter t k) s (fun v => v.pnlState k = 3 ∧ SameDram u v)) ∧
      (u.pnlState k ≠ 2 → Completes (.psrEnter t k) s (fun v =>
        v.pnlState k = u.pnlState k ∧ v.get (Reg.UNIT_REFUSE_REASON 6) = 0x0607 ∧ SameDram u v)) ∧
      (u.pnlState k = 4 ∨ u.pnlState k = 5 →
        Completes (.psrExit t k) s (fun v => v.pnlState k = 1 ∧ SameDram u v) ∧
        Completes (.retrain t k) s (fun v => v.pnlState k = 1 ∧ SameDram u v)) ∧
      (u.pnlState k = 3 → Completes (.psrExit t k) s (fun v => v.pnlState k = 3 ∧ (v.pnl k).exitQueued = true ∧ SameDram u v)) ∧
      (u.pnlState k = 2 → Completes (.retrain t k) s (fun v => v.pnlState k = 2 ∧ (v.pnl k).retrain = true ∧ SameDram u v)) ∧
      Completes (.auxCmd t k w reply) s (fun v =>
        v.outbox = .aux k (w.toNat :: (List.range 4).map (fun i => u.get (Reg.ORE_PNL_AUX_DATA k i))) :: u.outbox ∧
        (∀ j x, (reply.take 4)[j]? = some x → v.reg (Reg.ORE_PNL_AUX_DATA k j).ofs = x) ∧ SameDram u v)) ∧
    (u.on .ore = true →
      (u.pnlState k = 3 → u.pnlBusy (u.get (Reg.ORE_PNL_CFG_TG k)) = false → (u.pnl k).exitQueued = false →
        Completes (.psrEntryDone t k) s (fun v => v.pnlState k = 4 ∧ SameDram u v)) ∧
      (u.pnlState k = 1 → Completes (.panelTrainDone t k ok psr) s (fun v =>
        v.pnlState k = (if ok && u.flag (Reg.ORE_PNL_STATUS_HPD k) then 2 else 5) ∧ v.flag (Reg.ORE_PNL_STATUS_PSR_CAP k) = psr ∧
        bitAt (v.get (Reg.UNIT_INT_STATUS 6)) 13 = true ∧ SameDram u v))) ∧
    Completes (.hpdChange t k level irq) s (fun v =>
      v.flag (Reg.ORE_PNL_STATUS_HPD k) = level ∧ v.pnlState k = u.pnlState k ∧
      (irq = true ∨ u.flag (Reg.ORE_PNL_STATUS_HPD k) ≠ level → bitAt (v.get (Reg.UNIT_INT_STATUS 6)) 14 = true) ∧ SameDram u v)

/-- R285 to R288: a video sender hands a packet to its MAC and goes on by the pixels it held, or ends the frame; an audio sender hands over
the samples of its packet time; the link of a port changes. -/
def Obligations.Senders : Prop :=
  ∀ (s : State) (t : Nat) (k : Fin 8) (f : Shown) (p : Fin 2) (up : Bool),
    let u := s.tick t
    let g := u.get (Reg.ORE_TX_CFG_TG k)
    let total := u.get (Reg.ORE_TG_H_HA g) * u.get (Reg.ORE_TG_V_VA g)
    let at' := (u.txs k).pixel + min (total - (u.txs k).pixel) (u.get (Reg.ORE_TX_PKT_BYTES k) / 5 * 2)
    let n := if u.flag (Reg.ORE_TX_CFG_PTIME k) then 6 else 48
    (u.on .ore = true → u.flag (Reg.ORE_TX_CFG_EN k) = true →
      (k.val % 4 < 2 → (u.txs k).frame = some f → Completes (.st2110VideoPacket t k) s (fun v =>
        (v.txs k).seq = ((u.txs k).seq + 1) % 2 ^ 32 ∧
        (at' < total → (v.txs k).frame = some f ∧ (v.txs k).pixel = at') ∧ (total ≤ at' → (v.txs k).frame = none) ∧ SameDram u v)) ∧
      (2 ≤ k.val % 4 → n ≤ (u.txs k).audio.length → Completes (.st2110AudioPacket t k) s (fun v =>
        (v.txs k).seq = ((u.txs k).seq + 1) % 2 ^ 32 ∧ (v.txs k).audio = (u.txs k).audio.drop n ∧ SameDram u v))) ∧
    Completes (.ethLinkChange t p up) s (fun v => getN v.ore.eth p false = up ∧ v.regs = u.regs ∧ SameDram u v)

/-! ### Audio ports -/

/-- R289, R291, R294, R298 to R300: audio frames of a port: a frame boundary of a running port counts a frame, a lapsed video source closes
the open block, GO arms the ports of its mask together, a lead-in starts, frame 0 begins, and a trail ends. -/
def Obligations.AudioFrames : Prop :=
  ∀ (s : State) (t : Nat) (p : Fin 8) (words : List Nat) (b : SrcBoundary) (r : RxBlock),
    let u := s.tick t
    let mask := (List.range 8).filter (fun p => bitAt (u.get Reg.APU_START_MASK_PORTS) p)
    let start := u.getTime Reg.APU_START_S_HI_V Reg.APU_START_S_LO Reg.APU_START_NS
    let lead := maxN ((mask.filter (fun p => u.flag (Reg.APU_PORT_CFG_MASTER p))).map u.leadNs)
    (u.on .apu = true → u.cs = none → u.flag (Reg.APU_PORT_STATUS_SWAP_PENDING p) = false → (u.port p).stopReq = false →
      (u.portState p = 4 → Completes (.audioFrameBoundary t p words) s (fun v =>
        v.aframe p = (u.aframe p + 1) % 2 ^ 48 ∧ v.portState p = 4 ∧ (v.port p).lastNs = u.mediaNs)) ∧
      (u.portState p = 2 → u.flag (Reg.APU_PORT_CFG_MASTER p) = false → (u.port p).start.getD 0 ≤ u.mediaNs →
        Completes (.audioStart t p words) s (fun v => v.aframe p = 0 ∧ v.portState p = 4 ∧ (v.port p).lastNs = u.mediaNs))) ∧
    (u.assocBoundary p = some b → (u.port p).rx = some r → u.on .apu = true → b.lapsed u.mediaNs = true → 2 * r.time < 2 * b.time + 3 * b.period →
      Completes (.noBoundary t p) s (fun v => (v.port p).rx = none ∧ (v.port p).lastFrame = r.frame ∧ v.portState p = u.portState p)) ∧
    (u.reaches .apu = true → mask ≠ [] → (∀ q ∈ mask, u.portState q = 1) → u.mediaNs + 100000 + lead ≤ start → Completes (.audioGo t) s (fun v =>
      (∀ q ∈ mask, v.portState q = 2 ∧ (v.port q).start = some start) ∧ v.get Reg.APU_START_STATUS_PENDING = 1 ∧ SameDram u v)) ∧
    (u.reaches .apu = true → (∃ q ∈ mask, u.portState q ≠ 1) ∨ start < u.mediaNs + 100000 + lead → Completes (.audioGo t) s (fun v =>
      v.get (Reg.UNIT_REFUSE_REASON 7) = 0x0705 ∧ v.apu = u.apu ∧ SameDram u v)) ∧
    (u.on .apu = true → u.flag (Reg.APU_PORT_CFG_MASTER p) = true → u.portState p = 2 →
      (u.port p).start.getD 0 ≤ u.mediaNs + u.leadNs p → Completes (.leadInStart t p) s (fun v => v.portState p = 3 ∧ SameDram u v)) ∧
    (u.portState p = 5 → (u.port p).lead = 0 → Completes (.trailEnd t p) s (fun v => v.portState p = 1 ∧ (v.port p).rx = none ∧ SameDram u v))

/-- R293, R299, R300, Table APU-6: ARM, STOP, SWAP and CLR of a port, and writes of its inactive slot map. -/
def Obligations.AudioControl : Prop :=
  ∀ (s : State) (t : Nat) (p : Fin 8) (c : Fin 2) (i : Fin 16) (w : Word),
    let u := s.tick t
    let a := u.portMap p
    let bad := (u.portSlots p (1 - a) 0 ++ u.portSlots p (1 - a) 1).any (fun i => decide (u.get (Reg.APU_PORT_CFG_SLOTS_M1 p) < i))
    u.reaches .apu = true →
    (u.portState p = 1 → Completes (.audioArm t p) s (fun v =>
      (u.flag (Reg.APU_PORT_CFG_MASTER p) = true → v.portState p = 2 ∧ (v.port p).start.isSome = true) ∧
      (u.flag (Reg.APU_PORT_CFG_MASTER p) = false → v.portState p = 3 ∧ (v.port p).lead = u.get (Reg.APU_PORT_RAMP_FRAMES p)) ∧ SameDram u v)) ∧
    (u.portState p = 2 ∨ u.portState p = 6 → Completes (.apuStop t p) s (fun v => v.portState p = 1 ∧ (v.port p).rx = none ∧ SameDram u v)) ∧
    (u.portState p = 3 ∨ u.portState p = 4 → Completes (.apuStop t p) s (fun v =>
      v.portState p = u.portState p ∧ (v.port p).stopReq = true ∧ SameDram u v)) ∧
    (u.flag (Reg.APU_PORT_STATUS_SWAP_PENDING p) = false → bad = false →
      (u.portQuiet p = true → Completes (.audioSwap t p) s (fun v =>
        v.portMap p = 1 - a ∧ v.flag (Reg.APU_PORT_STATUS_SWAP_PENDING p) = false ∧ bitAt (v.get (Reg.UNIT_INT_STATUS 7)) 11 = true)) ∧
      (u.portQuiet p = false → Completes (.audioSwap t p) s (fun v =>
        v.portMap p = a ∧ v.flag (Reg.APU_PORT_STATUS_SWAP_PENDING p) = true ∧ SameDram u v))) ∧
    Completes (.apuClr t p) s (fun v =>
      v.get (Reg.APU_CNT_UNDER_FRAMES p) = 0 ∧ v.get (Reg.APU_CNT_TX_LATE p) = 0 ∧ v.get (Reg.APU_CNT_TX_BAD p) = 0 ∧
      v.get (Reg.APU_CNT_RX_DROP p) = 0 ∧ v.get (Reg.APU_CNT_POISON p) = 0 ∧ v.get (Reg.APU_CNT_RATE_EVT p) = 0 ∧ v.apu = u.apu ∧ SameDram u v) ∧
    (u.flag (Reg.APU_PORT_STATUS_SWAP_PENDING p) = false →
      (c.val ≠ a → Completes (.slotMapWrite t p c i w) s (fun v =>
        v.slotEntry p c i = (w &&& 0xC000007F#32).toNat ∧ (∀ k, k ≠ i.val → v.slotEntry p c k = u.slotEntry p c k) ∧
        (∀ k, v.slotEntry p a k = u.slotEntry p a k) ∧ v.regs = u.regs ∧ SameDram u v)) ∧
      (c.val = a → Completes (.slotMapWrite t p c i w) s (fun v =>
        v.get (Reg.UNIT_REFUSE_REASON 7) = 0x0703 ∧ v.apu = u.apu ∧ SameDram u v)))

/-- R302, R304 to R307: a transmit block is looked at while its port runs; a measured rate in the port's class locks it; FSYNC loss stops
it; a recorded block, or a missing one, delivers its frame. -/
def Obligations.AudioStreams : Prop :=
  ∀ (s : State) (t : Nat) (p : Fin 8) (meas : Nat) (c : PCell) (cells : List PCell) (w : State) (b : Booking) (r : Reservation),
    let u := s.tick t
    let reel := u.get (Reg.APU_PORT_REC_REEL p)
    let frame := leVal (bytesAt c.data 0 6)
    (u.on .apu = true →
      (u.portState p = 4 → exec (.txBlockArrive t p) s = .next (u.txAdvance p (u.aframe p + 1) 1024)) ∧
      (u.flag (Reg.APU_PORT_CFG_MASTER p) = false → u.portState p ≠ 6 → u.flag (Reg.APU_PORT_STATUS_LOCK p) = false →
        classOf (meas % 2 ^ 32) = some (u.get (Reg.APU_PORT_CFG_RATE_CLASS p)) → Completes (.rateWindow t p meas) s (fun v =>
          v.get (Reg.APU_RATE_MEAS p) = meas % 2 ^ 32 ∧ v.get (Reg.APU_RATE_REF p) = meas % 2 ^ 32 ∧
          v.flag (Reg.APU_PORT_STATUS_LOCK p) = true ∧ v.get (Reg.APU_PORT_STATUS_CLASS_MEAS p) = u.get (Reg.APU_PORT_CFG_RATE_CLASS p) ∧
          v.portState p = u.portState p ∧ SameDram u v)) ∧
      (u.flag (Reg.APU_PORT_CFG_MASTER p) = false → u.flag (Reg.APU_PORT_STATUS_LOCK p) = true → u.portState p = 4 →
        Completes (.fsyncLoss t p) s (fun v =>
          v.portState p = 6 ∧ v.flag (Reg.APU_PORT_STATUS_LOCK p) = false ∧ (v.port p).rx = none ∧
          v.get (Reg.APU_CNT_RATE_EVT p) = sat32 (u.get (Reg.APU_CNT_RATE_EVT p) + 1) ∧ bitAt (v.get (Reg.UNIT_INT_STATUS 7)) p = true))) ∧
    (u.get (Reg.APU_PORT_REC_QUEUE p) ≠ 0 → u.flag (Reg.APU_PORT_REC_REC p) = true →
      u.readItem (u.get (Reg.APU_PORT_REC_QUEUE p)) 4096 = (c :: cells, w) → w.audioPath p = some b → itemPoison (c :: cells) = 0 →
      w.reservation reel b.path frame = some r → Completes (.recBlockWrite t p) s (fun v =>
        v.outbox.head? = some (.delivered b.path frame) ∧ v.apu = w.apu)) ∧
    (u.audioPath p = some b → (u.reel reel).reservations.find? (fun (v : Reservation) => v.path == b.path) = some r → u.recDue b r = true →
      Completes (.recBlockMissing t p) s (fun v =>
        v.outbox.head? = some (.delivered b.path r.frame) ∧ v.apu.missing.head? = some (b.path, r.frame)))

/-! ### Reference and time -/

/-- R312, R313, R316 to R318: the first edge establishes time and starts the servo; an edge in a window is accepted, with its phase error,
and the sixteenth good one locks; an edge outside counts as a glitch; 1.5 periods without an edge put a locked clock in HOLDOVER. -/
def Obligations.ReferenceEdges : Prop :=
  ∀ (s : State) (t : Nat) (p : Nat × Nat) (b : Nat),
    let u := s.tick t
    let k := predNumber p (u.mediaNs - b)
    let err := u.edgeError p u.mediaNs k
    u.on .rtu = true → u.refPeriod = some p →
    (u.rtu.edge = none → (u.rtuState = 1 ∨ u.rtuState = 4) → Completes (.refEdge t u.rtuSrc) s (fun v =>
      v.rtu.edge = some u.mediaNs ∧ v.established = true ∧ v.rtuState = 2 ∧ SameDram u v)) ∧
    (u.rtu.edge = some b → inWindow p (u.mediaNs - b) k = true → Completes (.refEdge t u.rtuSrc) s (fun v =>
      v.rtu.edge = some u.mediaNs ∧ v.get Reg.RTU_PHASE_ERR = ofSigned 32 err ∧
      (u.rtuState = 2 → 15 ≤ u.rtu.good → err.natAbs ≤ u.get Reg.RTU_LOCK_THR_NS → v.rtuState = 3) ∧ SameDram u v)) ∧
    (u.rtu.edge = some b → inWindow p (u.mediaNs - b) k = false → u.rtu.outside.length < 2 → Completes (.refEdge t u.rtuSrc) s (fun v =>
      v.rtu.edge = some b ∧ v.rtu.outside = u.mediaNs :: u.rtu.outside ∧ v.rtuState = u.rtuState ∧
      v.get Reg.RTU_CNT_GLITCH = sat32 (u.get Reg.RTU_CNT_GLITCH + 1) ∧ bitAt (v.get (Reg.UNIT_INT_STATUS 8)) 3 = true ∧ SameDram u v)) ∧
    (u.rtu.edge = some b → 3 * p.1 ≤ 2 * (u.mediaNs - b) * p.2 → (u.rtuState = 2 ∨ u.rtuState = 3) → Completes (.refEdgeTimeout t) s (fun v =>
      v.rtuState = 4 ∧ v.get Reg.RTU_CNT_HOLDOVER = sat32 (u.get Reg.RTU_CNT_HOLDOVER + 1) ∧ bitAt (v.get (Reg.UNIT_INT_STATUS 8)) 0 = true ∧
      SameDram u v))

/-- R311, R321 to R324: PTP. A Sync of the selected master is recorded, and steps media time when its slot steers for the first time; an
Announce makes the best master the selected one; missing Syncs count; event stamps are queued and popped. A write to RTU_REF_CFG that no
rule refuses takes effect whole; a refused one leaves the register. -/
def Obligations.PrecisionTime : Prop :=
  (∀ (s : State) (t : Nat) (d : Fin 2) (ofs pred : Int) (mpd : Nat) (freq : Int) (m : PtpMaster) (tx : Bool) (tag : Nat),
      let u := s.tick t
      let active := u.rtuSrc = 4 ∧ u.get Reg.RTU_REF_CFG_PTP_ACTIVE = d
      let masters := m :: (u.ptpSlot d).masters.filter (fun y => (y.identity, y.port) != (m.identity, m.port))
      (u.on .rtu = true → u.flag (Reg.RTU_PTP_CFG_EN d) = true →
        ((u.ptpSlot d).selected.isSome = true → ¬ active → Completes (.ptpSync t d ofs pred mpd freq) s (fun v =>
          v.get (Reg.RTU_PTP_STATUS_OFS_VALID d) = 1 ∧ v.get (Reg.RTU_PTP_STATUS_STATE d) = 3 ∧ v.get (Reg.RTU_PTP_MPD d) = mpd % 2 ^ 32 ∧
          v.get (Reg.RTU_PTP_OFS_LO d) = ofSigned 64 ofs % 2 ^ 32 ∧ v.get (Reg.RTU_PTP_OFS_HI d) = ofSigned 64 ofs / 2 ^ 32 ∧
          v.media = u.media ∧ SameDram u v)) ∧
        ((u.ptpSlot d).selected.isSome = true → active → u.rtu.stepped = false → Completes (.ptpSync t d ofs pred mpd freq) s (fun v =>
          v.media = ((u.media : Int) + ofs * (mediaUnit : Nat)).toNat ∧ v.rtu.stepped = true ∧ v.established = true ∧
          bitAt (v.get (Reg.UNIT_INT_STATUS 8)) 4 = true ∧ SameDram u v)) ∧
        ((if m.port = 0 then u.flag (Reg.RTU_PTP_CFG_ETH0 d) else u.flag (Reg.RTU_PTP_CFG_ETH1 d)) = true → Completes (.ptpAnnounce t d m) s (fun v =>
          (v.ptpSlot d).masters = masters ∧ (v.ptpSlot d).selected = bestMaster masters ∧ SameDram u v)) ∧
        Completes (.ptpSyncLoss t d false) s (fun v =>
          v.get (Reg.RTU_CNT_SYNC_MISS d) = sat32 (u.get (Reg.RTU_CNT_SYNC_MISS d) + u.get Reg.RTU_REF_CFG_SYNC_LOSS) ∧
          (v.ptpSlot d).updates = 0 ∧ (active → u.rtuState = 3 → v.rtuState = 4) ∧ SameDram u v)) ∧
      (u.on .rtu = true → d.val < u.variant.ethPorts →
        ((getN u.rtu.fifos d []).length < 16 → Completes (.ptpEventStamp t d tx tag) s (fun v =>
          getN v.rtu.fifos d [] = getN u.rtu.fifos d [] ++ [{ ns := u.mediaNs, tx := tx, tag := tag }] ∧
          v.get (Reg.RTU_TS_STATUS_ENTRIES d) = (getN u.rtu.fifos d []).length + 1 ∧ SameDram u v)) ∧
        (16 ≤ (getN u.rtu.fifos d []).length → Completes (.ptpEventStamp t d tx tag) s (fun v =>
          v.rtu = u.rtu ∧ v.get (Reg.RTU_TS_STATUS_DROPPED d) = min 65535 (u.get (Reg.RTU_TS_STATUS_DROPPED d) + 1) ∧
          bitAt (v.get (Reg.UNIT_INT_STATUS 8)) 6 = true ∧ SameDram u v))) ∧
      (u.reaches .rtu = true → d.val < u.variant.ethPorts → (getN u.rtu.fifos d []).length ≤ 16 → Completes (.tsPop t d) s (fun v =>
        getN v.rtu.fifos d [] = (getN u.rtu.fifos d []).tail ∧
        v.get (Reg.RTU_TS_STATUS_ENTRIES d) = (getN u.rtu.fifos d []).tail.length ∧ SameDram u v))) ∧
  (∀ (s : State) (t : Nat) (w : Word) (c : Instr),
      let u := s.tick t
      (c = .refSrcWrite t w ∨ c = .ptpActiveSwitch t w) → u.reaches .rtu = true →
      (u.refCfgRefusal w.toNat = none → Completes c s (fun v => v.reg Reg.RTU_REF_CFG.ofs = w &&& 0x7FFF01FF#32 ∧ SameDram u v)) ∧
      (∀ code, u.refCfgRefusal w.toNat = some code → Completes c s (fun v =>
        v.reg Reg.RTU_REF_CFG.ofs = u.reg Reg.RTU_REF_CFG.ofs ∧ v.get (Reg.UNIT_REFUSE_REASON 8) = code ∧ v.rtu = u.rtu ∧ v.media = u.media ∧
        SameDram u v)))

/-- R324, R326, R327, R468: SET moves media time to the value set, SNAP keeps it; LTC frames in and out; the pulse of a whole second and
the end of a pulse. -/
def Obligations.TimeOfDay : Prop :=
  ∀ (s : State) (t h m sec f start : Nat) (drop : Bool) (rate : Fin 4) (g : Fin 32),
    let u := s.tick t
    let set := u.getTime Reg.RTU_TIME_SET_S_HI_V Reg.RTU_TIME_SET_S_LO Reg.RTU_TIME_SET_NS
    (u.reaches .rtu = true →
      (u.get Reg.RTU_TIME_SET_NS < 1000000000 → u.timeUsers = false → Completes (.setTime t false) s (fun v =>
        v.media = ((u.media : Int) + ((set : Int) - u.mediaNs) * (mediaUnit : Nat)).toNat ∧
        bitAt (v.get (Reg.UNIT_INT_STATUS 8)) 4 = true ∧ SameDram u v)) ∧
      (u.get Reg.RTU_TIME_SET_NS < 1000000000 → u.timeUsers = true → Completes (.setTime t false) s (fun v =>
        v.media = u.media ∧ v.get (Reg.UNIT_REFUSE_REASON 8) = 0x0803 ∧ SameDram u v)) ∧
      Completes (.snapTime t) s (fun v =>
        v.get Reg.RTU_TIME_SNAP_S_HI_V = secOf u.mediaNs / 2 ^ 32 ∧ v.get Reg.RTU_TIME_SNAP_S_LO = secOf u.mediaNs % 2 ^ 32 ∧
        v.get Reg.RTU_TIME_SNAP_NS = nsecOf u.mediaNs ∧ v.media = u.media ∧ SameDram u v)) ∧
    (u.on .rtu = true →
      (u.flag Reg.RTU_REF_CFG_LTC_JAM = false → Completes (.ltcInFrame t true h m sec f drop rate start) s (fun v =>
        v.get Reg.RTU_LTC_IN_TC = (bcd h * 2 ^ 24 + bcd m * 2 ^ 16 + bcd sec * 2 ^ 8 + bcd f) ∧ v.get Reg.RTU_LTC_IN_STATUS_STATE = 1 ∧
        v.get Reg.RTU_LTC_IN_STATUS_RATE = rate ∧ v.flag Reg.RTU_LTC_IN_STATUS_DROP = drop ∧ SameDram u v)) ∧
      Completes (.ltcInFrame t false h m sec f drop rate start) s (fun v =>
        v.get Reg.RTU_LTC_IN_STATUS_STATE = 2 ∧ v.get Reg.RTU_CNT_LTC_ERR = sat32 (u.get Reg.RTU_CNT_LTC_ERR + 1) ∧
        v.get Reg.RTU_LTC_IN_TC = u.get Reg.RTU_LTC_IN_TC ∧ SameDram u v) ∧
      (u.flag Reg.RTU_LTC_OUT_CFG_EN = true → u.established = true → Completes (.ltcOutFrame t) s (fun v =>
        ∃ l, v.outbox = .ltc l :: u.outbox ∧ l.length = 80 ∧ l.drop 64 = lsbBits 16 0xBFFC)) ∧
      (u.established = true → Completes (.mediaTimeSecond t) s (fun v =>
        (∀ k, k < 32 → u.get (Reg.DEV_GPIO_FN_FN k) = 3 → getN v.gpioOut k false = true) ∧ SameDram u v))) ∧
    Completes (.gpioPulseEnd t g) s (fun v =>
      g.val ∉ v.gpioPulse ∧ (u.get (Reg.DEV_GPIO_FN_FN g) = 3 → getN v.gpioOut g false = false) ∧ SameDram u v)

/-! ### Memory subsystem -/

/-- R328, R330, R332, R338, R342, R344, Table MSS-10: training, calibration, refresh and temperature of a DRAM channel; SWAP and CLR of its
slot table, and the code test. -/
def Obligations.DramUpkeep : Prop :=
  (∀ (s : State) (t : Nat) (c : Fin 16) (high : Bool) (cmd : Nat),
      let u := s.tick t
      (u.get (Reg.MSS_CH_STATUS_TRAIN c) = 1 →
        Completes (.trainingDone t c true) s (fun v => v.get (Reg.MSS_CH_STATUS_TRAIN c) = 2 ∧ SameDram u v ∧ SameRegs u v [(Reg.MSS_CH_STATUS c).ofs]) ∧
        ((u.chan c).retriedTraining = false → Completes (.trainingDone t c false) s (fun v =>
          (v.chan c).retriedTraining = true ∧ v.regs = u.regs ∧ SameDram u v)) ∧
        ((u.chan c).retriedTraining = true → Completes (.trainingDone t c false) s (fun v =>
          v.get (Reg.MSS_CH_STATUS_TRAIN c) = 3 ∧ bitAt (v.get (Reg.UNIT_INT_STATUS 9)) 5 = true ∧ SameDram u v))) ∧
      Completes (.zqcs t c) s (fun v =>
        (v.chan c).stallUntil = u.now + u.turnCycles 32 ∧ (v.chan c).copUsed = (u.chan c).copUsed + 32 ∧ v.regs = u.regs ∧ SameDram u v) ∧
      Completes (.refreshDue t c) s (fun v =>
        (v.chan c).openRows = [] ∧ (v.chan c).stallUntil = u.now + cyclesOf u.tRfc ∧ v.outbox.head? = some (.memCommand c 3 v.tRefi) ∧
        (u.flag Reg.MSS_REF_STATUS_DDR_HOT = true → v.tRefi = 3900) ∧ (u.flag Reg.MSS_REF_STATUS_DDR_HOT = false → v.tRefi = u.tRefi) ∧
        SameDram u v) ∧
      Completes (.ddrHotChange t high) s (fun v =>
        v.flag Reg.MSS_REF_STATUS_DDR_HOT = high ∧ v.flag Reg.MSS_REF_STATUS_FAST = u.flag Reg.MSS_REF_STATUS_FAST ∧ SameDram u v) ∧
      (u.flag Reg.MSS_REF_STATUS_FAST = true → u.flag Reg.MSS_REF_STATUS_DDR_HOT = false → u.mss.hotLowSince + 1000000000 ≤ u.mediaNs →
        Completes (.ddrHotCool t) s (fun v =>
          v.flag Reg.MSS_REF_STATUS_FAST = false ∧ bitAt (v.get (Reg.UNIT_INT_STATUS 9)) 4 = true ∧ SameDram u v)) ∧
      exec (.caParityAlert t c cmd) s = .next (u.out (.memCommand c 5 cmd))) ∧
  (∀ (s : State) (t : Nat) (c : Fin 16),
      let u := s.tick t
      let code := crc64 (u.addr40 Reg.MSS_CRC_TEST_ADDR_LO Reg.MSS_CRC_TEST_ADDR_HI_V)
        ((List.range 16).flatMap (fun i => leBytes 4 (u.get (Reg.MSS_CRC_TEST_DATA i))))
      u.reaches .mss = true →
      (c.val < u.variant.channels →
        (u.flag Reg.MSS_ARB_CFG_MANUAL = true → Completes (.slotSwap t c) s (fun v =>
          v.flag (Reg.MSS_SLOT_STATUS_PENDING c) = true ∧ v.activeCopy c = u.activeCopy c ∧ SameDram u v)) ∧
        (u.flag Reg.MSS_ARB_CFG_MANUAL = false → Completes (.slotSwap t c) s (fun v =>
          v.flag (Reg.MSS_SLOT_STATUS_PENDING c) = u.flag (Reg.MSS_SLOT_STATUS_PENDING c) ∧ v.get (Reg.UNIT_REFUSE_REASON 9) = 0x0903 ∧ SameDram u v)) ∧
        Completes (.slotClr t c) s (fun v =>
          v.get (Reg.MSS_CNT_DETECT c) = 0 ∧ v.get (Reg.MSS_CNT_RETRY_OK c) = 0 ∧ v.get (Reg.MSS_CNT_POISON_READ c) = 0 ∧
          v.get (Reg.MSS_CNT_RECOMPUTE c) = 0 ∧ v.get (Reg.MSS_CNT_CONCEAL c) = 0 ∧ v.get (Reg.MSS_CNT_COP_BUDGET c) = 0 ∧
          v.get (Reg.MSS_CNT_COP_UNAVAIL c) = 0 ∧ v.get (Reg.MSS_CNT_DATA_ERR c) = 0 ∧ v.get (Reg.MSS_CNT_FWD c) = 0 ∧
          v.get (Reg.MSS_CNT_MERGE c) = 0 ∧ v.get (Reg.MSS_CNT_RMW_POISON c) = 0 ∧ v.get (Reg.MSS_CNT_NREF c) = 0 ∧
          v.get (Reg.MSS_CNT_REPLY_DROP c) = 0 ∧ v.get (Reg.MSS_CH_STATUS_RDQ_MAX c) = 0 ∧ v.get (Reg.MSS_CH_STATUS_WRQ_MAX c) = 0 ∧
          v.get (Reg.MSS_CH_STATUS_TRAIN c) = u.get (Reg.MSS_CH_STATUS_TRAIN c) ∧ v.mss = u.mss ∧ SameDram u v)) ∧
      Completes (.crcTest t) s (fun v =>
        v.get Reg.MSS_CRC_TEST_RESULT_LO = code % 2 ^ 32 ∧ v.get Reg.MSS_CRC_TEST_RESULT_HI = code / 2 ^ 32 % 2 ^ 32 ∧ v.mss = u.mss ∧ SameDram u v))

/-- R333, R340, R341, R345, R347, R348: the wrap of the slot cycle exchanges the pending copies; a burst turn moves on to the next slot; a
read returns what DRAM holds, and one that succeeds on retry counts; a recomputed tile serves the held read. An address that the DRAM
does not have stops the machine. -/
def Obligations.DramAccess : Prop :=
  ∀ (s : State) (t : Nat) (c : Fin 16) (l : List MemReq) (r : MemReq) (port : Fin 64) (addr lat unit inst : Nat) (d : DramRead) (full : Bool)
    (q : CopReq) (b : PlanBuf),
    let u := s.tick t
    let a := addr / 64 * 64
    (u.mss.slotsWait = none → Completes (.slotTableWrap t) s (fun v =>
      v.mss.arbEff = u.reg Reg.MSS_ARB_CFG.ofs ∧ SameDram u v ∧
      ∀ k, k < u.variant.channels → (v.chan k).turn = 0 ∧ v.flag (Reg.MSS_SLOT_STATUS_PENDING k) = false ∧
        v.activeCopy k = if u.flag (Reg.MSS_SLOT_STATUS_PENDING k) then 1 - u.activeCopy k else u.activeCopy k)) ∧
    ((∀ r ∈ l, r.addr < s.mss.capacity) → Completes (.arbTurn t c l) s (fun v => (v.chan c).turn = ((u.chan c).turn + 1) % 512)) ∧
    (l.find? (fun r => decide (s.mss.capacity ≤ r.addr)) = some r → exec (.arbTurn t c l) s = .fault (.dramAddressAbsent r.addr)) ∧
    (addr < s.mss.capacity → u.inScratch a = false → u.replyDropped port = false → u.burstPoisoned a = false →
      Completes (.dramReadReturn t port addr .good false full lat) s (fun v =>
        v.outbox = .memReply port a 0 (u.read a 64) :: u.outbox ∧ v.regs = u.regs ∧ SameDram u v) ∧
      Completes (.dramReadReturn t port addr .soft false full lat) s (fun v =>
        v.outbox = .memReply port a 0 (u.read a 64) :: u.outbox ∧
        v.get (Reg.MSS_CNT_RETRY_OK (u.channelOf a)) = sat32 (u.get (Reg.MSS_CNT_RETRY_OK (u.channelOf a)) + 1) ∧ SameDram u v)) ∧
    (s.mss.capacity ≤ addr → exec (.dramReadReturn t port addr d false full lat) s = .fault (.dramAddressAbsent addr)) ∧
    (u.mss.coppice.find? (fun q => q.unit == unit && q.inst == inst) = some q → u.plan.bufs.find? (fun b => b.base == q.buf) = some b →
      b.kind ≠ .packed → Completes (.coppiceRecompute t unit inst false .good) s (fun v =>
        v.mss.coppice = u.mss.coppice.erase q ∧ v.outbox = .memReply q.port q.addr 0 (u.read (q.addr / 64 * 64) 64) :: u.outbox ∧
        v.get (Reg.MSS_CNT_RECOMPUTE (u.channelOf q.addr)) = sat32 (u.get (Reg.MSS_CNT_RECOMPUTE (u.channelOf q.addr)) + 1) ∧ SameDram u v))

/-- R354, R481, R482, R486: takes of a reel: REC requests one on a present reel and is refused with 0x0907 on an absent one; a take opens
where the walk finds space; clearing REC closes it, and the close is complete once its frames are delivered. -/
def Obligations.Takes : Prop :=
  ∀ (s : State) (t : Nat) (r : Fin 8) (take : Nat) (pairs : List (Nat × Nat)) (w : State) (c : Instr) (k : Closing) (rest : List Closing),
    let u := s.tick t
    let x := u.reel r
    let freed := match SMap.lookup x.takes ((take - 1) % 1024) with
      | some old => u.eraseTake r old.take
      | none => u
    (u.reaches .mss = true →
      (x.dataBlocks ≠ 0 → x.openTake = 0 → x.requested = false → Completes (.recWrite t r true) s (fun v =>
        (v.reel r).requested = true ∧ v.flag (Reg.MSS_REEL_CTL_REC r) = true ∧ (v.reel r).openTake = 0 ∧ SameDram u v)) ∧
      (x.dataBlocks = 0 → Completes (.recWrite t r true) s (fun v =>
        v.get (Reg.UNIT_REFUSE_REASON 9) = 0x0907 ∧ v.clip = u.clip ∧ v.flag (Reg.MSS_REEL_CTL_REC r) = u.flag (Reg.MSS_REEL_CTL_REC r) ∧
        SameDram u v)) ∧
      (x.openTake ≠ 0 → Completes (.recWrite t r false) s (fun v =>
        (v.reel r).openTake = 0 ∧ v.flag (Reg.MSS_REEL_STATUS_OPEN r) = false ∧ v.flag (Reg.MSS_REEL_CTL_REC r) = false ∧
        (v.reel r).closing = x.closing ++
          [{ take := x.openTake, timeNs := u.mediaNs, slot := x.closeSlot,
             countsAt := if x.openedAt < u.now then some u.now else none }] ∧ SameDram u v))) ∧
    ((c = .takeOpen t r ∨ c = .takeOpenRetry t r) → x.requested = true → x.openTake = 0 → x.freeTake x.nextTake 1024 = some take →
      freed.reserve r take 0xFF ((u.packedPaths r).map (fun _ => 1)) ((u.packedPaths r).length + 2) = some (pairs, w) → Completes c s (fun v =>
        (v.reel r).openTake = take ∧ (v.reel r).requested = false ∧ (v.reel r).openedAt = u.now ∧
        v.flag (Reg.MSS_REEL_STATUS_OPEN r) = true ∧ v.get (Reg.MSS_REEL_STATUS_TAKE r) = take % 2 ^ 16)) ∧
    (x.closing = k :: rest → x.reservations.any (fun v => v.take == k.take) = false → k.countsAt ≠ some u.now → Completes (.takeClose t r) s (fun v =>
      (v.reel r).closing = rest ∧ (v.reel r).nextSeq = (x.nextSeq + 1) % 2 ^ 32 ∧ (v.reel r).openTake = x.openTake))

/-! ### Cell Pool and locks -/

/-- R356, R358, R361, R366, R367: in pool mode a post that fits becomes the last item of its queue with the cells posted, and one that
does not fit is counted and changes no queue; a read takes the head cell; when a rebuild of the free list ends the waiting posts go in.
Which cells of the pool an item takes is free. -/
def Obligations.PoolQueues : Prop :=
  ∀ (s : State) (t : Nat) (q : Fin 1024) (cells : List (List Byte)) (h : Head) (w : List PCell),
    let u := s.tick t
    let x := u.queue q
    let fits := cells ≠ [] ∧ cells.length ≤ 4096 ∧ u.postFits q cells.length = true
    (u.queuesInUse.contains q.val = true → x.mode = .pool →
      (fits → cells.length + u.pool.hidden ≤ 65536 - u.poolCells → Completes (.cpPost t q cells .ok) s (fun v =>
        ∃ item, (v.queue q).list = x.list ++ [item] ∧ item.map (·.data) = cells.map (fun c => bytesAt c 0 64) ∧
          (∀ c ∈ item, c.poison = 0) ∧ (v.queue q).mode = .pool ∧ SameDram u v)) ∧
      (¬ fits → Completes (.cpPost t q cells .ok) s (fun v =>
        v.pool = u.pool ∧ v.get (Reg.SCC_CNT_POST_FAIL q) = sat32 (u.get (Reg.SCC_CNT_POST_FAIL q) + 1) ∧
        bitAt (v.get (Reg.UNIT_INT_STATUS 11)) 19 = true ∧ SameDram u v))) ∧
    (x.mode = .pool → x.head = some h → Completes (.cpRead t q .ok 0) s (fun v =>
      (v.queue q).list = dropHead x.list ∧ (v.queue q).partRead = !h.last ∧ (v.queue q).idleFired = false ∧
      (h.cell.poison % 256 ≠ 0 → v.get Reg.SCC_CNT_POISON = sat32 (u.get Reg.SCC_CNT_POISON + 1) ∧ bitAt (v.get (Reg.UNIT_INT_STATUS 11)) 17 = true) ∧
      SameDram u v)) ∧
    Completes (.freeRebuildDone t) s (fun v =>
      v.pool.waiting = [] ∧ v.pool.hidden = 0 ∧ v.get Reg.SCC_CNT_FREE_REBUILD = sat32 (u.get Reg.SCC_CNT_FREE_REBUILD + 1) ∧
      (u.pool.waiting = [(q.val, w)] → ∃ item, (v.queue q).list = x.list ++ [item] ∧
        item.map (·.data) = w.map (fun c => bytesAt c.data 0 64)) ∧ SameDram u v)

/-- R360, R362, R363, R365: a non-empty queue unread for its timeout notifies once; RESET sweeps a queue, and at the end of the sweep it
is empty and, after an error, in fallback; REINSTATE leaves fallback, and is refused with 0x0B33 elsewhere; CLR zeroes the counters. -/
def Obligations.PoolRecovery : Prop :=
  ∀ (s : State) (t : Nat) (q : Fin 1024),
    let u := s.tick t
    let x := u.queue q
    (u.get (Reg.SCC_CPQ_TIMEOUT_NS q) ≠ 0 → x.items ≠ [] → x.idleFired = false → x.idleFrom + u.get (Reg.SCC_CPQ_TIMEOUT_NS q) ≤ u.mediaNs →
      Completes (.cpIdleTimeout t q) s (fun v =>
        (v.queue q) = { x with idleFired := true } ∧
        (u.swConsumer q = true → bitAt (v.get (Reg.SCC_CP_NOTIFY (q / 32))) (q % 32) = true ∧ bitAt (v.get (Reg.UNIT_INT_STATUS 11)) 18 = true) ∧
        (u.swConsumer q = false → v.pool.notified = q.val :: u.pool.notified) ∧ SameDram u v)) ∧
    (x.mode = .sweeping → Completes (.sweepDone t q) s (fun v =>
      (v.queue q).list = [] ∧ (v.queue q).partRead = false ∧ (v.queue q).mode ≠ .sweeping ∧ (x.bySw = false → (v.queue q).mode = .fallback) ∧
      v.get (Reg.SCC_CPQ_LOST q) = sat32 (u.get (Reg.SCC_CPQ_LOST q) + (x.list.length - b2n x.partRead)) ∧
      bitAt (v.get (Reg.UNIT_INT_STATUS 11)) 16 = true ∧ SameDram u v)) ∧
    (u.reaches .scc = true →
      (x.mode ≠ .sweeping → Completes (.queueReset t q) s (fun v =>
        (v.queue q).mode = .sweeping ∧ (v.queue q).bySw = true ∧ (v.queue q).list = x.list ∧ (v.queue q).drain = [] ∧ (v.queue q).fill = [] ∧ SameDram u v)) ∧
      (x.mode = .fallback → Completes (.queueReinstate t q) s (fun v =>
        (v.queue q).mode = (if x.drain = [] ∧ x.fill = [] then .pool else .reinstating) ∧ (v.queue q).items = x.items ∧ SameDram u v)) ∧
      (x.mode ≠ .fallback → Completes (.queueReinstate t q) s (fun v =>
        v.pool = u.pool ∧ v.get (Reg.UNIT_REFUSE_REASON 11) = 0x0B33 ∧ SameDram u v)) ∧
      Completes (.cpqClr t q) s (fun v =>
        v.get (Reg.SCC_CPQ_LOST q) = 0 ∧ v.get (Reg.SCC_CNT_POST_FAIL q) = 0 ∧ v.pool = u.pool ∧ SameDram u v))

/-- R357, R369, R370: software ports: their configuration, PUSH of cells to a queue that takes them, and POP of the head cell. -/
def Obligations.PoolPorts : Prop :=
  ∀ (s : State) (t : Nat) (k : Fin 8) (w : Word) (n : Fin 4) (h : Head),
    let u := s.tick t
    let q := u.get (Reg.SCC_CP_WR_CFG_QUEUE k)
    let r := u.get (Reg.SCC_CP_RD_CFG_QUEUE k)
    u.reaches .scc = true →
    (u.checks = [] → bitAt w.toNat 31 = false →
      Completes (.cpWrCfgWrite t k w) s (fun v => v.reg (Reg.SCC_CP_WR_CFG k).ofs = w &&& 0x800003FF#32 ∧ v.pool = u.pool ∧ SameDram u v) ∧
      Completes (.cpRdCfgWrite t k w) s (fun v => v.reg (Reg.SCC_CP_RD_CFG k).ofs = w &&& 0x800003FF#32 ∧ v.pool = u.pool ∧ SameDram u v)) ∧
    (u.flag (Reg.SCC_CP_WR_STATUS_BUSY k) = false → u.flag (Reg.SCC_CP_WR_CFG_EN k) = true → (u.queue q).mode = .pool →
      u.postFits q (n.val + 1) = true → n.val + 1 + u.pool.hidden ≤ 65536 - u.poolCells → Completes (.portPush t k n .ok) s (fun v =>
        v.get (Reg.SCC_CP_WR_STATUS_RESULT k) = 0 ∧
        (∃ item, (v.queue q).list = (u.queue q).list ++ [item] ∧ item.length = n.val + 1) ∧ SameDram u v)) ∧
    (u.flag (Reg.SCC_CP_RD_CFG_EN k) = true → (u.queue r).mode = .pool → (u.queue r).head = some h → Completes (.portPop t k .ok 0) s (fun v =>
      (v.queue r).list = dropHead (u.queue r).list ∧ (v.queue r).partRead = !h.last ∧ SameDram u v))

/-- R371: reading a lock acquires it where it is free or broken, and the reader learns the owner where it is held. -/
def Obligations.LockAcquire : Prop :=
  ∀ (s : State) (t : Nat) (r : Requester) (n : Fin 256),
    let u := s.tick t
    let l := u.locks[n]
    let word := if l.st = .free then 2 ^ 30 + r.code else if l.st = .broken then 3 * 2 ^ 30 + r.code
      else if l.owner = r.code then 2 ^ 30 + r.code else 2 * 2 ^ 30 + l.owner
    u.reaches .scc = true → Completes (.lockAcquire t r n) s (fun v =>
      v.outbox = .readData (Reg.SCC_LOCK n).ofs (leBytes 4 word) :: u.outbox ∧
      v.locks[n].st = .held ∧ v.locks[n].owner = (if l.st = .held then l.owner else r.code) ∧
      (∀ m : Fin 256, m ≠ n → v.locks[m] = u.locks[m]) ∧ v.regs = u.regs ∧ SameDram u v)

/-- R372: the owner's write releases a lock, any other write has no effect and is refused with 0x0B34, and SCC_LOCK_PEEK shows state and
owner without acquiring. R373: BREAK breaks a held lock. Unit windows are read and written while the unit is reached (R430, R440). -/
def Obligations.LockRelease : Prop :=
  ∀ (s : State) (t : Nat) (r : Requester) (n : Fin 256),
    let u := s.tick t
    let l := u.locks[n]
    u.reaches .scc = true →
    u.readReg r (Reg.SCC_LOCK_PEEK n).ofs = (match l.st with | .free => 0 | .held => 1 | .broken => 2) * 2 ^ 30 + l.owner ∧
    (l.st = .held → l.owner = r.code → Completes (.lockRelease t r n) s (fun v =>
      v.locks[n].st = .free ∧ (∀ m : Fin 256, m ≠ n → v.locks[m] = u.locks[m]) ∧ v.regs = u.regs ∧ SameDram u v)) ∧
    (¬ (l.st = .held ∧ l.owner = r.code) → Completes (.lockRelease t r n) s (fun v =>
      v.locks = u.locks ∧ v.get (Reg.UNIT_REFUSE_REASON 11) = 0x0B34 ∧ SameDram u v)) ∧
    (l.st = .held → Completes (.breakLock t r n) s (fun v =>
      v.locks[n].st = .broken ∧ v.locks[n].owner = l.owner ∧ (∀ m : Fin 256, m ≠ n → v.locks[m] = u.locks[m]) ∧
      bitAt (v.get (Reg.UNIT_INT_STATUS 11)) 20 = true ∧ SameDram u v)) ∧
    (l.st ≠ .held → Completes (.breakLock t r n) s (fun v => v.locks = u.locks ∧ SameDram u v))

/-! ### Enabling, Change Sets, units -/

/-- R32 to R35, R485: 1 written to ENABLE asks for a check, and nothing where it reads 1 already; 0 takes its turn after the unit's own
check, and the units of Heartwood stay enabled. A check that refuses clears ENABLE and reports the code (R15, R33); one that accepts
enables the unit. -/
def Obligations.Enables : Prop :=
  ∀ (s : State) (t : Nat) (x : UnitId) (n : NoGo) (b : Booked),
    let u := s.tick t
    let now := { u with checks := [] }
    (u.boot.busOpen = true → u.flag Reg.HTP_SHUTDOWN_STATUS_SHUTDOWN = false → u.variant.has x = true →
      (u.flag (Reg.UNIT_CTL_ENABLE x.id) = false → Completes (.unitEnable t x) s (fun v =>
        v.flag (Reg.UNIT_CTL_ENABLE x.id) = true ∧ v.checks = u.checks ++ [.enable x] ∧ v.enabled x = u.enabled x ∧ SameDram u v)) ∧
      (u.flag (Reg.UNIT_CTL_ENABLE x.id) = true → exec (.unitEnable t x) s = .next u) ∧
      (x.heartwood = true → exec (.unitDisable t x) s = .next u) ∧
      (x.heartwood = false → u.checks.contains (.enable x) = true →
        exec (.unitDisable t x) s = .next { u with checks := u.checks ++ [.disable x] }) ∧
      (x.heartwood = false → u.checks.contains (.enable x) = false → u.cs = none → u.plan.bookings = [] →
        Completes (.unitDisable t x) s (fun v => v.flag (Reg.UNIT_CTL_ENABLE x.id) = false))) ∧
    (u.checks = [.enable x] → now.enableVerdict x = .inl n → Completes (.consistencyCheck t) s (fun v =>
      v.checks = [] ∧ v.flag (Reg.UNIT_CTL_ENABLE x.id) = false ∧ v.enabled x = u.enabled x ∧ v.plan = u.plan ∧
      v.get Reg.DEV_LDG_STATUS_LAST_REASON = n.code % 65536 ∧ v.get (Reg.UNIT_REFUSE_REASON x.id) = n.code % 65536 ∧
      v.get (Reg.UNIT_REFUSE_OFFSET x.id) = bits ((0x100000 * x.id + n.ofs) % 0x100000) 17 2 ∧
      bitAt (v.get Reg.DEV_EVT_STATUS) 0 = true ∧ bitAt (v.get Reg.DEV_EVT_STATUS) 1 = true ∧ SameDram u v)) ∧
    (u.checks = [.enable x] → u.cs = none → now.enableVerdict x = .inr b → Completes (.consistencyCheck t) s (fun v =>
      v.checks = [] ∧ v.enabled x = true ∧ v.flag (Reg.UNIT_CTL_ENABLE x.id) = true ∧ v.planSeq = u.planSeq + 1 ∧
      bitAt (v.get Reg.DEV_EVT_STATUS) 0 = true))

/-- R23, R33, R40 to R44, R467: CS_COMMIT asks for a check, and is refused with 0x0D08 while a Change Set is checked or pending; the
check's outcome; an owner whose frames have ended is idle; a write to DEV_GPIO_FN takes its turn and stores what the table of functions
allows. -/
def Obligations.ChangeSets : Prop :=
  ∀ (s : State) (t : Nat) (n : NoGo) (b : Booked) (o : Bnd) (g : Fin 32) (w : Word),
    let u := s.tick t
    let now := { u with checks := [] }
    let fn := bits w.toNat 31 28
    let top := ([15, 7, 1, 15, 7, 15, 1] : List Nat).getD fn 0
    let there := u.boot.busOpen = true ∧ u.flag Reg.HTP_SHUTDOWN_STATUS_SHUTDOWN = false
    (there → u.csBusy = true → Completes (.csCommit t) s (fun v =>
      v.get Reg.DEV_LDG_STATUS_LAST_REASON = 0x0D08 ∧ v.checks = u.checks ∧ v.cs = u.cs ∧
      v.get Reg.CS_STATUS_STATE = u.get Reg.CS_STATUS_STATE ∧ SameDram u v)) ∧
    (there → u.csBusy = false → Completes (.csCommit t) s (fun v =>
      v.get Reg.CS_STATUS_STATE = 1 ∧ v.get Reg.CS_STATUS_DROPPED = 0 ∧ v.checks = u.checks ++ [.commit] ∧ v.cs = u.cs ∧ SameDram u v)) ∧
    (u.checks = [.commit] → now.commitVerdict = .inl n → Completes (.consistencyCheck t) s (fun v =>
      v.checks = [] ∧ v.get Reg.CS_STATUS_STATE = 3 ∧ v.get Reg.CS_STATUS_REASON = n.code % 65536 ∧
      v.get Reg.DEV_LDG_STATUS_LAST_REASON = n.code % 65536 ∧ v.cs = u.cs ∧ v.plan = u.plan ∧
      bitAt (v.get Reg.DEV_EVT_STATUS) 0 = true ∧ bitAt (v.get Reg.DEV_EVT_STATUS) 1 = true ∧ SameDram u v)) ∧
    (u.checks = [.commit] → now.commitVerdict = .inr b → Completes (.consistencyCheck t) s (fun v =>
      v.checks = [] ∧ v.planSeq = u.planSeq + 1 ∧ bitAt (v.get Reg.DEV_EVT_STATUS) 0 = true ∧
      (v.cs = none → bitAt (v.get Reg.DEV_EVT_STATUS) 2 = true))) ∧
    (u.cs = none → u.bndBusy o = false → u.bndIdle o = false → Completes (.unitIdle t o) s (fun v => v.bndIdle o = true ∧ v.cs = none)) ∧
    (there → u.checks ≠ [] → exec (.gpioFnWrite t g w) s = .next { u with checks := u.checks ++ [.gpio g w] }) ∧
    (there → u.checks = [] → 6 < fn ∨ top < bits w.toNat 27 24 → Completes (.gpioFnWrite t g w) s (fun v =>
      v.get Reg.DEV_LDG_STATUS_LAST_REASON = 0x0D11 ∧ v.reg (Reg.DEV_GPIO_FN g).ofs = u.reg (Reg.DEV_GPIO_FN g).ofs ∧ SameDram u v)) ∧
    (there → u.checks = [] → fn ≤ 6 → bits w.toNat 27 24 ≤ top → gpioOwner (u.get (Reg.DEV_GPIO_FN_FN g)) = none →
      Completes (.gpioFnWrite t g w) s (fun v => v.reg (Reg.DEV_GPIO_FN g).ofs = w &&& 0xFF000003#32 ∧ SameDram u v))

/-- R439 to R447: reset requests, the assertion of a unit's sideband, the end of its drain window, grafts and freezes. -/
def Obligations.UnitRemoval : Prop :=
  ∀ (s : State) (t : Nat) (x : UnitId) (begun : Nat) (c : Cause) (r : Removal) (on : Bool),
    let u := s.tick t
    let there := u.boot.busOpen = true ∧ u.flag Reg.HTP_SHUTDOWN_STATUS_SHUTDOWN = false ∧ u.variant.has x = true
    (there → (u.unit x).removal = none → (u.unit x).reqReset = false → u.checks = [] →
      Completes (.resetReq t x) s (fun v => (v.unit x).reqReset = true)) ∧
    (there → (u.unit x).reqReset = true → exec (.resetReq t x) s = .next u) ∧
    (u.variant.has x = true → u.removalCause x = some c → (u.unit x).removal = none → u.plan.bookings = [] → u.mss.coppice = [] →
      Completes (.unitRemoval t x begun) s (fun v =>
        (v.unit x).removal = some { cause := c, since := u.now, drained := false } ∧ v.removed x = true ∧
        (∀ p ∈ unitPorts x, p ∈ v.mss.masked) ∧ (x ≠ .rpk → x ≠ .pcd → SameDram u v))) ∧
    ((u.unit x).removal = some r → r.drained = false → r.since + u.get (Reg.UNIT_DRAIN_TIME_DRAIN_US x.id) * 400 ≤ u.now →
      (r.cause = .graft → Completes (.drainEnd t x) s (fun v =>
        v.phase x = 3 ∧ (v.unit x).removal = some { r with drained := true } ∧ SameDram u v)) ∧
      (r.cause = .power → Completes (.drainEnd t x) s (fun v =>
        v.phase x = 6 ∧ (v.unit x).removal = some { r with drained := true } ∧ SameDram u v)) ∧
      (r.cause = .reset → Completes (.drainEnd t x) s (fun v => (v.unit x).removal = none ∧ (v.unit x).reqReset = false ∧
        (u.enabled x = false → SameDram u v ∧ ∀ ofs, ofs / 0x100000 = x.id → 0x100 ≤ ofs % 0x100000 →
          keptReg x (ofs % 0x100000) = false → v.reg ofs = Regs.resetOf ofs)))) ∧
    (there → (u.unit x).graft = .idle → (u.unit x).removal = none →
      let may := x.pixel = true ∧ ∀ b ∈ u.unitPaths x, b.leaving = false → u.get (Reg.DEV_PATH_CFG_SHED_RANK b.path) ≠ 0
      (may → Completes (.graftReq t x) s (fun v => (v.unit x).graft = .shedding ∧ (v.unit x).removal = none ∧ SameDram u v)) ∧
      (¬ may → Completes (.graftReq t x) s (fun v =>
        v.units = u.units ∧ v.get (Reg.UNIT_REFUSE_REASON x.id) = 0x0D0D ∧ SameDram u v))) ∧
    ((u.unit x).graft = .shedding → (u.unit x).removal = none →
      (∀ b ∈ u.unitPaths x, (u.path b.path).graftPassed = true ∧ u.heldFrames x b = []) →
      Completes (.graftPoint t x begun) s (fun v =>
        (v.unit x).graft = .removed ∧ (v.unit x).removal = some { cause := .graft, since := u.now, drained := false })) ∧
    ((u.unit x).removal = some r → r.cause = .graft → r.drained = true → Completes (.graftLoadDone t x) s (fun v =>
      (v.unit x).graft = .idle ∧ (v.unit x).removal = none ∧
      v.get Reg.DEV_GRAFT_STATUS_RESULT = (u.graftImage x).1 % 256 ∧ v.get Reg.DEV_GRAFT_STATUS_UNIT = x.id ∧
      (v.unit x).ucode = (if (u.graftImage x).1 = 0 then some (u.graftImage x).2 else (u.unit x).ucode) ∧
      bitAt (v.get Reg.DEV_EVT_STATUS) 5 = true ∧ SameDram u v)) ∧
    (there → (on = false ∨ ∀ b ∈ u.unitPaths x, b.leaving = true) → Completes (.unitFreeze t x on) s (fun v =>
      v.flag (Reg.UNIT_CTL_FREEZE x.id) = on ∧ (u.phase x = 0 → v.phase x = (if on then 4 else 0)) ∧ SameDram u v)) ∧
    (there → on = true → (∃ b ∈ u.unitPaths x, b.leaving = false) → Completes (.unitFreeze t x on) s (fun v =>
      v.flag (Reg.UNIT_CTL_FREEZE x.id) = u.flag (Reg.UNIT_CTL_FREEZE x.id) ∧ v.get (Reg.UNIT_REFUSE_REASON x.id) = 0x0D0F ∧ SameDram u v))

/-! ### Events, interrupts, views, snapshots -/

/-- R448, R449, R451, R470, R472, R483: the event writer writes its oldest message; interrupt bits are cleared, unless their event falls in
the same cycle, and forced; a view is the writer's own; a Sapwood core's watchdog breaks its locks; snapshots. -/
def Obligations.EventsAndSnapshots : Prop :=
  ∀ (s : State) (t : Nat) (m : EvtMsg) (rest : List EvtMsg) (k : Fin 13) (w : Word) (r : Requester) (c : Fin 4) (a : Nat) (d : List Byte),
    let u := s.tick t
    let seq := u.get Reg.DEV_EVLOG_SEQ
    let base := u.addr40 Reg.DEV_EVLOG_BASE_LO Reg.DEV_EVLOG_BASE_HI
    let rec32 := leBytes 4 seq ++ leBytes 6 (secOf m.timeNs) ++ leBytes 4 (nsecOf m.timeNs) ++ leBytes 1 m.unit ++ leBytes 1 m.inst ++
      leBytes 2 m.code ++ leBytes 1 m.cls ++ leBytes 1 (m.flags ||| (b2n u.evt.lost * 2)) ++ leBytes 6 m.frame ++ leBytes 2 m.arg0 ++
      leBytes 4 m.arg1
    let there := u.boot.busOpen = true ∧ u.flag Reg.HTP_SHUTDOWN_STATUS_SHUTDOWN = false ∧
      (k.val = 0 ∨ (UnitId.ofId k).any (fun x => u.variant.has x) = true)
    (u.evt.queue = m :: rest → Completes (.eventRecordWrite t) s (fun v =>
      v.evt = { queue := rest, lost := false } ∧ v.get Reg.DEV_EVLOG_SEQ = (seq + 1) % 2 ^ 32 ∧
      (∀ i : Fin 8, v.get (Reg.HTP_KPR_EVT (seq % 64) i) = leVal (bytesAt rec32 (4 * i) 4)) ∧
      (u.mss.capacity ≠ 0 → v.read (base + 32 * (seq % 4096)) 32 = rec32) ∧
      (∀ p, p < base + 32 * (seq % 4096) ∨ base + 32 * (seq % 4096) + 32 ≤ p → v.readByte p = u.readByte p))) ∧
    (there → Completes (.intStatusClear t k w) s (fun v => SameDram u v ∧ ∀ n : Fin 32,
      bitAt (v.get (intReg k)) n =
        (bitAt (u.get (intReg k)) n && (!bitAt w.toNat n || SMap.lookup u.intAt (32 * k + n) == some u.now)))) ∧
    (there → Completes (.intForce t k w) s (fun v => SameDram u v ∧ ∀ n : Fin 32,
      bitAt (v.get (intReg k)) n = (bitAt (u.get (intReg k)) n || (bitAt w.toNat n && bitAt (intMask k) n)))) ∧
    (there → r.hasView = true → Completes (.unitViewWrite t r k w) s (fun v =>
      v.view r k = bitAt w.toNat 0 ∧ (∀ r' k', (r'.code, k') ≠ (r.code, k.val) → v.view r' k' = u.view r' k') ∧
      v.regs = u.regs ∧ SameDram u v)) ∧
    Completes (.sapwoodWatchdog t c) s (fun v => SameDram u v ∧ ∀ n : Fin 256,
      v.locks[n] = if u.locks[n].st = .held ∧ u.locks[n].owner = 0x0B00 + c then { st := .broken, owner := u.locks[n].owner }
        else u.locks[n]) ∧
    (u.boot.busOpen = true → u.flag Reg.HTP_SHUTDOWN_STATUS_SHUTDOWN = false → Completes (.snapRequest t) s (fun v =>
      (u.snap.writing = none → (v.snap.writing.map (·.1)) = some (.dram (u.addr40 Reg.DEV_SNAP_ADDR_LO Reg.DEV_SNAP_ADDR_HI / 64 * 64))) ∧
      (u.snap.writing ≠ none → v.snap.writing = u.snap.writing ∧
        v.snap.waiting = u.snap.waiting ++ [.dram (u.addr40 Reg.DEV_SNAP_ADDR_LO Reg.DEV_SNAP_ADDR_HI / 64 * 64)]) ∧ SameDram u v)) ∧
    (u.snap.writing = some (.dram a, d) →
      (a + d.length ≤ u.mss.capacity → Completes (.snapDone t) s (fun v =>
        v.read a d.length = d ∧ (∀ p, p < a ∨ a + d.length ≤ p → v.readByte p = u.readByte p) ∧
        bitAt (v.get Reg.DEV_EVT_STATUS) 4 = true)) ∧
      (u.mss.capacity < a + d.length → exec (.snapDone t) s = .fault (.dramAddressAbsent a)))

/-! ### The register bus -/

/-- R7, R8, R13, R41, R375, R377, R378, R380, R381, R430, R440, R469: a write on the register bus; the Management SPI port; accesses that
BAR0 does not take; the DRAM aperture. -/
def Obligations.RegisterBus : Prop :=
  ∀ (s : State) (t : Nat) (r : Requester) (ofs : Nat) (w addr : Word) (x : UnitId) (l : Fin 2) (p : Fin 0x800000) (n : Fin 512) (d : List Byte),
    let u := s.tick t
    let open' := u.busFor r = true
    let up := u.flag Reg.HTP_SHUTDOWN_STATUS_SHUTDOWN = false
    let fmt := (Reg.SLR_LINK_FMT l).ofs
    let a := u.addr40 Reg.HIF_APT_BASE_LO Reg.HIF_APT_BASE_HI + p
    (u.busFor r = false → exec (.registerWrite t r ofs w) s = .next u) ∧
    (open' → up → (ofs % 4 ≠ 0 ∨ u.variant.hasReg ofs = false) → exec (.registerWrite t r ofs w) s = .next u) ∧
    (open' → ¬ up → Completes (.registerWrite t r ofs w) s (fun v => v.get (Reg.UNIT_REFUSE_REASON 12) = 0x0C05 ∧ SameDram u v)) ∧
    (open' → up → ofs % 4 = 0 → ofs / 0x100000 = x.id → u.variant.hasReg ofs = true → 0x100 ≤ ofs % 0x100000 → u.removed x = true →
      Completes (.registerWrite t r ofs w) s (fun v =>
        v.get (Reg.UNIT_REFUSE_REASON x.id) = 0x0D0E ∧ v.get (Reg.UNIT_REFUSE_OFS_OFS x.id) = ofs % 0x100000 ∧ SameDram u v)) ∧
    (open' → up → u.removed .slr = false → (u.csBusy && bitAt (u.get Reg.CS_MASK) 1) = false →
      Completes (.registerWrite t r fmt w) s (fun v =>
        v.reg fmt = u.reg fmt ∧ (∀ o, o ≠ fmt → v.shadowReg o = u.shadowReg o) ∧
        (∀ q, (Regs.find fmt).map (·.wmask) = some q →
          v.shadowReg fmt = (w &&& BitVec.ofNat 32 q) ||| (u.shadowReg fmt &&& ~~~(BitVec.ofNat 32 q))) ∧ v.regs = u.regs ∧ SameDram u v)) ∧
    (open' → up → u.removed .slr = false → (u.csBusy && bitAt (u.get Reg.CS_MASK) 1) = true →
      Completes (.registerWrite t r fmt w) s (fun v =>
        v.shadow = u.shadow ∧ v.get Reg.CS_STATUS_DROPPED = min 255 (u.get Reg.CS_STATUS_DROPPED + 1) ∧ SameDram u v)) ∧
    (u.clocked = true →
      (u.boot.busOpen = false → exec (.mgmtTransaction t 0x0B addr w false false) s = .next (u.out (.mgmtReply 0x83 0))) ∧
      (u.boot.busOpen = true → addr.toNat < 0x4000000 → addr.toNat % 4 = 0 → addr.toNat / 0x100000 ≠ 11 →
        exec (.mgmtTransaction t 0x0B addr w false false) s = .next (u.out (.mgmtReply 0x80 (u.readReg .mgmt addr.toNat)))) ∧
      (u.boot.busOpen = true → 0x4000000 ≤ addr.toNat → Completes (.mgmtTransaction t 0x0B addr w false false) s (fun v =>
        v.outbox.head? = some (.mgmtReply 0x81 0) ∧ v.get Reg.HIF_CNT_MGMT_ERR = sat32 (u.get Reg.HIF_CNT_MGMT_ERR + 1) ∧
        bitAt (v.get (Reg.UNIT_INT_STATUS 10)) 4 = true ∧ SameDram u v))) ∧
    exec (.bar0BadAccess t true ofs) s = .next u ∧
    (u.hostUp = true → exec (.bar0BadAccess t false ofs) s = .next (u.out (.unsupportedRequest ofs))) ∧
    (u.hostUp = true → d ≠ [] → d.length ≤ 512 →
      (u.inDram a d.length = true → u.inScratch a = false → u.inScratch (a + d.length - 1) = false →
        Completes (.apertureAccess t p (some d) n []) s (fun v =>
          v.read a d.length = d ∧ (∀ q, q < a ∨ a + d.length ≤ q → v.readByte q = u.readByte q) ∧ v.regs = u.regs)) ∧
      (u.inDram a d.length = false → exec (.apertureAccess t p (some d) n []) s = .fault (.dramAddressAbsent a))) ∧
    (u.hostUp = true → u.inDram a (n + 1) = true → u.inScratch a = false → u.inScratch (a + (n.val + 1) - 1) = false →
      u.mss.poisoned = [] →
      exec (.apertureAccess t p none n []) s = .next (u.out (.readData a (u.read a (n + 1)))))

/-- R5, R6: what DEV_VARIANT and DEV_UNITS_PRESENT read. R7: the window of an absent unit reads 0, and ignores writes where no shutdown
refuses them (R430). -/
def Obligations.VariantShown : Prop :=
  ∀ (s : State) (t : Nat) (r : Requester) (ofs : Nat) (w : Word),
    s.readReg r Reg.DEV_VARIANT.ofs = (match s.variant with | .el9640 => 0x9640 | .el9630 => 0x9630 | .el9620 => 0x9620) ∧
    s.readReg r Reg.DEV_UNITS_PRESENT.ofs = (match s.variant with | .el9640 => 0x1FFF | .el9630 => 0x1FEF | .el9620 => 0x1FCF) ∧
    bitAt (s.readReg r Reg.DEV_UNITS_PRESENT.ofs) 0 = true ∧
    (∀ x : UnitId, bitAt (s.readReg r Reg.DEV_UNITS_PRESENT.ofs) x.id = s.variant.has x) ∧
    (∀ n, 13 ≤ n → bitAt (s.readReg r Reg.DEV_UNITS_PRESENT.ofs) n = false) ∧
    (∀ x : UnitId, s.variant.has x = false → ofs / 0x100000 = x.id → s.readReg r ofs = 0 ∧
      ((s.tick t).flag Reg.HTP_SHUTDOWN_STATUS_SHUTDOWN = false → exec (.registerWrite t r ofs w) s = .next (s.tick t)))

/-! ### Host interface -/

/-- R379, R382 to R387: enabling a queue pair, its doorbells, the fetch of an entry, the posting of a completion, coalescing, and vector
masks. The CID of a completion for an entry that could not be read is free. -/
def Obligations.QueuePairs : Prop :=
  ∀ (s : State) (t : Nat) (q : Fin 64) (w : Word) (entry : List Byte) (c : Completion) (n : Fin 2048) (masked : Bool),
    let u := s.tick t
    let good := u.get (Reg.HIF_SQ_BASE_LO q) % 4096 = 0 ∧ u.get (Reg.HIF_CQ_BASE_LO q) % 4096 = 0 ∧ bits w.toNat 27 16 ≠ 0
    let head := (u.get (Reg.HIF_QP_STATUS_SQ_HEAD q) + 1) % u.qpDepth q
    let cmd := HostCmd.ofEntry entry head u.hif.order
    let tail := u.get (Reg.HIF_CQ_TAIL_TAIL q)
    let phase := u.get (Reg.HIF_CQ_TAIL_PHASE q)
    (u.reaches .hif = true → u.flag (Reg.HIF_QP_CFG_EN q) = false → bitAt w.toNat 31 = true →
      (good → q.val = 0 ∨ u.flag (Reg.HIF_QP_CFG_EN 0) = true → Completes (.qpEnable t q w) s (fun v =>
        v.qpState q = 1 ∧ v.flag (Reg.HIF_QP_CFG_EN q) = true ∧ v.get (Reg.HIF_QP_STATUS_SQ_HEAD q) = 0 ∧ v.get (Reg.HIF_SQ_TAIL q) = 0 ∧
        v.get (Reg.HIF_CQ_HEAD q) = 0 ∧ v.get (Reg.HIF_CQ_TAIL_TAIL q) = 0 ∧ v.get (Reg.HIF_CQ_TAIL_PHASE q) = 1 ∧
        v.qp q = QpSt.reset ∧ SameDram u v)) ∧
      (¬ good → Completes (.qpEnable t q w) s (fun v =>
        v.get (Reg.UNIT_REFUSE_REASON 10) = 0x0A01 ∧ v.qpState q = u.qpState q ∧ SameDram u v)) ∧
      (good → q.val ≠ 0 → u.flag (Reg.HIF_QP_CFG_EN 0) = false → Completes (.qpEnable t q w) s (fun v =>
        v.get (Reg.UNIT_REFUSE_REASON 10) = 0x0A03 ∧ v.qpState q = u.qpState q ∧ SameDram u v))) ∧
    (u.reaches .hif = true → u.flag (Reg.HIF_QP_CFG_EN q) = true → bitAt w.toNat 31 = true → Completes (.qpEnable t q w) s (fun v =>
      v.get (Reg.UNIT_REFUSE_REASON 10) = 0x0A02 ∧ v.qpState q = u.qpState q ∧ SameDram u v)) ∧
    (u.hostUp = true → u.qpState q = 1 →
      (w.toNat < u.qpDepth q → Completes (.sqDoorbell t q w) s (fun v => v.get (Reg.HIF_SQ_TAIL q) = w.toNat ∧ v.qpState q = 1 ∧ SameDram u v)) ∧
      (u.qpDepth q ≤ w.toNat → Completes (.sqDoorbell t q w) s (fun v =>
        v.qpState q = 2 ∧ bitAt (v.get (Reg.UNIT_INT_STATUS 10)) 2 = true ∧ SameDram u v)) ∧
      (w.toNat = tail → tail < u.qpDepth q → Completes (.cqDoorbell t q w) s (fun v =>
        v.get (Reg.HIF_CQ_HEAD q) = w.toNat ∧ v.qpState q = 1 ∧ SameDram u v)) ∧
      (u.qpDepth q ≤ w.toNat → Completes (.cqDoorbell t q w) s (fun v => v.qpState q = 2 ∧ SameDram u v))) ∧
    (u.hostUp = true → u.flag Reg.HTP_SHUTDOWN_STATUS_SHUTDOWN = false → u.nextPair = some q →
      (u.entryStatus q cmd entry = 0 → Completes (.sqFetch t entry false) s (fun v =>
        (v.qp q).outstanding = (u.qp q).outstanding ++ [cmd] ∧ v.get (Reg.HIF_QP_STATUS_SQ_HEAD q) = head ∧
        v.get Reg.HIF_CNT_CMD = sat32 (u.get Reg.HIF_CNT_CMD + 1) ∧ SameDram u v)) ∧
      (u.entryStatus q cmd entry ≠ 0 → Completes (.sqFetch t entry false) s (fun v =>
        (v.qp q).outstanding = (u.qp q).outstanding ∧ (v.qp q).ready = (u.qp q).ready ++
          [{ cid := cmd.cid, sqHead := head, status := u.entryStatus q cmd entry, result := 0, after := none }] ∧ SameDram u v)) ∧
      Completes (.sqFetch t entry true) s (fun v => ∃ cid, (v.qp q).ready = (u.qp q).ready ++
          [{ cid := cid, sqHead := head, status := 4, result := 0, after := none }] ∧ SameDram u v)) ∧
    (u.hostUp = true → u.cqRoom q = true → (u.qp q).ready = [c] → c.after = none → Completes (.completionPost t q) s (fun v =>
      .hostWrite (u.addr64 (Reg.HIF_CQ_BASE_LO q) (Reg.HIF_CQ_BASE_HI q) + 16 * tail)
        (leBytes 8 c.result ++ leBytes 2 c.sqHead ++ leBytes 1 q ++ leBytes 1 (b2n (u.qp q).deferred) ++ leBytes 2 c.cid ++
          leBytes 2 (c.status * 2 + phase)) ∈ v.outbox ∧
      (v.qp q).ready = [] ∧ (v.qp q).deferred = false ∧
      v.get (Reg.HIF_CQ_TAIL_TAIL q) = (if tail + 1 = u.qpDepth q then 0 else (tail + 1) % 4096) ∧ SameDram u v)) ∧
    (u.hostUp = true → (u.qp q).coalesced ≠ 0 → u.hif.feature1 = 0 → Completes (.coalesceTimer t q) s (fun v =>
      (v.qp q).coalesced = 0 ∧ (v.qp q).ready = (u.qp q).ready ∧ SameDram u v)) ∧
    (u.reaches .hif = true → Completes (.msixUnmask t (some n) masked) s (fun v =>
      v.flag (Reg.HIF_MSIX_VCTL_MASK n) = masked ∧ v.hif.fnMask = u.hif.fnMask ∧ SameDram u v)) ∧
    (u.reaches .hif = true → Completes (.msixUnmask t none masked) s (fun v => v.hif.fnMask = masked ∧ SameDram u v))

/-- R388 to R391: the clip store commands of a fetched and running command: WRITE into the write buffer, READ of clean blocks, TRIM of a
range, and the descriptors of PIN, UNPIN and the take form of TRIM, as a reel controller answers them. -/
def Obligations.StoreCommands : Prop :=
  ∀ (s : State) (t : Nat) (q : Fin 64) (cid : Nat) (c : HostCmd) (pages : List Nat) (data : List Byte) (d : ReelDesc) (rest : List ReelDesc)
    (poison : Nat) (x : HostCmd),
    let u := s.tick t
    let done := fun (v : State) (status result : Nat) => (v.qp q).ready = (u.qp q).ready ++
      [{ cid := cid, sqHead := c.sqHead, status := status, result := result, after := none }]
    let e : WbufEntry := { q := q, cid := cid, slba := c.slba, nblk := c.nblk, data := bytesAt data 0 (4096 * c.nblk), order := u.hif.order }
    let a := u.blockAddr c.slba
    let reel := u.reel d.reel
    let answered := fun (v : State) (status result : Nat) => v.hif.descs = rest ∧ (v.qp d.q).ready = (u.qp d.q).ready ++
      [{ cid := d.cid, sqHead := x.sqHead, status := status, result := result, after := none }]
    (u.running q cid 1 = some c → c.further pages ≠ none →
      (u.get Reg.HIF_WBUF_USED + 4096 * c.nblk ≤ u.get Reg.HIF_WBUF_BYTES → Completes (.hostWrite t q cid pages data false) s (fun v =>
        v.hif.wbuf = u.hif.wbuf ++ [e] ∧ done v 0 0 ∧ SameDram u v)) ∧
      (u.get Reg.HIF_WBUF_BYTES < u.get Reg.HIF_WBUF_USED + 4096 * c.nblk → exec (.hostWrite t q cid pages data false) s = .next u) ∧
      Completes (.hostWrite t q cid pages data true) s (fun v => v.hif.wbuf = u.hif.wbuf ∧ done v 4 0 ∧ SameDram u v)) ∧
    (u.running q cid 2 = some c → c.further pages ≠ none → u.hif.wbuf = [] → u.mss.poisoned = [] →
      Completes (.hostRead t q cid pages [] false) s (fun v => done v 0 0 ∧ v.regs = u.regs ∧ SameDram u v ∧
        (c.nblk = 1 → c.dptr1 % 4096 = 0 → v.outbox = .hostWrite c.dptr1 (u.read a 4096) :: u.outbox))) ∧
    (u.running q cid 4 = some c → c.takeForm = false → Completes (.trim t q cid) s (fun v => done v 0 0 ∧
      v.read a (4096 * c.nblk) = zeros (4096 * c.nblk) ∧ ∀ p, p < a ∨ a + 4096 * c.nblk ≤ p → v.readByte p = u.readByte p)) ∧
    (∀ p : ReelDesc, p = { q := q, cid := c.cid, op := c.op, reel := c.arg0 % 8, take := c.arg1 % 65536 } → p ∉ u.hif.descs →
      let passed := fun (v : State) => v = { u with hif := { u.hif with descs := u.hif.descs ++ [p] } }
      (u.running q cid 4 = some c → c.takeForm = true → Completes (.trim t q cid) s passed) ∧
      (u.running q cid 5 = some c → Completes (.pin t q cid) s passed) ∧
      (u.running q cid 6 = some c → Completes (.unpin t q cid) s passed)) ∧
    (u.hif.descs = d :: rest → u.hostCmd d.q d.cid = some x →
      (poison % 256 ≠ 0 → Completes (.reelDescriptor t poison) s (fun v => answered v 0x0D 0 ∧ v.clip = u.clip ∧ SameDram u v)) ∧
      (poison % 256 = 0 → d.op = 4 →
        (reel.takeSlot d.take = none → Completes (.reelDescriptor t poison) s (fun v => answered v 0x0A 0 ∧ v.clip = u.clip ∧ SameDram u v)) ∧
        (reel.takeSlot d.take ≠ none → reel.erasable d.take = false →
          Completes (.reelDescriptor t poison) s (fun v => answered v 0x0B 0 ∧ v.clip = u.clip ∧ SameDram u v)) ∧
        (reel.takeSlot d.take ≠ none → reel.erasable d.take = true → Completes (.reelDescriptor t poison) s (fun v => answered v 0 0))) ∧
      (poison % 256 = 0 → d.op = 5 → (u.pinTake d.reel d.take true).1.1 = true → Completes (.reelDescriptor t poison) s (fun v => answered v 0 0)) ∧
      (poison % 256 = 0 → d.op = 6 → (u.pinTake d.reel d.take false).1.1 = true → Completes (.reelDescriptor t poison) s (fun v =>
        answered v 0 (b2n (u.pinTake d.reel d.take false).1.2))))

/-- R393: FLUSH completes when every WRITE that completed on any queue before the FLUSH was fetched has been copied to the store, and a
failure of any such copy makes it complete with WRITE_FAULT. The order of completed WRITEs and fetches is that of `HifSt.order`; a copy
that fails is among `HifSt.failed`. -/
def Obligations.FlushWaitsForCopies : Prop :=
  ∀ (s : State) (t : Nat) (q : Fin 64) (cid : Nat) (c : HostCmd) (e : WbufEntry) (rest : List WbufEntry) (bad : List Nat),
    let u := s.tick t
    let done := fun (v : State) (status : Nat) => (v.qp q).ready = (u.qp q).ready ++
      [{ cid := cid, sqHead := c.sqHead, status := status, result := 0, after := none }]
    (u.running q cid 3 = some c →
      ((∃ x ∈ u.hif.wbuf, x.order < c.order) → exec (.flush t q cid) s = .next u) ∧
      ((∀ x ∈ u.hif.wbuf, c.order ≤ x.order) → (∀ o ∈ u.hif.failed, c.order ≤ o) →
        Completes (.flush t q cid) s (fun v => done v 0 ∧ SameDram u v)) ∧
      ((∀ x ∈ u.hif.wbuf, c.order ≤ x.order) → (∃ o ∈ u.hif.failed, o < c.order) →
        Completes (.flush t q cid) s (fun v => done v 0x0C ∧ SameDram u v))) ∧
    (u.hif.wbuf = e :: rest →
      Completes (.wbufCopyDone t []) s (fun v => v.hif.wbuf = rest ∧ v.hif.failed = u.hif.failed ∧
        v.read (u.blockAddr e.slba) e.data.length = e.data ∧
        ∀ p, p < u.blockAddr e.slba ∨ u.blockAddr e.slba + e.data.length ≤ p → v.readByte p = u.readByte p) ∧
      ((∃ b ∈ bad, b < 64 * e.nblk) → Completes (.wbufCopyDone t bad) s (fun v => v.hif.wbuf = rest ∧ v.hif.failed = e.order :: u.hif.failed ∧
        bitAt (v.get (Reg.UNIT_INT_STATUS 10)) 3 = true)))

/-- R396, R398, R400, R418, R431, R448: the admin commands of a fetched and running command. Bytes of a log page beyond its end are free
(log entry 75). -/
def Obligations.AdminCommands : Prop :=
  ∀ (s : State) (t cid : Nat) (c x : HostCmd) (pages : List Nat) (nonce b : List Byte) (q : Fin 64),
    let u := s.tick t
    let k := c.arg1 % 65536
    let target := c.arg0 % 8
    let st := u.get Reg.HTP_PWR_STATUS_STATE
    let done := fun (v : State) (status result : Nat) => (v.qp 0).ready = (u.qp 0).ready ++
      [{ cid := cid, sqHead := c.sqHead, status := status, result := result, after := none }]
    (u.running 0 cid 0x81 = some c → c.further pages ≠ none →
      Completes (.identify t cid pages false) s (fun v => done v 0 0 ∧ SameDram u v ∧
        (c.dptr1 % 4096 = 0 → v.outbox = .hostWrite c.dptr1 u.identify :: u.outbox)) ∧
      Completes (.identify t cid pages true) s (fun v => done v 4 0 ∧ v.outbox = u.outbox ∧ SameDram u v)) ∧
    (u.running 0 cid 0x82 = some c → c.further pages ≠ none → u.logPage (c.arg0 % 256) nonce = some b →
      Completes (.getLog t cid pages nonce false) s (fun v => done v 0 0 ∧ SameDram u v ∧
        (c.nblk = 1 → c.dptr1 % 4096 = 0 → c.slba + 4096 ≤ b.length →
          v.outbox = .hostWrite c.dptr1 (bytesAt b c.slba 4096) :: u.outbox))) ∧
    (u.running 0 cid 0x83 = some c → Completes (.getFeature t cid) s (fun v =>
      done v (if c.arg0 % 256 = 1 ∨ c.arg0 % 256 = 2 ∨ c.arg0 % 256 = 3 then 0 else 2)
        (if c.arg0 % 256 = 1 then u.hif.feature1 else if c.arg0 % 256 = 2 then u.hif.feature2 else if c.arg0 % 256 = 3 then st else 0) ∧
      v.regs = u.regs ∧ SameDram u v)) ∧
    (u.running 0 cid 0x84 = some c → Completes (.setFeature t cid) s (fun v =>
      done v (if c.arg0 % 256 = 1 ∨ c.arg0 % 256 = 2 then 0 else 2) 0 ∧
      v.hif.feature1 = (if c.arg0 % 256 = 1 then c.arg1 % 65536 else u.hif.feature1) ∧
      v.hif.feature2 = (if c.arg0 % 256 = 2 then c.arg1 else u.hif.feature2) ∧ v.regs = u.regs ∧ SameDram u v)) ∧
    (u.running 0 cid 0x85 = some c → u.checks = [] → u.htp.hostCmd ≠ some cid →
      let may := u.flag Reg.HTP_PWR_STATUS_BUSY = false ∧ powerListed st target = true ∧
        (st = 0 → ∀ y ∈ UnitId.all, y.pixel = true → u.enabled y = false)
      (may → Completes (.setPower t cid) s (fun v => v.flag Reg.HTP_PWR_STATUS_BUSY = true ∧ v.get Reg.HTP_PWR_STATUS_TARGET = target ∧
        v.get Reg.HTP_PWR_STATUS_STATE = st ∧ v.htp.hostCmd = some cid ∧ (v.qp 0).ready = (u.qp 0).ready ∧ SameDram u v)) ∧
      (¬ may → Completes (.setPower t cid) s (fun v => done v 0x10 0 ∧ v.regs = u.regs ∧ SameDram u v))) ∧
    (u.running 0 cid 0x86 = some c → c.arg0 % 64 = q.val → q.val ≠ 0 →
      (u.hostCmd q k = some x → x.op ≠ 0x85 → Completes (.abort t cid) s (fun v =>
        (v.qp q).ready = (u.qp q).ready ++ [{ cid := k, sqHead := x.sqHead, status := 5, result := 0, after := none }] ∧
        (v.qp 0).ready = (u.qp 0).ready ++ [{ cid := cid, sqHead := c.sqHead, status := 0, result := 0, after := some (q, k) }] ∧
        v.get Reg.HIF_CNT_ABORTED = sat32 (u.get Reg.HIF_CNT_ABORTED + 1) ∧ SameDram u v)) ∧
      (u.hostCmd q k = none → Completes (.abort t cid) s (fun v =>
        (v.qp 0).ready = (u.qp 0).ready ++ [{ cid := cid, sqHead := c.sqHead, status := 6, result := 0, after := some (q, k) }] ∧
        v.regs = u.regs ∧ SameDram u v))) ∧
    (u.running 0 cid 0x87 = some c → c.further pages = some pages → u.snap.writing = none → u.snap.waiting = [] →
      Completes (.snapshot t cid pages false) s (fun v =>
        (v.snap.writing.map (·.1)) = some (.host 0 cid c.dptr1 pages) ∧ v.regs = u.regs ∧ SameDram u v))

/-- R374, R404, R458: a PCIe reset disables every queue pair and raises the interrupt; PERST_N takes the link down; the link's state is
shown. -/
def Obligations.HostLink : Prop :=
  ∀ (s : State) (t : Nat) (st : Fin 6) (rate width : Fin 16) (flit : Bool),
    let u := s.tick t
    let off := fun (v : State) => ∀ q : Fin 64, v.qp q = QpSt.reset ∧ v.qpState q = 0 ∧ v.flag (Reg.HIF_QP_CFG_EN q) = false
    u.clocked = true →
    Completes (.pcieReset t) s (fun v => off v ∧ v.hif.fnMask = false ∧ v.hif.aev = [] ∧
      bitAt (v.get (Reg.UNIT_INT_STATUS 10)) 1 = true ∧
      (∀ n : Fin 256, u.locks[n].st = .held → u.locks[n].owner = 0x0A00 → v.locks[n].st = .broken) ∧ SameDram u v) ∧
    Completes (.perstAssert t) s (fun v => v.get Reg.HIF_LINK_STATUS_STATE = 0 ∧ off v ∧ SameDram u v) ∧
    (st.val = 0 ∨ u.linkAllowed = true → Completes (.linkChange t st rate width flit) s (fun v =>
      v.get Reg.HIF_LINK_STATUS_STATE = st ∧ v.get Reg.HIF_LINK_STATUS_RATE = rate ∧ v.get Reg.HIF_LINK_STATUS_WIDTH = width ∧
      (st.val < 2 → 2 ≤ u.get Reg.HIF_LINK_STATUS_STATE → off v) ∧ SameDram u v)) ∧
    (st.val ≠ 0 → u.linkAllowed = false → exec (.linkChange t st rate width flit) s = .next u)

/-! ### Boot, retention, flash and fuses -/

/-- R405 to R411, R419, R457, R460 to R462: the release of SYS_RST_N, the load after training, SYS_RST_N asserted, REBOOT, the end of a
retention, and KPR_HOLD, the core rails and the Keeper's own power-on. -/
def Obligations.BootAndRetention : Prop :=
  ∀ (s : State) (t : Nat),
    let u := s.tick t
    (u.boot.stage = .held → Completes (.resetRelease t) s (fun v =>
      v.media = 0 ∧ v.boot.released = u.now ∧ v.boot.rails = true ∧
      ((v.boot.stage = .training ∧ v.boot.busOpen = u.boot.busOpen ∧ ∀ c : Fin 16, c.val < u.variant.channels → v.get (Reg.MSS_CH_STATUS_TRAIN c) = 1) ∨
       (v.boot.stage = .recovery ∧ v.boot.busOpen = true ∧ v.get Reg.SCC_BOOT_STATUS_STATE = 2)) ∧
      (if u.recordGood = true ∧ u.boot.kprHold = true then SameDram u v else v.mem = []))) ∧
    (u.trained = true →
      match u.loadSlot with
      | (none, _) => Completes (.bootLoad t) s (fun v =>
        v.boot.stage = .recovery ∧ v.get Reg.SCC_BOOT_STATUS_STATE = 2 ∧ v.boot.busOpen = true)
      | (some k, w) => ∀ h, imgHeader (w.slotImage k) (slotLimit k) = some h →
        match w.failedChannel, (dramSections (imgSections (w.slotImage k) h.sections)).find? (fun c => decide (w.dramBytes < c.dest + c.bytes)) with
        | some _, _ => Completes (.bootLoad t) s (fun v =>
          v.boot.stage = .running ∧ v.boot.busOpen = true ∧ v.get Reg.SCC_BOOT_STATUS_STATE = 1 ∧ v.get Reg.SCC_BOOT_STATUS_RESULT = 0x0C)
        | none, none => Completes (.bootLoad t) s (fun v => v.boot.stage = .running ∧ v.boot.busOpen = true ∧ v.get Reg.SCC_BOOT_STATUS_STATE = 1)
        | none, some c => exec (.bootLoad t) s = .fault (.dramAddressAbsent c.dest)) ∧
    Completes (.sysRstAssert t) s (fun v =>
      v.boot.stage = .held ∧ v.boot.busOpen = false ∧ v.boot.kprSafe = u.boot.kprSafe ∧ v.plan = Plan.empty ∧ v.fuses = u.fuses ∧
      v.flash = u.flash ∧ (∀ ofs, keeperReg ofs = false → v.reg ofs = Regs.resetOf ofs) ∧ SameDram u v) ∧
    (u.reaches .scc = true → Completes (.reboot t) s (fun v => v.boot.retaining = some 3 ∧ v.boot.stage = u.boot.stage ∧ SameDram u v)) ∧
    (u.boot.retaining = some 4 → Completes (.retentionDone t) s (fun v =>
      v.boot.retaining = none ∧ v.boot.kprSafe = true ∧ v.get (Reg.HTP_KPR_RET 0) = 0x5045454B ∧ v.get (Reg.HTP_KPR_RET 1) = 0x401 ∧
      v.get (Reg.HTP_KPR_RET 2) = u.clip.generation % 2 ^ 32 ∧
      (∀ c : Fin 16, c.val < u.variant.channels → v.flag (Reg.MSS_CH_STATUS_SELF_REFRESH c) = true) ∧ SameDram u v)) ∧
    (u.boot.retaining = some 3 → Completes (.retentionDone t) s (fun v => v.boot.stage = .training ∨ v.boot.stage = .recovery)) ∧
    Completes (.kprHoldRise t) s (fun v => v.boot.kprHold = true ∧ v.regs = u.regs ∧ SameDram u v ∧
      (u.boot.stage = .training → v.boot.holdPending = true) ∧
      (u.boot.stage = .running → u.boot.retaining = none → u.storeOpen = true → u.flag Reg.HTP_SHUTDOWN_STATUS_SHUTDOWN = false →
        v.boot.retaining = some 4)) ∧
    (u.boot.rails = true → exec (.kprHoldFall t) s = .next { u with boot := { u.boot with kprHold := false, holdPending := false } }) ∧
    (u.boot.rails = false → Completes (.kprHoldFall t) s (fun v =>
      v.mem = [] ∧ bitAt (v.get (Reg.HTP_KPR_RET 1)) 0 = false ∧ v.boot.kprSafe = false ∧ v.boot.kprHold = false)) ∧
    Completes (.coreRailLoss t) s (fun v => v.boot.rails = false ∧ v.boot.stage = .held ∧
      (u.boot.kprHold = true → u.boot.kprSafe = true → SameDram u v ∧ v.boot.kprSafe = true) ∧
      (u.boot.kprHold = false → v.mem = [] ∧ bitAt (v.get (Reg.HTP_KPR_RET 1)) 0 = false ∧ v.boot.kprSafe = false)) ∧
    Completes (.keeperPowerOn t) s (fun v => v.boot.rails = false ∧ v.boot.stage = .held ∧ v.boot.kprSafe = false ∧ v.mem = [])

/-- R414 to R416: flash and fuse commands. What a failed flash command leaves in its range, and which bits a failed fuse command blew, is
free (log entry 53); a fuse command while another runs has no effect (log entry 54). -/
def Obligations.FlashAndFuses : Prop :=
  ∀ (s : State) (t : Nat) (slot : Fin 4) (a : Nat) (d : List Byte) (op : FuseOp),
    let u := s.tick t
    let p := u.get Reg.SCC_FLASH_ADDR
    let cold := u.writeTemp = false
    let clear := fun (n : Nat) => (u.boot.stage ≠ .recovery → p + n ≤ slotBase u.boot.slot ∨ slotBase u.boot.slot + slotLimit u.boot.slot ≤ p) ∧
      p + n ≤ flashSize - 0x10000 ∧ p % n = 0 ∧ p < flashSize
    let starts := fun (c : Instr) (l : List Nat) => Completes c s (fun v => v.boot.fuseOp = some { bits := l } ∧
      v.flag Reg.SCC_FUSE_STATUS_BUSY = true ∧ v.fuses = u.fuses ∧ SameDram u v)
    let refused := fun (c : Instr) (code : Nat) => Completes c s (fun v => v.boot.fuseOp = u.boot.fuseOp ∧
      v.get (Reg.UNIT_REFUSE_REASON 11) = code ∧ v.fuses = u.fuses ∧ SameDram u v)
    (u.reaches .scc = true → u.flag Reg.SCC_FLASH_STATUS_BUSY = false →
      (cold → clear 0x10000 → Completes (.erase t) s (fun v => v.boot.flashOp = some (.erase p) ∧ v.flag Reg.SCC_FLASH_STATUS_BUSY = true ∧
        v.flash = u.flash ∧ SameDram u v)) ∧
      (cold → clear 256 → Completes (.program t) s (fun v => v.flag Reg.SCC_FLASH_STATUS_BUSY = true ∧ v.flash = u.flash ∧ SameDram u v ∧
        v.boot.flashOp = some (.program p ((List.range 64).flatMap (fun i => leBytes 4 (u.get (Reg.SCC_FLASH_BUF i))))))) ∧
      (u.writeTemp = true → Completes (.erase t) s (fun v => v.get (Reg.UNIT_REFUSE_REASON 11) = 0x0B01 ∧ v.boot = u.boot ∧ v.flash = u.flash) ∧
        Completes (.program t) s (fun v => v.get (Reg.UNIT_REFUSE_REASON 11) = 0x0B01 ∧ v.boot = u.boot ∧ v.flash = u.flash))) ∧
    (u.boot.flashOp = some (.erase a) → Completes (.flashOpDone t true) s (fun v => v.boot.flashOp = none ∧
      v.flag Reg.SCC_FLASH_STATUS_BUSY = false ∧ v.flag Reg.SCC_FLASH_STATUS_ERROR = false ∧
      (∀ i, v.flashByte i = if a ≤ i ∧ i < a + 0x10000 then 0xFF#8 else u.flashByte i) ∧ SameDram u v)) ∧
    (u.boot.flashOp = some (.program a d) → Completes (.flashOpDone t true) s (fun v => v.boot.flashOp = none ∧
      (∀ i, v.flashByte i = if a ≤ i ∧ i < a + d.length then d.getD (i - a) 0 &&& u.flashByte i else u.flashByte i) ∧ SameDram u v)) ∧
    (u.boot.flashOp = some (.erase a) → Completes (.flashOpDone t false) s (fun v => v.flag Reg.SCC_FLASH_STATUS_ERROR = true ∧
      ∀ i, i < a ∨ a + 0x10000 ≤ i → v.flashByte i = u.flashByte i)) ∧
    (u.reaches .scc = true → u.boot.fuseOp = none → cold →
      (if u.boot.rollback ≤ u.rollbackF then Completes (.advance t) s (fun v => v.boot = u.boot ∧ v.fuses = u.fuses ∧ SameDram u v)
        else Completes (.advance t) s (fun v => v.flag Reg.SCC_FUSE_STATUS_BUSY = true ∧ v.fuses = u.fuses ∧
          ∃ l, v.boot.fuseOp = some { bits := l } ∧ ∀ n ∈ l, 2048 ≤ n ∧ n < 2112 ∧ u.fuse n = false)) ∧
      (if u.lifecycle = 7 ∨ u.keyFused slot = true then refused (.keyHash t slot) 0x0B04
        else Completes (.keyHash t slot) s (fun v => ∃ l, v.boot.fuseOp = some { bits := l } ∧ v.fuses = u.fuses ∧
          ∀ i : Fin 512, bitAt (u.get (Reg.SCC_FUSE_DATA (i / 32))) (i % 32) = true → 512 * slot.val + i.val ∈ l)) ∧
      (if u.lifecycle = 7 ∨ u.keyLeft [2112 + slot] = false then refused (.revoke t slot) 0x0B04
        else starts (.revoke t slot) [2112 + slot]) ∧
      (if u.lifecycle = 7 ∨ u.keyLeft [2116] = false then refused (.vendorDisable t) 0x0B04 else starts (.vendorDisable t) [2116]) ∧
      (if u.lifecycle = 7 then refused (.dbgClose t) 0x0B04 else starts (.dbgClose t) [2448]) ∧
      (if u.lifecycle = 7 then refused (.lifecycleRetired t) 0x0B04 else starts (.lifecycleRetired t) [2120, 2121, 2122])) ∧
    (u.boot.fuseOp = some op →
      Completes (.fuseDone t true) s (fun v => v.boot.fuseOp = none ∧ (∀ n, v.fuse n = (u.fuse n || op.bits.contains n)) ∧
        v.flag Reg.SCC_FUSE_STATUS_DONE = true ∧ v.flag Reg.SCC_FUSE_STATUS_FAIL = false ∧ v.get Reg.SCC_FUSE_STATE_LIFECYCLE = v.lifecycle ∧
        SameDram u v) ∧
      Completes (.fuseDone t false) s (fun v => v.flag Reg.SCC_FUSE_STATUS_FAIL = true ∧
        ∀ n, (u.fuse n = true → v.fuse n = true) ∧ (v.fuse n = true → u.fuse n = true ∨ n ∈ op.bits)))

/-! ### Temperature, power, gauges -/

/-- R421 to R429, R436 to R438: a sample of the diodes where no zone differs from its neighbours; the second sample in a row at or above
CRITICAL latches SHUTDOWN; the end of the shutdown window; READMIT; life, ageing and supply monitors. -/
def Obligations.ZonesAndMonitors : Prop :=
  ∀ (s : State) (t : Nat) (raw : List Int) (mask : Fin 512) (z : Fin 9) (change : Int) (i : Fin 11) (mv : Fin 65536),
    let u := s.tick t
    let n := u.htp.lifeFrac + lifeStep (maxI u.temps)
    let nom := railNominal.getD i 0
    let dev := max mv.val nom - min mv.val nom
    (u.live .htp = true → u.plan.bookings = [] → (∀ x ∈ raw, -32768 ≤ x ∧ x < 32768) → raw.length = 9 →
      (∀ y : Fin 9, (u.zone y).broken = false ∧ u.zoneDev raw y = 0) →
      Completes (.htpSample t raw) s (fun v => SameDram u v ∧ (∀ y : Fin 9, (v.zone y).temp = raw.getD y 0 ∧ (v.zone y).broken = false) ∧
        (1 ≤ u.htp.critical → (∀ x ∈ raw, u.threshold Reg.HTP_THR_CRIT_CRITICAL ≤ x) → v.flag Reg.HTP_SHUTDOWN_STATUS_SHUTDOWN = true) ∧
        ((∀ x ∈ raw, x < u.threshold Reg.HTP_THR_CRIT_CRITICAL) →
          v.htp.critical = 0 ∧ v.flag Reg.HTP_SHUTDOWN_STATUS_SHUTDOWN = u.flag Reg.HTP_SHUTDOWN_STATUS_SHUTDOWN))) ∧
    (u.flag Reg.HTP_SHUTDOWN_STATUS_SHUTDOWN = true → u.boot.stage ≠ .stopped →
      Completes (.shutdownWindowEnd t true) s (fun v => v.boot.stage = .stopped ∧ v.boot.kprSafe = true ∧ v.outbox.head? = some .thermTrip ∧
        v.get Reg.HIF_LINK_STATUS_STATE = 0 ∧ SameDram u v) ∧
      (u.htp.windowEnd ≤ u.now → Completes (.shutdownWindowEnd t false) s (fun v =>
        v.boot.stage = .stopped ∧ v.boot.kprSafe = u.boot.kprSafe ∧ v.outbox.head? = some .thermTrip ∧ SameDram u v))) ∧
    (u.reaches .htp = true → Completes (.readmit t mask) s (fun v => SameDram u v ∧ ∀ y : Fin 9,
      (bitAt mask y = true → (v.zone y).broken = false ∧ (v.zone y).dev = 0 ∧ v.flag (Reg.HTP_ZONE_BROKEN y) = false) ∧
      (bitAt mask y = false → v.zone y = u.zone y))) ∧
    (u.live .htp = true →
      Completes (.lifeTick t) s (fun v => v.htp.lifeFrac = n % 80000 ∧
        v.get Reg.HTP_LIFE_USED_LO + 2 ^ 32 * v.get Reg.HTP_LIFE_USED_HI =
          (u.get Reg.HTP_LIFE_USED_LO + 2 ^ 32 * u.get Reg.HTP_LIFE_USED_HI + n / 80000) % 2 ^ 64 ∧ SameDram u v) ∧
      (-32768 ≤ change → change < 32768 → Completes (.ageMonitorUpdate t z change) s (fun v =>
        toSigned 16 (v.get (Reg.HTP_AGE_V z)) = change ∧
        (change ≤ -300 → u.htp.ageWarned = false → bitAt (v.get (Reg.UNIT_INT_STATUS 12)) 6 = true) ∧ SameDram u v)) ∧
      Completes (.vmonSample t i mv) s (fun v => v.get (Reg.HTP_VMON_MV i) = mv ∧
        v.flag (Reg.HTP_VMON_VWARN i) = decide (5 * nom < 100 * dev) ∧ v.flag (Reg.HTP_VMON_VFAULT i) = decide (8 * nom < 100 * dev) ∧
        (5 * nom < 100 * dev → (u.htp.rails[i]).1 = false → bitAt (v.get (Reg.UNIT_INT_STATUS 12)) 7 = true) ∧
        (8 * nom < 100 * dev → (u.htp.rails[i]).2 = false → bitAt (v.get (Reg.UNIT_INT_STATUS 12)) 8 = true) ∧ SameDram u v))

/-- R424, R431 to R434: power commands and the end of a transition; gauges: their configuration, SNAP and periodic samples. -/
def Obligations.PowerAndGauges : Prop :=
  ∀ (s : State) (t : Nat) (w : Word) (g : Fin 32) (which : Fin 3),
    let u := s.tick t
    let target := w.toNat % 8
    let st := u.get Reg.HTP_PWR_STATUS_STATE
    let may := u.flag Reg.HTP_PWR_STATUS_BUSY = false ∧ powerListed st target = true ∧ (st = 0 → ∀ y ∈ UnitId.all, y.pixel = true → u.enabled y = false)
    let goal := u.get Reg.HTP_PWR_STATUS_TARGET
    let x := u.htp.gauges[g]
    let f := if which.val = 0 then Reg.HTP_GAUGE_CFG g else if which.val = 1 then Reg.HTP_GAUGE_ORIGIN g else Reg.HTP_GAUGE_WIDTH g
    let val := if which.val = 0 then w &&& 0xF3FF8000#32 else w
    let cfg := u.setReg f.ofs val
    let legal := u.variant.gaugeSource (cfg.get (Reg.HTP_GAUGE_CFG_SRC_KIND g)) (cfg.get (Reg.HTP_GAUGE_CFG_INDEX g)) = true ∧
      (cfg.get (Reg.HTP_GAUGE_CFG_SRC_KIND g) = 0 ∨ cfg.flag (Reg.HTP_GAUGE_CFG_LOG2 g) = true ∨ cfg.get (Reg.HTP_GAUGE_WIDTH g) ≠ 0)
    (u.reaches .htp = true → u.checks = [] →
      (4 < target → Completes (.powerCommand t w) s (fun v => v.get (Reg.UNIT_REFUSE_REASON 12) = 0x0C04 ∧
        v.get Reg.HTP_PWR_STATUS_STATE = st ∧ v.flag Reg.HTP_PWR_STATUS_BUSY = u.flag Reg.HTP_PWR_STATUS_BUSY ∧ SameDram u v)) ∧
      (target ≤ 4 → bitAt w.toNat 31 = true → may → Completes (.powerCommand t w) s (fun v => v.flag Reg.HTP_PWR_STATUS_BUSY = true ∧
        v.get Reg.HTP_PWR_STATUS_TARGET = target ∧ v.get Reg.HTP_PWR_STATUS_STATE = st ∧ SameDram u v)) ∧
      (target ≤ 4 → bitAt w.toNat 31 = true → ¬ may → Completes (.powerCommand t w) s (fun v =>
        v.get (Reg.UNIT_REFUSE_REASON 12) = 0x0C04 ∧ v.get Reg.HTP_PWR_STATUS_STATE = st ∧
        v.flag Reg.HTP_PWR_STATUS_BUSY = u.flag Reg.HTP_PWR_STATUS_BUSY ∧ SameDram u v))) ∧
    (u.live .htp = true → u.flag Reg.HTP_PWR_STATUS_BUSY = true → u.flag Reg.HTP_SHUTDOWN_STATUS_SHUTDOWN = false → u.powerWaits goal = false →
      Completes (.powerTransitionDone t) s (fun v => v.get Reg.HTP_PWR_STATUS_STATE = goal ∧ v.flag Reg.HTP_PWR_STATUS_BUSY = false ∧
        v.htp.hostCmd = none ∧ (goal ≠ 4 → SameDram u v) ∧
        (goal = 0 → v.hif.heldFrom = none) ∧
        (goal = 2 → ∀ c : Fin 16, c.val < u.variant.channels → v.flag (Reg.MSS_CH_STATUS_SELF_REFRESH c) = true) ∧
        (goal = 3 → v.boot.stage = .stopped ∧ v.boot.kprSafe = true) ∧ (goal = 4 → v.boot.stage = .stopped ∧ v.mem = [] ∧ v.boot.kprSafe = false))) ∧
    (u.reaches .htp = true →
      Completes (.gaugeSnap t) s (fun v => SameDram u v ∧
        (bitAt (u.get Reg.HTP_GAUGE_MASK) g = true → v.htp.gauges[g] = GaugeSt.empty ∧
          v.get (Reg.HTP_GAUGE_MIN g) = ofSigned 32 x.min ∧ v.get (Reg.HTP_GAUGE_MAX g) = ofSigned 32 x.max ∧
          v.get (Reg.HTP_GAUGE_SUM_LO g) = ofSigned 64 x.sum % 2 ^ 32 ∧ v.get (Reg.HTP_GAUGE_COUNT_LO g) = x.count % 2 ^ 32 ∧
          ∀ b : Fin 64, v.get (Reg.HTP_GAUGE_BIN g b) = SMap.getD x.bins 0 b % 2 ^ 32) ∧
        (bitAt (u.get Reg.HTP_GAUGE_MASK) g = false → v.htp.gauges[g] = x ∧ v.get (Reg.HTP_GAUGE_MIN g) = u.get (Reg.HTP_GAUGE_MIN g))) ∧
      (legal → u.reg f.ofs ≠ val → Completes (.gaugeCfgWrite t g which w) s (fun v =>
        v.reg f.ofs = val ∧ v.htp.gauges[g] = GaugeSt.empty ∧ (∀ k : Fin 32, k ≠ g → v.htp.gauges[k] = u.htp.gauges[k]) ∧ SameDram u v)) ∧
      (legal → u.reg f.ofs = val → exec (.gaugeCfgWrite t g which w) s = .next u) ∧
      (¬ legal → Completes (.gaugeCfgWrite t g which w) s (fun v =>
        v.get (Reg.UNIT_REFUSE_REASON 12) = 0x0C03 ∧ v.reg f.ofs = u.reg f.ofs ∧ v.htp.gauges = u.htp.gauges ∧ SameDram u v))) ∧
    (u.live .htp = true → u.get (Reg.HTP_GAUGE_CFG_SRC_KIND g) = 3 → Completes (.gaugePeriodicSample t g) s (fun v =>
      v.htp.gauges[g] = x.add (gaugeBin (u.flag (Reg.HTP_GAUGE_CFG_LOG2 g)) (toSigned 32 (u.get (Reg.HTP_GAUGE_ORIGIN g)))
        (u.get (Reg.HTP_GAUGE_WIDTH g)) (cellsOf (u.queue (u.get (Reg.HTP_GAUGE_CFG_INDEX g))).items))
        (cellsOf (u.queue (u.get (Reg.HTP_GAUGE_CFG_INDEX g))).items) ∧ v.regs = u.regs ∧ SameDram u v))

/-! ### Frames -/

/-- The frame of the commands of sensor links, the raw front end and its calibration engine: the next state differs from the state at
the command's cycle in the fields named alone, and its registers only in the words named (instances of a register named without one, and
`notices`: what an interrupt, an event message or a refusal of those units may change). Where no word is named, a Change Set that is
applied or a reset may change registers of many units. -/
def Obligations.SensorAndCorrectionFrame : Prop :=
  ∀ (c : Instr) (s v : State), exec c s = .next v →
  match c with
  | .marker t lane _ _ =>
    let u := s.tick t
    v = { u with
      regs := v.regs, evt := v.evt, slr := v.slr, intAt := v.intAt, outbox := v.outbox, freeCtr := v.freeCtr } ∧
    KeepsRegs u v (notices [1] ++ [(Reg.SLR_CNT_LOCK_LOSS 0).ofs, (Reg.SLR_CNT_LOCK_LOSS 1).ofs, (Reg.SLR_CNT_MARKER lane).ofs,
      (Reg.SLR_CNT_STUFF lane).ofs]) [Reg.SLR_LANE_STATUS, Reg.SLR_LINK_STATUS]
  | .cdrLock t lane =>
    let u := s.tick t
    v = { u with regs := v.regs, slr := v.slr } ∧
    KeepsRegs u v [(Reg.SLR_LANE_STATUS lane).ofs] []
  | .cdrLockLost t lane =>
    let u := s.tick t
    v = { u with
      regs := v.regs, evt := v.evt, slr := v.slr, intAt := v.intAt, outbox := v.outbox, freeCtr := v.freeCtr } ∧
    KeepsRegs u v (notices [1] ++ [(Reg.SLR_CNT_LOCK_LOSS 0).ofs, (Reg.SLR_CNT_LOCK_LOSS 1).ofs, (Reg.SLR_LANE_STATUS lane).ofs,
      (Reg.SLR_LINK_STATUS 0).ofs, (Reg.SLR_LINK_STATUS 1).ofs]) []
  | .adaptDone t lane _ _ =>
    let u := s.tick t
    v = { u with regs := v.regs, htp := v.htp } ∧
    KeepsRegs u v [(Reg.SLR_LANE_EYE lane).ofs, (Reg.SLR_LANE_STATUS lane).ofs] []
  | .ctleTrack t lane _ _ _ _ =>
    let u := s.tick t
    v = { u with regs := v.regs, slr := v.slr, htp := v.htp } ∧
    KeepsRegs u v [(Reg.SLR_LANE_EYE lane).ofs] []
  | .fs t _ _ | .fe t _ _ | .ls t _ _ | .emb t _ _ | .stat t _ _ | .headerError t _ _ =>
    let u := s.tick t
    v.pending = u.pending ∧ v.variant = u.variant ∧ v.now = u.now ∧ v.media = u.media ∧ v.shadow = u.shadow ∧ v.views = u.views ∧
      v.checks = u.checks ∧ v.snap = u.snap ∧ v.locks = u.locks ∧ v.rpk = u.rpk ∧ v.boot = u.boot ∧ v.flash = u.flash ∧
      v.fuses = u.fuses
  | .statTempExpire t link =>
    let u := s.tick t
    v = { u with regs := v.regs } ∧
    KeepsRegs u v [(Reg.SLR_STAT_TEMP link).ofs] []
  | .lineDeadline t _ | .linkStop t _ _ | .patternFrameClose t _ =>
    let u := s.tick t
    v.pending = u.pending ∧ v.variant = u.variant ∧ v.now = u.now ∧ v.media = u.media ∧ v.shadow = u.shadow ∧ v.views = u.views ∧
      v.idle = u.idle ∧ v.checks = u.checks ∧ v.snap = u.snap ∧ v.pool = u.pool ∧ v.locks = u.locks ∧ v.clip = u.clip ∧
      v.rpk = u.rpk ∧ v.hif = u.hif ∧ v.htp = u.htp ∧ v.boot = u.boot ∧ v.flash = u.flash ∧ v.fuses = u.fuses ∧
      v.gpioPulse = u.gpioPulse
  | .prbsCheckLock t lane _ | .prbsCheckUnlock t lane _ =>
    let u := s.tick t
    v = { u with regs := v.regs, slr := v.slr } ∧
    KeepsRegs u v [(Reg.SLR_LANE_TEST lane).ofs, (Reg.SLR_PRBS_BITS_HI lane).ofs, (Reg.SLR_PRBS_BITS_LO lane).ofs, (Reg.SLR_PRBS_ERR
      lane).ofs] []
  | .prbsGo t lane =>
    let u := s.tick t
    v = { u with regs := v.regs, evt := v.evt, intAt := v.intAt, outbox := v.outbox, freeCtr := v.freeCtr } ∧
    KeepsRegs u v (notices [1, 12] ++ [(Reg.SLR_INJ_CNT lane).ofs, (Reg.SLR_LANE_TEST lane).ofs, (Reg.SLR_PRBS_ERR lane).ofs]) []
  | .prbsInjectPeriod t lane =>
    let u := s.tick t
    v = { u with regs := v.regs } ∧
    KeepsRegs u v [(Reg.SLR_INJ_CNT lane).ofs, (Reg.SLR_PRBS_ERR lane).ofs] []
  | .prbsClr t lane =>
    let u := s.tick t
    v = { u with regs := v.regs, evt := v.evt, intAt := v.intAt, outbox := v.outbox, freeCtr := v.freeCtr } ∧
    KeepsRegs u v (notices [1, 12] ++ [(Reg.SLR_INJ_CNT lane).ofs, (Reg.SLR_LANE_TEST lane).ofs, (Reg.SLR_PRBS_BITS_HI lane).ofs,
      (Reg.SLR_PRBS_BITS_LO lane).ofs, (Reg.SLR_PRBS_ERR lane).ofs]) []
  | .sctlPush t bus _ =>
    let u := s.tick t
    v = { u with
      regs := v.regs, evt := v.evt, slr := v.slr, intAt := v.intAt, outbox := v.outbox, freeCtr := v.freeCtr } ∧
    KeepsRegs u v (notices [1, 12] ++ [(Reg.SLR_SCTL_PUSH bus).ofs]) []
  | .sctlLaunch t _ | .trigLeadingEdge t _ | .trigTrailingEdge t _ =>
    let u := s.tick t
    v = { u with slr := v.slr, outbox := v.outbox }
  | .sctlEntryDone t bus _ _ | .sctlTimeout t bus =>
    let u := s.tick t
    v = { u with regs := v.regs, slr := v.slr, freeCtr := v.freeCtr } ∧
    KeepsRegs u v [(Reg.SLR_SCTL_RESULT bus).ofs] []
  | .linkRun t link _ | .linkRelock t link _ | .linkClr t link _ =>
    let u := s.tick t
    v = { u with
      regs := v.regs, evt := v.evt, slr := v.slr, intAt := v.intAt, outbox := v.outbox, freeCtr := v.freeCtr } ∧
    KeepsRegs u v (notices [1, 12] ++ [(Reg.SLR_LINK_CTL link).ofs, (Reg.SLR_LINK_STATUS link).ofs, (Reg.SLR_CNT_HCRC link).ofs,
      (Reg.SLR_CNT_PCRC link).ofs, (Reg.SLR_CNT_LINE_FILL link).ofs, (Reg.SLR_CNT_LINE_LATE link).ofs,
      (Reg.SLR_CNT_FRAME_INCOMPLETE link).ofs, (Reg.SLR_CNT_FS_LOST link).ofs, (Reg.SLR_CNT_FS_DISCARD link).ofs,
      (Reg.SLR_CNT_LOCK_LOSS link).ofs]) [Reg.SLR_CNT_MARKER, Reg.SLR_CNT_STUFF, Reg.SLR_LANE_STATUS]
  | .runoutTimeout t _ =>
    let u := s.tick t
    v = { u with
      regs := v.regs, cs := v.cs, plan := v.plan, planSeq := v.planSeq, paths := v.paths, units := v.units, mss := v.mss,
      slr := v.slr, rfe := v.rfe, cal := v.cal, cse := v.cse, pcd := v.pcd, apu := v.apu, rtu := v.rtu, ore := v.ore,
      intAt := v.intAt, gpioOut := v.gpioOut, mem := v.mem, outbox := v.outbox }
  | .patternFs t _ =>
    let u := s.tick t
    v = { u with
      regs := v.regs, idle := v.idle, cs := v.cs, paths := v.paths, evt := v.evt, pool := v.pool, mss := v.mss, clip := v.clip,
      slr := v.slr, rfe := v.rfe, cal := v.cal, apu := v.apu, hif := v.hif, htp := v.htp, intAt := v.intAt,
      gpioPulse := v.gpioPulse, gpioOut := v.gpioOut, mem := v.mem, outbox := v.outbox, freeCtr := v.freeCtr }
  | .rfeRowComplete t =>
    let u := s.tick t
    v = { u with
      regs := v.regs, paths := v.paths, mss := v.mss, clip := v.clip, rfe := v.rfe, htp := v.htp, intAt := v.intAt, mem := v.mem,
      outbox := v.outbox } ∧
    KeepsRegs u v (notices [2] ++ [Reg.RFE_CNT_CLIP.ofs, Reg.RFE_CNT_CONCEAL.ofs, Reg.RFE_CNT_DMT_APPLIED.ofs,
      Reg.RFE_CNT_DMT_READ_ERR.ofs, Reg.RFE_CNT_DMT_SKIPPED.ofs, Reg.RFE_CNT_DYN_COUNT.ofs, Reg.RFE_CNT_PARITY.ofs,
      Reg.RFE_CNT_POISON_TILES.ofs, Reg.RFE_FRAME_SEQ.ofs]) [Reg.MSS_REEL_FREE]
  | .rfeTableWrite t _ _ =>
    let u := s.tick t
    v = { u with
      regs := v.regs, evt := v.evt, rfe := v.rfe, intAt := v.intAt, outbox := v.outbox, freeCtr := v.freeCtr } ∧
    KeepsRegs u v (notices [2, 12]) []
  | .swapBlack t | .swapCol t | .swapGain t =>
    let u := s.tick t
    v = { u with
      regs := v.regs, evt := v.evt, cal := v.cal, intAt := v.intAt, outbox := v.outbox, freeCtr := v.freeCtr } ∧
    KeepsRegs u v (notices [2, 12] ++ [Reg.RFE_TBL_CTL.ofs, Reg.RFE_TBL_STATUS.ofs]) []
  | .tableCopyDone t =>
    let u := s.tick t
    v = { u with
      regs := v.regs, evt := v.evt, mss := v.mss, rfe := v.rfe, cal := v.cal, intAt := v.intAt, mem := v.mem, outbox := v.outbox,
      freeCtr := v.freeCtr } ∧
    KeepsRegs u v (notices [2] ++ [Reg.RFE_CAL_COUNT.ofs, Reg.RFE_CAL_LAST_NS.ofs, Reg.RFE_CAL_LAST_S_HI.ofs,
      Reg.RFE_CAL_LAST_S_LO.ofs, Reg.RFE_CAL_LAST_TEMP.ofs, Reg.RFE_CAL_STATE.ofs, Reg.RFE_TBL_STATUS.ofs]) []
  | .rfeTableParity t _ _ _ _ =>
    let u := s.tick t
    v = { u with
      regs := v.regs, evt := v.evt, rfe := v.rfe, intAt := v.intAt, outbox := v.outbox, freeCtr := v.freeCtr } ∧
    KeepsRegs u v (notices [2]) []
  | .calModeWrite t _ =>
    let u := s.tick t
    v = { u with
      regs := v.regs, evt := v.evt, cal := v.cal, intAt := v.intAt, outbox := v.outbox, freeCtr := v.freeCtr } ∧
    KeepsRegs u v (notices [2, 12] ++ [Reg.RFE_CAL_ABANDONED.ofs, Reg.RFE_CAL_CFG.ofs, Reg.RFE_CAL_STATE.ofs, Reg.RFE_TBL_STATUS.ofs])
      []
  | .calRunWrite t =>
    let u := s.tick t
    v = { u with
      regs := v.regs, evt := v.evt, rfe := v.rfe, cal := v.cal, intAt := v.intAt, outbox := v.outbox, freeCtr := v.freeCtr } ∧
    KeepsRegs u v (notices [2] ++ [Reg.RFE_CAL_COUNT.ofs, Reg.RFE_CAL_LAST_NS.ofs, Reg.RFE_CAL_LAST_S_HI.ofs,
      Reg.RFE_CAL_LAST_S_LO.ofs, Reg.RFE_CAL_LAST_TEMP.ofs, Reg.RFE_CAL_STATE.ofs, Reg.RFE_TBL_STATUS.ofs]) []
  | .calRun t | .stepDark t | .stepFlat t =>
    let u := s.tick t
    v = { u with
      regs := v.regs, evt := v.evt, cal := v.cal, intAt := v.intAt, outbox := v.outbox, freeCtr := v.freeCtr } ∧
    KeepsRegs u v (notices [2, 12] ++ [Reg.RFE_CAL_CTL.ofs]) []
  | .calStepComputeDone t =>
    let u := s.tick t
    v = { u with
      regs := v.regs, mss := v.mss, rfe := v.rfe, cal := v.cal, intAt := v.intAt, mem := v.mem, outbox := v.outbox } ∧
    KeepsRegs u v (notices [2] ++ [Reg.RFE_CAL_DEFECTS.ofs, Reg.RFE_CAL_FF_CLAMP.ofs, Reg.RFE_CAL_STATE.ofs]) []
  | .calAccept t =>
    let u := s.tick t
    v = { u with
      regs := v.regs, evt := v.evt, cal := v.cal, intAt := v.intAt, outbox := v.outbox, freeCtr := v.freeCtr } ∧
    KeepsRegs u v (notices [2, 12] ++ [Reg.RFE_CAL_COUNT.ofs, Reg.RFE_CAL_CTL.ofs, Reg.RFE_CAL_LAST_NS.ofs, Reg.RFE_CAL_LAST_S_HI.ofs,
      Reg.RFE_CAL_LAST_S_LO.ofs, Reg.RFE_CAL_LAST_TEMP.ofs, Reg.RFE_CAL_STATE.ofs, Reg.RFE_TBL_STATUS.ofs]) []
  | .calDiscard t =>
    let u := s.tick t
    v = { u with
      regs := v.regs, evt := v.evt, cal := v.cal, intAt := v.intAt, outbox := v.outbox, freeCtr := v.freeCtr } ∧
    KeepsRegs u v (notices [2, 12] ++ [Reg.RFE_CAL_CTL.ofs, Reg.RFE_CAL_STATE.ofs]) []
  | .calClr t =>
    let u := s.tick t
    v = { u with regs := v.regs, evt := v.evt, intAt := v.intAt, outbox := v.outbox, freeCtr := v.freeCtr } ∧
    KeepsRegs u v (notices [2, 12] ++ [Reg.RFE_CAL_ABANDONED.ofs, Reg.RFE_CAL_CTL.ofs, Reg.RFE_CAL_DEFECTS.ofs,
      Reg.RFE_CAL_FF_CLAMP.ofs]) []
  | _ => True

/-- The frame of the commands of the scene engine and its render paths, the codec and the packer: the next state differs from the state
at the command's cycle in the fields named alone, and its registers only in the words named (instances of a register named without one,
and `notices`: what an interrupt, an event message or a refusal of those units may change). Where no word is named, a Change Set that is
applied or a reset may change registers of many units. -/
def Obligations.SceneAndCodecFrame : Prop :=
  ∀ (c : Instr) (s v : State), exec c s = .next v →
  match c with
  | .sceneSof t =>
    let u := s.tick t
    v = { u with
      regs := v.regs, idle := v.idle, cs := v.cs, mss := v.mss, cse := v.cse, intAt := v.intAt, mem := v.mem, outbox := v.outbox }
  | .sceneRow t =>
    let u := s.tick t
    v = { u with
      regs := v.regs, mss := v.mss, cse := v.cse, htp := v.htp, intAt := v.intAt, mem := v.mem, outbox := v.outbox,
      freeCtr := v.freeCtr } ∧
    KeepsRegs u v (notices [3] ++ Reg.CSE_FRAME_SEQ.ofs :: cseCounters.map Fld.ofs) [Reg.RP_BUF_STATUS, Reg.RP_CNT_CLAMP, Reg.RP_CNT_RP_PARITY,
      Reg.RP_FRAME_CRC, Reg.RP_FRAME_SEQ, Reg.RP_STAT_MAX, Reg.RP_STAT_MEAN, Reg.RP_STAT_MIN]
  | .mfDescriptorReceive t =>
    let u := s.tick t
    v = { u with regs := v.regs, evt := v.evt, pool := v.pool, cse := v.cse, intAt := v.intAt, outbox := v.outbox } ∧
    KeepsRegs u v (notices [11] ++ [Reg.SCC_CNT_POISON.ofs, Reg.SCC_CP_FREE.ofs]) [Reg.SCC_CPQ_ITEMS,
      Reg.SCC_CPQ_LOST, Reg.SCC_CPQ_STATUS]
  | .histReset t =>
    let u := s.tick t
    v = { u with
      regs := v.regs, evt := v.evt, cse := v.cse, intAt := v.intAt, outbox := v.outbox, freeCtr := v.freeCtr } ∧
    KeepsRegs u v (notices [3, 12] ++ [Reg.CSE_TNR_CTL.ofs]) []
  | .cseClr t =>
    let u := s.tick t
    v = { u with regs := v.regs, evt := v.evt, intAt := v.intAt, outbox := v.outbox, freeCtr := v.freeCtr } ∧
    KeepsRegs u v (notices [3, 12] ++ [Reg.CSE_CNT_CONCEAL.ofs, Reg.CSE_CNT_HIST_LOST.ofs, Reg.CSE_CNT_LB_REFILL.ofs,
      Reg.CSE_CNT_MF_CLAMP.ofs, Reg.CSE_CNT_MF_DROP.ofs, Reg.CSE_CNT_MF_FALLBACK.ofs, Reg.CSE_CNT_PARITY.ofs,
      Reg.CSE_TNR_CTL.ofs]) []
  | .cseParity t _ =>
    let u := s.tick t
    v = { u with
      regs := v.regs, evt := v.evt, mss := v.mss, rfe := v.rfe, cse := v.cse, intAt := v.intAt, mem := v.mem, outbox := v.outbox,
      freeCtr := v.freeCtr } ∧
    KeepsRegs u v (notices [2, 3] ++ [Reg.RFE_CNT_CONCEAL.ofs]) []
  | .lutLoad t p =>
    let u := s.tick t
    v = { u with
      regs := v.regs, evt := v.evt, cse := v.cse, intAt := v.intAt, outbox := v.outbox, freeCtr := v.freeCtr } ∧
    KeepsRegs u v (notices [3, 12] ++ [(Reg.RP_LUT_CTL p).ofs, (Reg.RP_LUT_STATUS p).ofs]) []
  | .lutFetchDone t p =>
    let u := s.tick t
    v = { u with regs := v.regs, cse := v.cse, intAt := v.intAt, outbox := v.outbox } ∧
    KeepsRegs u v (notices [3] ++ [(Reg.RP_LUT_STATUS p).ofs]) []
  | .rpTableSwap t p =>
    let u := s.tick t
    v = { u with
      regs := v.regs, evt := v.evt, mss := v.mss, cse := v.cse, intAt := v.intAt, mem := v.mem, outbox := v.outbox,
      freeCtr := v.freeCtr } ∧
    KeepsRegs u v (notices [3, 12] ++ [(Reg.RP_TBL_CTL p).ofs, (Reg.RP_TBL_STATUS p).ofs]) []
  | .rpHeldLoadStart t p =>
    let u := s.tick t
    v = { u with regs := v.regs, cse := v.cse } ∧
    KeepsRegs u v [(Reg.RP_LUT_STATUS p).ofs, (Reg.RP_TBL_STATUS p).ofs] []
  | .rpParity t _ =>
    let u := s.tick t
    v = { u with regs := v.regs, evt := v.evt, cse := v.cse, intAt := v.intAt, outbox := v.outbox, freeCtr := v.freeCtr } ∧
    KeepsRegs u v (notices [3]) []
  | .pictureStart t _ =>
    let u := s.tick t
    v = { u with regs := v.regs, idle := v.idle, cs := v.cs, pcd := v.pcd, intAt := v.intAt, outbox := v.outbox }
  | .pictureEnd t i _ =>
    let u := s.tick t
    v = { u with
      regs := v.regs, paths := v.paths, pool := v.pool, mss := v.mss, clip := v.clip, pcd := v.pcd, htp := v.htp, intAt := v.intAt,
      mem := v.mem, outbox := v.outbox, freeCtr := v.freeCtr } ∧
    KeepsRegs u v (notices [4, 11] ++ [(Reg.PCD_CNT_BUF_OVER i).ofs, (Reg.PCD_CNT_EXHAUST i).ofs, (Reg.PCD_CNT_GUARD i).ofs,
      (Reg.PCD_CNT_PARITY i).ofs, (Reg.PCD_CNT_PIC i).ofs, (Reg.PCD_CNT_REF_INTRA i).ofs, (Reg.PCD_FRAME_SEQ i).ofs,
      (Reg.PCD_RC_DEBT i).ofs, (Reg.PCD_RC_LAST_BITS i).ofs,
      (Reg.PCD_RC_OVERSHOOT i).ofs, (Reg.PCD_SES_STATUS i).ofs, Reg.SCC_CNT_FB_REJECT.ofs, Reg.SCC_CP_FREE.ofs])
      [Reg.MSS_REEL_FREE, Reg.SCC_CNT_POST_FAIL, Reg.SCC_CPQ_ITEMS, Reg.SCC_CPQ_LOST, Reg.SCC_CPQ_STATUS, Reg.SCC_CP_NOTIFY]
  | .forceIrap t i =>
    let u := s.tick t
    v = { u with
      regs := v.regs, evt := v.evt, pcd := v.pcd, intAt := v.intAt, outbox := v.outbox, freeCtr := v.freeCtr } ∧
    KeepsRegs u v (notices [4, 12] ++ [(Reg.PCD_SES_CTL i).ofs]) []
  | .pcdSesClr t i =>
    let u := s.tick t
    v = { u with regs := v.regs, evt := v.evt, intAt := v.intAt, outbox := v.outbox, freeCtr := v.freeCtr } ∧
    KeepsRegs u v (notices [4, 12] ++ [(Reg.PCD_CNT_BUF_OVER i).ofs, (Reg.PCD_CNT_EXHAUST i).ofs, (Reg.PCD_CNT_GUARD i).ofs,
      (Reg.PCD_CNT_PARITY i).ofs, (Reg.PCD_CNT_PIC i).ofs, (Reg.PCD_CNT_REF_INTRA i).ofs, (Reg.PCD_SES_CTL i).ofs]) []
  | .decGridInstant t _ _ =>
    let u := s.tick t
    v = { u with
      regs := v.regs, idle := v.idle, cs := v.cs, paths := v.paths, evt := v.evt, pool := v.pool, mss := v.mss, clip := v.clip,
      pcd := v.pcd, apu := v.apu, hif := v.hif, htp := v.htp, intAt := v.intAt, mem := v.mem, outbox := v.outbox,
      freeCtr := v.freeCtr }
  | .decOutputPost t i _ =>
    let u := s.tick t
    v = { u with
      regs := v.regs, paths := v.paths, evt := v.evt, pool := v.pool, mss := v.mss, pcd := v.pcd, intAt := v.intAt, mem := v.mem,
      outbox := v.outbox, freeCtr := v.freeCtr } ∧
    KeepsRegs u v (notices [4, 11] ++ [(Reg.PCD_DCNT_DATA_ERR i).ofs, (Reg.PCD_DCNT_HASH i).ofs, (Reg.PCD_DCNT_MISSING_REF i).ofs,
      (Reg.PCD_DCNT_UNSUPPORTED i).ofs, Reg.SCC_CNT_FB_REJECT.ofs, Reg.SCC_CP_FREE.ofs]) [Reg.PCD_SES_STATUS,
      Reg.SCC_CNT_POST_FAIL, Reg.SCC_CPQ_ITEMS, Reg.SCC_CPQ_LOST, Reg.SCC_CPQ_STATUS, Reg.SCC_CP_NOTIFY]
  | .pcdParity t _ _ =>
    let u := s.tick t
    v = { u with
      regs := v.regs, evt := v.evt, pcd := v.pcd, intAt := v.intAt, outbox := v.outbox, freeCtr := v.freeCtr } ∧
    KeepsRegs u v (notices [4]) [Reg.PCD_DCNT_PARITY]
  | .jobStart t _ | .swJobStart t _ =>
    let u := s.tick t
    v = { u with
      regs := v.regs, idle := v.idle, cs := v.cs, mss := v.mss, rpk := v.rpk, intAt := v.intAt, mem := v.mem, outbox := v.outbox }
  | .jobEnd t e =>
    let u := s.tick t
    v = { u with
      regs := v.regs, paths := v.paths, mss := v.mss, clip := v.clip, rpk := v.rpk, htp := v.htp, intAt := v.intAt, mem := v.mem,
      outbox := v.outbox } ∧
    KeepsRegs u v (notices [5] ++ [(Reg.RPK_CNT_CONCEAL e).ofs, (Reg.RPK_CNT_JOBS e).ofs, (Reg.RPK_CNT_PARITY e).ofs,
      (Reg.RPK_CNT_RECOMPUTE e).ofs, (Reg.RPK_ENG_STATUS e).ofs, (Reg.RPK_FRAME_SEQ e).ofs,
      (Reg.RPK_LAST_BYTES_HI e).ofs, (Reg.RPK_LAST_BYTES_LO e).ofs]) [Reg.MSS_REEL_FREE]
  | .rpkRingTailWrite t e _ =>
    let u := s.tick t
    v = { u with regs := v.regs, evt := v.evt, intAt := v.intAt, outbox := v.outbox, freeCtr := v.freeCtr } ∧
    KeepsRegs u v (notices [5, 12] ++ [(Reg.RPK_RING_TAIL e).ofs]) []
  | .rpkCplHeadWrite t e _ =>
    let u := s.tick t
    v = { u with regs := v.regs, evt := v.evt, intAt := v.intAt, outbox := v.outbox, freeCtr := v.freeCtr } ∧
    KeepsRegs u v (notices [5, 12] ++ [(Reg.RPK_CPL_HEAD e).ofs]) []
  | .swJobComplete t e _ =>
    let u := s.tick t
    v = { u with
      regs := v.regs, evt := v.evt, mss := v.mss, rpk := v.rpk, intAt := v.intAt, mem := v.mem, outbox := v.outbox,
      freeCtr := v.freeCtr } ∧
    KeepsRegs u v (notices [5] ++ [(Reg.RPK_CNT_CHECK e).ofs, (Reg.RPK_CNT_CONCEAL e).ofs, (Reg.RPK_CNT_JOBS e).ofs,
      (Reg.RPK_CNT_OUT_OF_SPACE e).ofs, (Reg.RPK_CNT_PARITY e).ofs, (Reg.RPK_CNT_READ_FAIL e).ofs, (Reg.RPK_CNT_RECOMPUTE e).ofs,
      (Reg.RPK_CNT_STRUCT e).ofs, (Reg.RPK_CNT_SYNTAX e).ofs, (Reg.RPK_CPL_TAIL e).ofs, (Reg.RPK_ENG_STATUS e).ofs, (Reg.RPK_ERR_BIT_HI e).ofs, (Reg.RPK_ERR_BIT_LO e).ofs,
      (Reg.RPK_ERR_TILE e).ofs, (Reg.RPK_FRAME_SEQ e).ofs, (Reg.RPK_LAST_BYTES_HI e).ofs, (Reg.RPK_LAST_BYTES_LO e).ofs,
      (Reg.RPK_RING_HEAD e).ofs]) []
  | .rpkEngClr t e =>
    let u := s.tick t
    v = { u with regs := v.regs, evt := v.evt, intAt := v.intAt, outbox := v.outbox, freeCtr := v.freeCtr } ∧
    KeepsRegs u v (notices [5, 12] ++ [(Reg.RPK_CNT_CHECK e).ofs, (Reg.RPK_CNT_CONCEAL e).ofs, (Reg.RPK_CNT_FLUSHED e).ofs,
      (Reg.RPK_CNT_JOBS e).ofs, (Reg.RPK_CNT_OUT_OF_SPACE e).ofs, (Reg.RPK_CNT_PARITY e).ofs, (Reg.RPK_CNT_READ_FAIL e).ofs,
      (Reg.RPK_CNT_RECOMPUTE e).ofs, (Reg.RPK_CNT_STRUCT e).ofs, (Reg.RPK_CNT_SYNTAX e).ofs, (Reg.RPK_ENG_CTL e).ofs]) []
  | .rpkParity t _ =>
    let u := s.tick t
    v = { u with regs := v.regs, evt := v.evt, rpk := v.rpk, intAt := v.intAt, outbox := v.outbox, freeCtr := v.freeCtr } ∧
    KeepsRegs u v (notices [5]) []
  | _ => True

/-- The frame of the commands of timing generators, ingests, panels and senders, audio, and reference and time: the next state differs
from the state at the command's cycle in the fields named alone, and its registers only in the words named (instances of a register
named without one, and `notices`: what an interrupt, an event message or a refusal of those units may change). Where no word is named, a
Change Set that is applied or a reset may change registers of many units. -/
def Obligations.DisplayAndTimeFrame : Prop :=
  ∀ (c : Instr) (s v : State), exec c s = .next v →
  match c with
  | .tgVblank t _ =>
    let u := s.tick t
    v = { u with
      regs := v.regs, idle := v.idle, cs := v.cs, pool := v.pool, mss := v.mss, apu := v.apu, ore := v.ore, htp := v.htp,
      intAt := v.intAt, gpioPulse := v.gpioPulse, gpioOut := v.gpioOut, mem := v.mem, outbox := v.outbox, freeCtr := v.freeCtr }
  | .tgActiveStart t _ =>
    let u := s.tick t
    v = { u with
      regs := v.regs, evt := v.evt, pool := v.pool, ore := v.ore, intAt := v.intAt, outbox := v.outbox, freeCtr := v.freeCtr } ∧
    KeepsRegs u v (notices [6, 7, 11] ++ [Reg.SCC_CNT_POISON.ofs, Reg.SCC_CP_FREE.ofs]) [Reg.APU_CNT_POISON, Reg.ORE_CNT_AUD_UNDER,
      Reg.SCC_CPQ_ITEMS, Reg.SCC_CPQ_LOST, Reg.SCC_CPQ_STATUS]
  | .tgActiveEnd t _ =>
    let u := s.tick t
    v = { u with paths := v.paths, ore := v.ore, htp := v.htp, outbox := v.outbox, freeCtr := v.freeCtr }
  | .underrun t _ _ _ _ =>
    let u := s.tick t
    v = { u with
      regs := v.regs, evt := v.evt, ore := v.ore, intAt := v.intAt, outbox := v.outbox, freeCtr := v.freeCtr } ∧
    KeepsRegs u v (notices [6]) [Reg.ORE_CNT_UNDERRUN_EVT, Reg.ORE_CNT_UNDERRUN_PIX]
  | .tgClr t g =>
    let u := s.tick t
    v = { u with regs := v.regs, evt := v.evt, intAt := v.intAt, outbox := v.outbox, freeCtr := v.freeCtr } ∧
    KeepsRegs u v (notices [6, 12] ++ [(Reg.ORE_CNT_FRAME_HOLD g).ofs, (Reg.ORE_CNT_FRAME_REPEAT g).ofs, (Reg.ORE_TG_CTL g).ofs])
      [Reg.ORE_CNT_UNDERRUN_PIX, Reg.ORE_CNT_UNDERRUN_EVT, Reg.ORE_CNT_CRC_Y, Reg.ORE_CNT_CRC_C, Reg.ORE_CNT_CRC_LINES,
      Reg.ORE_CNT_AUD_UNDER]
  | .paletteSwap t g =>
    let u := s.tick t
    v = { u with
      regs := v.regs, evt := v.evt, ore := v.ore, intAt := v.intAt, outbox := v.outbox, freeCtr := v.freeCtr } ∧
    KeepsRegs u v (notices [6, 12] ++ [(Reg.ORE_TG_CTL g).ofs]) []
  | .riFrame t _ _ _ _ _ _ =>
    let u := s.tick t
    v = { u with
      regs := v.regs, idle := v.idle, cs := v.cs, paths := v.paths, evt := v.evt, pool := v.pool, mss := v.mss, clip := v.clip,
      apu := v.apu, ore := v.ore, hif := v.hif, htp := v.htp, intAt := v.intAt, mem := v.mem, outbox := v.outbox,
      freeCtr := v.freeCtr }
  | .riFrameWritten t i _ _ _ =>
    let u := s.tick t
    v = { u with
      regs := v.regs, paths := v.paths, pool := v.pool, mss := v.mss, clip := v.clip, ore := v.ore, htp := v.htp, intAt := v.intAt,
      mem := v.mem, outbox := v.outbox, freeCtr := v.freeCtr } ∧
    KeepsRegs u v (notices [6, 11] ++ [(Reg.ORE_RI_STATUS i).ofs, Reg.SCC_CNT_FB_REJECT.ofs, Reg.SCC_CP_FREE.ofs]) [Reg.MSS_REEL_FREE,
      Reg.ORE_CNT_CRC_C, Reg.ORE_CNT_CRC_LINES, Reg.ORE_CNT_CRC_Y, Reg.SCC_CNT_POST_FAIL, Reg.SCC_CPQ_ITEMS, Reg.SCC_CPQ_LOST,
      Reg.SCC_CPQ_STATUS, Reg.SCC_CP_NOTIFY]
  | .riLockLost t i _ =>
    let u := s.tick t
    v = { u with
      regs := v.regs, paths := v.paths, mss := v.mss, clip := v.clip, ore := v.ore, htp := v.htp, intAt := v.intAt, mem := v.mem,
      outbox := v.outbox, freeCtr := v.freeCtr } ∧
    KeepsRegs u v (notices [6] ++ [(Reg.ORE_CNT_RI_INCOMPLETE i).ofs, (Reg.ORE_RI_STATUS i).ofs]) [Reg.MSS_REEL_FREE,
      Reg.ORE_PL_STATUS]
  | .psrEnter t k =>
    let u := s.tick t
    v = { u with
      regs := v.regs, evt := v.evt, intAt := v.intAt, gpioOut := v.gpioOut, outbox := v.outbox, freeCtr := v.freeCtr } ∧
    KeepsRegs u v (notices [6, 12] ++ [Reg.DEV_GPIO_IN.ofs, (Reg.ORE_PNL_CTL k).ofs, (Reg.ORE_PNL_STATUS k).ofs]) []
  | .psrEntryDone t k =>
    let u := s.tick t
    v = { u with regs := v.regs, ore := v.ore, intAt := v.intAt, gpioOut := v.gpioOut, outbox := v.outbox } ∧
    KeepsRegs u v (notices [6] ++ [Reg.DEV_GPIO_IN.ofs, (Reg.ORE_PNL_STATUS k).ofs]) []
  | .psrExit t k | .retrain t k =>
    let u := s.tick t
    v = { u with
      regs := v.regs, evt := v.evt, ore := v.ore, intAt := v.intAt, gpioOut := v.gpioOut, outbox := v.outbox, freeCtr := v.freeCtr } ∧
    KeepsRegs u v (notices [6, 12] ++ [Reg.DEV_GPIO_IN.ofs, (Reg.ORE_PNL_CTL k).ofs, (Reg.ORE_PNL_STATUS k).ofs]) []
  | .panelTrainDone t k _ _ =>
    let u := s.tick t
    v = { u with regs := v.regs, intAt := v.intAt, gpioOut := v.gpioOut, outbox := v.outbox } ∧
    KeepsRegs u v (notices [6] ++ [Reg.DEV_GPIO_IN.ofs, (Reg.ORE_PNL_STATUS k).ofs]) []
  | .hpdChange t k _ _ =>
    let u := s.tick t
    v = { u with regs := v.regs, intAt := v.intAt, outbox := v.outbox } ∧
    KeepsRegs u v (notices [6] ++ [(Reg.ORE_PNL_STATUS k).ofs]) []
  | .auxCmd t k _ _ =>
    let u := s.tick t
    v = { u with regs := v.regs, evt := v.evt, intAt := v.intAt, outbox := v.outbox, freeCtr := v.freeCtr } ∧
    KeepsRegs u v (notices [6, 12] ++ [(Reg.ORE_PNL_AUX_CMD k).ofs]) [fun i => Reg.ORE_PNL_AUX_DATA k i]
  | .st2110VideoPacket t _ =>
    let u := s.tick t
    v = { u with regs := v.regs, paths := v.paths, ore := v.ore, htp := v.htp, intAt := v.intAt, outbox := v.outbox } ∧
    KeepsRegs u v (notices [6]) [Reg.ORE_CNT_TX_DROP]
  | .st2110AudioPacket t _ =>
    let u := s.tick t
    v = { u with
      regs := v.regs, evt := v.evt, pool := v.pool, ore := v.ore, intAt := v.intAt, outbox := v.outbox, freeCtr := v.freeCtr } ∧
    KeepsRegs u v (notices [6, 7, 11] ++ [Reg.SCC_CNT_POISON.ofs, Reg.SCC_CP_FREE.ofs]) [Reg.APU_CNT_POISON, Reg.ORE_CNT_TX_DROP,
      Reg.SCC_CPQ_ITEMS, Reg.SCC_CPQ_LOST, Reg.SCC_CPQ_STATUS]
  | .ethLinkChange t _ _ =>
    let u := s.tick t
    v = { u with ore := v.ore }
  | .audioFrameBoundary t _ _ | .audioStart t _ _ =>
    let u := s.tick t
    v = { u with
      regs := v.regs, idle := v.idle, cs := v.cs, evt := v.evt, pool := v.pool, apu := v.apu, htp := v.htp, intAt := v.intAt,
      outbox := v.outbox, freeCtr := v.freeCtr }
  | .noBoundary t p =>
    let u := s.tick t
    v = { u with
      regs := v.regs, pool := v.pool, apu := v.apu, htp := v.htp, intAt := v.intAt, outbox := v.outbox, freeCtr := v.freeCtr } ∧
    KeepsRegs u v (notices [7, 11] ++ [(Reg.APU_CNT_RX_DROP p).ofs, Reg.SCC_CNT_FB_REJECT.ofs, Reg.SCC_CP_FREE.ofs])
      [Reg.SCC_CNT_POST_FAIL, Reg.SCC_CPQ_ITEMS, Reg.SCC_CPQ_LOST, Reg.SCC_CPQ_STATUS, Reg.SCC_CP_NOTIFY]
  | .audioGo t =>
    let u := s.tick t
    v = { u with
      regs := v.regs, evt := v.evt, apu := v.apu, intAt := v.intAt, outbox := v.outbox, freeCtr := v.freeCtr } ∧
    KeepsRegs u v (notices [7, 12] ++ [Reg.APU_START_CTL.ofs, Reg.APU_START_STATUS.ofs]) [Reg.APU_PORT_STATUS]
  | .leadInStart t p =>
    let u := s.tick t
    v = { u with regs := v.regs } ∧
    KeepsRegs u v [(Reg.APU_PORT_STATUS p).ofs] []
  | .audioArm t p =>
    let u := s.tick t
    v = { u with
      regs := v.regs, evt := v.evt, apu := v.apu, intAt := v.intAt, outbox := v.outbox, freeCtr := v.freeCtr } ∧
    KeepsRegs u v (notices [7, 12] ++ [(Reg.APU_PORT_CTL p).ofs, (Reg.APU_PORT_STATUS p).ofs]) []
  | .apuStop t p =>
    let u := s.tick t
    v = { u with
      regs := v.regs, evt := v.evt, apu := v.apu, intAt := v.intAt, outbox := v.outbox, freeCtr := v.freeCtr } ∧
    KeepsRegs u v (notices [7, 12] ++ [(Reg.APU_PORT_CTL p).ofs, (Reg.APU_PORT_STATUS p).ofs, Reg.APU_START_STATUS.ofs]) []
  | .audioSwap t p =>
    let u := s.tick t
    v = { u with
      regs := v.regs, evt := v.evt, pool := v.pool, apu := v.apu, htp := v.htp, intAt := v.intAt, outbox := v.outbox,
      freeCtr := v.freeCtr } ∧
    KeepsRegs u v (notices [7, 11, 12] ++ [(Reg.APU_CNT_RX_DROP p).ofs, (Reg.APU_PORT_CTL p).ofs, (Reg.APU_PORT_STATUS p).ofs,
      Reg.SCC_CNT_FB_REJECT.ofs, Reg.SCC_CP_FREE.ofs]) [Reg.SCC_CNT_POST_FAIL, Reg.SCC_CPQ_ITEMS, Reg.SCC_CPQ_LOST,
      Reg.SCC_CPQ_STATUS, Reg.SCC_CP_NOTIFY]
  | .apuClr t p =>
    let u := s.tick t
    v = { u with regs := v.regs, evt := v.evt, intAt := v.intAt, outbox := v.outbox, freeCtr := v.freeCtr } ∧
    KeepsRegs u v (notices [7, 12] ++ [(Reg.APU_CNT_POISON p).ofs, (Reg.APU_CNT_RATE_EVT p).ofs, (Reg.APU_CNT_RX_DROP p).ofs,
      (Reg.APU_CNT_TX_BAD p).ofs, (Reg.APU_CNT_TX_LATE p).ofs, (Reg.APU_CNT_UNDER_FRAMES p).ofs, (Reg.APU_PORT_CTL p).ofs]) []
  | .slotMapWrite t _ _ _ _ =>
    let u := s.tick t
    v = { u with
      regs := v.regs, evt := v.evt, apu := v.apu, intAt := v.intAt, outbox := v.outbox, freeCtr := v.freeCtr } ∧
    KeepsRegs u v (notices [7, 12]) []
  | .trailEnd t p =>
    let u := s.tick t
    v = { u with regs := v.regs, apu := v.apu, intAt := v.intAt, outbox := v.outbox } ∧
    KeepsRegs u v (notices [7] ++ [(Reg.APU_PORT_STATUS p).ofs, Reg.APU_START_STATUS.ofs]) []
  | .txBlockArrive t p =>
    let u := s.tick t
    v = { u with
      regs := v.regs, evt := v.evt, pool := v.pool, apu := v.apu, htp := v.htp, intAt := v.intAt, outbox := v.outbox,
      freeCtr := v.freeCtr } ∧
    KeepsRegs u v (notices [7, 11] ++ [(Reg.APU_CNT_POISON p).ofs, (Reg.APU_CNT_TX_BAD p).ofs, (Reg.APU_CNT_TX_LATE p).ofs,
      Reg.SCC_CNT_POISON.ofs, Reg.SCC_CP_FREE.ofs]) [Reg.SCC_CPQ_ITEMS, Reg.SCC_CPQ_LOST, Reg.SCC_CPQ_STATUS]
  | .rateWindow t p _ =>
    let u := s.tick t
    v = { u with
      regs := v.regs, pool := v.pool, apu := v.apu, htp := v.htp, intAt := v.intAt, outbox := v.outbox, freeCtr := v.freeCtr } ∧
    KeepsRegs u v (notices [7, 11] ++ [(Reg.APU_CNT_RATE_EVT p).ofs, (Reg.APU_CNT_RX_DROP p).ofs, (Reg.APU_PORT_STATUS p).ofs,
      (Reg.APU_RATE_MEAS p).ofs, (Reg.APU_RATE_REF p).ofs, Reg.SCC_CNT_FB_REJECT.ofs, Reg.SCC_CP_FREE.ofs])
      [Reg.SCC_CNT_POST_FAIL, Reg.SCC_CPQ_ITEMS, Reg.SCC_CPQ_LOST, Reg.SCC_CPQ_STATUS, Reg.SCC_CP_NOTIFY]
  | .fsyncLoss t p =>
    let u := s.tick t
    v = { u with
      regs := v.regs, pool := v.pool, apu := v.apu, htp := v.htp, intAt := v.intAt, outbox := v.outbox, freeCtr := v.freeCtr } ∧
    KeepsRegs u v (notices [7, 11] ++ [(Reg.APU_CNT_RATE_EVT p).ofs, (Reg.APU_CNT_RX_DROP p).ofs, (Reg.APU_PORT_STATUS p).ofs,
      Reg.SCC_CNT_FB_REJECT.ofs, Reg.SCC_CP_FREE.ofs]) [Reg.SCC_CNT_POST_FAIL, Reg.SCC_CPQ_ITEMS, Reg.SCC_CPQ_LOST,
      Reg.SCC_CPQ_STATUS, Reg.SCC_CP_NOTIFY]
  | .recBlockWrite t p =>
    let u := s.tick t
    v = { u with
      regs := v.regs, paths := v.paths, evt := v.evt, pool := v.pool, mss := v.mss, clip := v.clip, htp := v.htp, intAt := v.intAt,
      mem := v.mem, outbox := v.outbox, freeCtr := v.freeCtr } ∧
    KeepsRegs u v (notices [7, 11] ++ [(Reg.APU_CNT_POISON p).ofs, Reg.SCC_CNT_POISON.ofs, Reg.SCC_CP_FREE.ofs])
      [Reg.MSS_CNT_REC_LATE, Reg.MSS_REEL_FREE, Reg.SCC_CPQ_ITEMS, Reg.SCC_CPQ_LOST, Reg.SCC_CPQ_STATUS]
  | .recBlockMissing t _ =>
    let u := s.tick t
    v = { u with
      regs := v.regs, paths := v.paths, mss := v.mss, clip := v.clip, apu := v.apu, htp := v.htp, mem := v.mem, outbox := v.outbox } ∧
    KeepsRegs u v [] [Reg.MSS_REEL_FREE]
  | .refEdge t _ =>
    let u := s.tick t
    v = { u with
      regs := v.regs, evt := v.evt, rtu := v.rtu, ore := v.ore, intAt := v.intAt, gpioOut := v.gpioOut, outbox := v.outbox,
      freeCtr := v.freeCtr } ∧
    KeepsRegs u v (notices [8] ++ [Reg.DEV_GPIO_IN.ofs, Reg.RTU_ANCHOR_NS.ofs, Reg.RTU_ANCHOR_S_HI.ofs, Reg.RTU_ANCHOR_S_LO.ofs,
      Reg.RTU_CNT_GLITCH.ofs, Reg.RTU_CNT_RATE_CHANGE.ofs, Reg.RTU_FREQ.ofs, Reg.RTU_PHASE_ERR.ofs, Reg.RTU_STATUS.ofs]) []
  | .refEdgeTimeout t =>
    let u := s.tick t
    v = { u with
      regs := v.regs, evt := v.evt, rtu := v.rtu, intAt := v.intAt, gpioOut := v.gpioOut, outbox := v.outbox, freeCtr := v.freeCtr } ∧
    KeepsRegs u v (notices [8] ++ [Reg.DEV_GPIO_IN.ofs, Reg.RTU_CNT_HOLDOVER.ofs, Reg.RTU_STATUS.ofs]) []
  | .ptpSync t slot _ _ _ _ =>
    let u := s.tick t
    v = { u with
      media := v.media, regs := v.regs, evt := v.evt, rtu := v.rtu, intAt := v.intAt, gpioOut := v.gpioOut, outbox := v.outbox,
      freeCtr := v.freeCtr } ∧
    KeepsRegs u v (notices [8] ++ [Reg.DEV_GPIO_IN.ofs, Reg.RTU_CNT_GLITCH.ofs, Reg.RTU_FREQ.ofs, Reg.RTU_PHASE_ERR.ofs,
      (Reg.RTU_PTP_FREQ slot).ofs, (Reg.RTU_PTP_MPD slot).ofs, (Reg.RTU_PTP_STATUS slot).ofs, Reg.RTU_STATUS.ofs])
      [Reg.RTU_PTP_OFS_HI, Reg.RTU_PTP_OFS_LO]
  | .ptpAnnounce t slot _ =>
    let u := s.tick t
    v = { u with regs := v.regs, rtu := v.rtu, intAt := v.intAt, outbox := v.outbox } ∧
    KeepsRegs u v (notices [8] ++ [(Reg.RTU_PTP_GM_HI slot).ofs, (Reg.RTU_PTP_GM_LO slot).ofs, (Reg.RTU_PTP_STATUS slot).ofs]) []
  | .ptpSyncLoss t slot _ =>
    let u := s.tick t
    v = { u with
      regs := v.regs, evt := v.evt, rtu := v.rtu, intAt := v.intAt, gpioOut := v.gpioOut, outbox := v.outbox, freeCtr := v.freeCtr } ∧
    KeepsRegs u v (notices [8] ++ [Reg.DEV_GPIO_IN.ofs, Reg.RTU_CNT_HOLDOVER.ofs, (Reg.RTU_CNT_SYNC_MISS slot).ofs, (Reg.RTU_PTP_GM_HI
      slot).ofs, (Reg.RTU_PTP_GM_LO slot).ofs, (Reg.RTU_PTP_STATUS slot).ofs, Reg.RTU_STATUS.ofs]) []
  | .refSrcWrite t _ | .ptpActiveSwitch t _ =>
    let u := s.tick t
    v = { u with
      regs := v.regs, evt := v.evt, rtu := v.rtu, intAt := v.intAt, gpioOut := v.gpioOut, outbox := v.outbox, freeCtr := v.freeCtr } ∧
    KeepsRegs u v (notices [8, 12] ++ [Reg.DEV_GPIO_IN.ofs, Reg.RTU_ANCHOR_NS.ofs, Reg.RTU_ANCHOR_S_HI.ofs, Reg.RTU_ANCHOR_S_LO.ofs,
      Reg.RTU_FREQ.ofs, Reg.RTU_REF_CFG.ofs, Reg.RTU_STATUS.ofs]) []
  | .setTime t _ =>
    let u := s.tick t
    v = { u with
      media := v.media, regs := v.regs, evt := v.evt, rtu := v.rtu, intAt := v.intAt, outbox := v.outbox, freeCtr := v.freeCtr } ∧
    KeepsRegs u v (notices [8, 12] ++ [Reg.RTU_TIME_CTL.ofs, Reg.RTU_TIME_SNAP_NS.ofs, Reg.RTU_TIME_SNAP_S_HI.ofs,
      Reg.RTU_TIME_SNAP_S_LO.ofs]) [Reg.RTU_PTP_OFS_HI, Reg.RTU_PTP_OFS_LO]
  | .snapTime t =>
    let u := s.tick t
    v = { u with regs := v.regs, evt := v.evt, intAt := v.intAt, outbox := v.outbox, freeCtr := v.freeCtr } ∧
    KeepsRegs u v (notices [8, 12] ++ [Reg.RTU_TIME_CTL.ofs, Reg.RTU_TIME_SNAP_NS.ofs, Reg.RTU_TIME_SNAP_S_HI.ofs,
      Reg.RTU_TIME_SNAP_S_LO.ofs]) []
  | .ptpEventStamp t port _ _ =>
    let u := s.tick t
    v = { u with regs := v.regs, rtu := v.rtu, intAt := v.intAt, outbox := v.outbox } ∧
    KeepsRegs u v (notices [8] ++ [(Reg.RTU_TS_NS port).ofs, (Reg.RTU_TS_STATUS port).ofs, (Reg.RTU_TS_S_HI port).ofs,
      (Reg.RTU_TS_S_LO port).ofs, (Reg.RTU_TS_TAG port).ofs]) []
  | .tsPop t port =>
    let u := s.tick t
    v = { u with
      regs := v.regs, evt := v.evt, rtu := v.rtu, intAt := v.intAt, outbox := v.outbox, freeCtr := v.freeCtr } ∧
    KeepsRegs u v (notices [8, 12] ++ [(Reg.RTU_TS_NS port).ofs, (Reg.RTU_TS_POP port).ofs, (Reg.RTU_TS_STATUS port).ofs,
      (Reg.RTU_TS_S_HI port).ofs, (Reg.RTU_TS_S_LO port).ofs, (Reg.RTU_TS_TAG port).ofs]) []
  | .ltcInFrame t _ _ _ _ _ _ _ _ =>
    let u := s.tick t
    v = { u with
      media := v.media, regs := v.regs, evt := v.evt, rtu := v.rtu, intAt := v.intAt, outbox := v.outbox, freeCtr := v.freeCtr } ∧
    KeepsRegs u v (notices [8] ++ [Reg.RTU_CNT_LTC_ERR.ofs, Reg.RTU_LTC_IN_STATUS.ofs, Reg.RTU_LTC_IN_TC.ofs]) [Reg.RTU_PTP_OFS_HI,
      Reg.RTU_PTP_OFS_LO]
  | .ltcOutFrame t =>
    let u := s.tick t
    v = { u with outbox := v.outbox }
  | .riLock t i _ _ =>
    let u := s.tick t
    v = { u with regs := v.regs, intAt := v.intAt, outbox := v.outbox } ∧
    KeepsRegs u v (notices [6] ++ [(Reg.ORE_RI_STATUS i).ofs]) [Reg.ORE_PL_ST352, Reg.ORE_PL_STATUS]
  | _ => True

/-- The frame of the commands of DRAM channels, reels and takes, the pool and its ports, and locks: the next state differs from the
state at the command's cycle in the fields named alone, and its registers only in the words named (instances of a register named without
one, and `notices`: what an interrupt, an event message or a refusal of those units may change). Where no word is named, a Change Set
that is applied or a reset may change registers of many units. -/
def Obligations.MemoryAndPoolFrame : Prop :=
  ∀ (c : Instr) (s v : State), exec c s = .next v →
  match c with
  | .slotTableWrap t =>
    let u := s.tick t
    v = { u with regs := v.regs, paths := v.paths, mss := v.mss, intAt := v.intAt, outbox := v.outbox } ∧
    KeepsRegs u v (notices [9]) [Reg.MSS_SLOT_STATUS]
  | .trainingDone t c _ =>
    let u := s.tick t
    v = { u with regs := v.regs, mss := v.mss, intAt := v.intAt, outbox := v.outbox } ∧
    KeepsRegs u v (notices [9] ++ [(Reg.MSS_CH_STATUS c).ofs]) []
  | .zqcs t _ =>
    let u := s.tick t
    v = { u with mss := v.mss, outbox := v.outbox }
  | .refreshDue t _ =>
    let u := s.tick t
    v = { u with regs := v.regs, mss := v.mss, intAt := v.intAt, outbox := v.outbox } ∧
    KeepsRegs u v (notices [9] ++ [Reg.MSS_REF_STATUS.ofs]) []
  | .ddrHotChange t _ =>
    let u := s.tick t
    v = { u with regs := v.regs, mss := v.mss } ∧
    KeepsRegs u v [Reg.MSS_REF_STATUS.ofs] []
  | .ddrHotCool t =>
    let u := s.tick t
    v = { u with regs := v.regs, intAt := v.intAt, outbox := v.outbox } ∧
    KeepsRegs u v (notices [9] ++ [Reg.MSS_REF_STATUS.ofs]) []
  | .arbTurn t c _ =>
    let u := s.tick t
    v = { u with regs := v.regs, evt := v.evt, mss := v.mss, intAt := v.intAt, mem := v.mem, outbox := v.outbox } ∧
    KeepsRegs u v (notices [] ++ [(Reg.MSS_CH_STATUS c).ofs, (Reg.MSS_CNT_FWD c).ofs, (Reg.MSS_CNT_MERGE c).ofs, (Reg.MSS_CNT_NREF
      c).ofs, (Reg.MSS_CNT_RMW_POISON c).ofs]) []
  | .dramReadReturn t _ _ _ _ _ _ =>
    let u := s.tick t
    v = { u with
      regs := v.regs, evt := v.evt, mss := v.mss, rfe := v.rfe, cse := v.cse, pcd := v.pcd, rpk := v.rpk, htp := v.htp, intAt := v.intAt,
      mem := v.mem, outbox := v.outbox, freeCtr := v.freeCtr } ∧
    KeepsRegs u v (notices (List.range 13) ++ [Reg.MSS_CNT_LIN_HIT.ofs, Reg.MSS_CNT_LIN_MISS.ofs, Reg.RFE_CNT_CONCEAL.ofs]) [Reg.MSS_CNT_CONCEAL, Reg.MSS_CNT_COP_BUDGET, Reg.MSS_CNT_COP_UNAVAIL,
      Reg.MSS_CNT_DATA_ERR, Reg.MSS_CNT_DETECT, Reg.MSS_CNT_POISON_READ, Reg.MSS_CNT_REPLY_DROP, Reg.MSS_CNT_RETRY_OK,
      Reg.MSS_CNT_RMW_POISON]
  | .coppiceRecompute t _ _ _ _ =>
    let u := s.tick t
    v = { u with
      regs := v.regs, evt := v.evt, mss := v.mss, rfe := v.rfe, cse := v.cse, pcd := v.pcd, rpk := v.rpk, intAt := v.intAt, mem := v.mem,
      outbox := v.outbox, freeCtr := v.freeCtr } ∧
    KeepsRegs u v (notices (List.range 13) ++ [Reg.RFE_CNT_CONCEAL.ofs])
      [Reg.MSS_CNT_CONCEAL, Reg.MSS_CNT_COP_BUDGET, Reg.MSS_CNT_COP_UNAVAIL, Reg.MSS_CNT_RECOMPUTE]
  | .slotSwap t c =>
    let u := s.tick t
    v = { u with regs := v.regs, evt := v.evt, intAt := v.intAt, outbox := v.outbox, freeCtr := v.freeCtr } ∧
    KeepsRegs u v (notices [9, 12] ++ [(Reg.MSS_SLOT_CTL c).ofs, (Reg.MSS_SLOT_STATUS c).ofs]) []
  | .slotClr t c =>
    let u := s.tick t
    v = { u with regs := v.regs, evt := v.evt, intAt := v.intAt, outbox := v.outbox, freeCtr := v.freeCtr } ∧
    KeepsRegs u v (notices [9, 12] ++ [(Reg.MSS_CH_STATUS c).ofs, (Reg.MSS_SLOT_CTL c).ofs, (Reg.MSS_CNT_DETECT c).ofs,
      (Reg.MSS_CNT_RETRY_OK c).ofs, (Reg.MSS_CNT_POISON_READ c).ofs, (Reg.MSS_CNT_RECOMPUTE c).ofs, (Reg.MSS_CNT_CONCEAL c).ofs,
      (Reg.MSS_CNT_COP_BUDGET c).ofs, (Reg.MSS_CNT_COP_UNAVAIL c).ofs, (Reg.MSS_CNT_DATA_ERR c).ofs, (Reg.MSS_CNT_FWD c).ofs,
      (Reg.MSS_CNT_MERGE c).ofs, (Reg.MSS_CNT_RMW_POISON c).ofs, (Reg.MSS_CNT_NREF c).ofs, (Reg.MSS_CNT_REPLY_DROP c).ofs]) []
  | .crcTest t =>
    let u := s.tick t
    v = { u with regs := v.regs, evt := v.evt, intAt := v.intAt, outbox := v.outbox, freeCtr := v.freeCtr } ∧
    KeepsRegs u v (notices [9, 12] ++ [Reg.MSS_CRC_TEST_CTL.ofs, Reg.MSS_CRC_TEST_RESULT_HI.ofs, Reg.MSS_CRC_TEST_RESULT_LO.ofs]) []
  | .recWrite t r _ =>
    let u := s.tick t
    v = { u with
      regs := v.regs, evt := v.evt, clip := v.clip, hif := v.hif, intAt := v.intAt, outbox := v.outbox, freeCtr := v.freeCtr } ∧
    KeepsRegs u v (notices [9, 12] ++ [Reg.HIF_CNT_AEV_DROP.ofs, (Reg.HIF_CQ_TAIL 0).ofs, (Reg.MSS_REEL_CTL r).ofs,
      (Reg.MSS_REEL_STATUS r).ofs]) []
  | .takeOpen t r | .takeOpenRetry t r =>
    let u := s.tick t
    v = { u with
      regs := v.regs, evt := v.evt, mss := v.mss, clip := v.clip, hif := v.hif, intAt := v.intAt, mem := v.mem, outbox := v.outbox,
      freeCtr := v.freeCtr } ∧
    KeepsRegs u v (notices [9] ++ [Reg.HIF_CNT_AEV_DROP.ofs, (Reg.HIF_CQ_TAIL 0).ofs, (Reg.MSS_REEL_FREE r).ofs, (Reg.MSS_REEL_STATUS
      r).ofs]) []
  | .takeClose t r =>
    let u := s.tick t
    v = { u with regs := v.regs, mss := v.mss, clip := v.clip, mem := v.mem } ∧
    KeepsRegs u v [(Reg.MSS_REEL_FREE r).ofs] []
  | .reelDescriptor t _ =>
    let u := s.tick t
    v = { u with
      regs := v.regs, evt := v.evt, mss := v.mss, clip := v.clip, hif := v.hif, intAt := v.intAt, mem := v.mem, outbox := v.outbox,
      freeCtr := v.freeCtr } ∧
    KeepsRegs u v (notices []) [Reg.MSS_REEL_FREE]
  | .cpPost t q _ _ =>
    let u := s.tick t
    v = { u with regs := v.regs, pool := v.pool, intAt := v.intAt, outbox := v.outbox, freeCtr := v.freeCtr } ∧
    KeepsRegs u v (notices [11] ++ [Reg.SCC_CNT_FB_REJECT.ofs, (Reg.SCC_CNT_POST_FAIL q).ofs, (Reg.SCC_CPQ_ITEMS q).ofs,
      (Reg.SCC_CPQ_LOST q).ofs, (Reg.SCC_CPQ_STATUS q).ofs, Reg.SCC_CP_FREE.ofs]) [Reg.SCC_CP_NOTIFY]
  | .cpRead t q _ _ =>
    let u := s.tick t
    v = { u with regs := v.regs, pool := v.pool, intAt := v.intAt, outbox := v.outbox } ∧
    KeepsRegs u v (notices [11] ++ [Reg.SCC_CNT_POISON.ofs, (Reg.SCC_CPQ_ITEMS q).ofs, (Reg.SCC_CPQ_LOST q).ofs, (Reg.SCC_CPQ_STATUS
      q).ofs, Reg.SCC_CP_FREE.ofs]) []
  | .cpIdleTimeout t q =>
    let u := s.tick t
    v = { u with regs := v.regs, pool := v.pool, intAt := v.intAt, outbox := v.outbox } ∧
    KeepsRegs u v (notices [11] ++ [(Reg.SCC_CPQ_ITEMS q).ofs, (Reg.SCC_CPQ_STATUS q).ofs, Reg.SCC_CP_FREE.ofs]) [Reg.SCC_CP_NOTIFY]
  | .sweepDone t q =>
    let u := s.tick t
    v = { u with regs := v.regs, evt := v.evt, pool := v.pool, intAt := v.intAt, outbox := v.outbox } ∧
    KeepsRegs u v (notices [11] ++ [(Reg.SCC_CPQ_ITEMS q).ofs, (Reg.SCC_CPQ_LOST q).ofs, (Reg.SCC_CPQ_STATUS q).ofs,
      Reg.SCC_CP_FREE.ofs]) [Reg.SCC_CP_NOTIFY]
  | .queueReset t q =>
    let u := s.tick t
    v = { u with
      regs := v.regs, evt := v.evt, pool := v.pool, intAt := v.intAt, outbox := v.outbox, freeCtr := v.freeCtr } ∧
    KeepsRegs u v (notices [11, 12] ++ [(Reg.SCC_CPQ_CTL q).ofs, (Reg.SCC_CPQ_ITEMS q).ofs, (Reg.SCC_CPQ_LOST q).ofs,
      (Reg.SCC_CPQ_STATUS q).ofs, Reg.SCC_CP_FREE.ofs]) []
  | .queueReinstate t q =>
    let u := s.tick t
    v = { u with
      regs := v.regs, evt := v.evt, pool := v.pool, intAt := v.intAt, outbox := v.outbox, freeCtr := v.freeCtr } ∧
    KeepsRegs u v (notices [11, 12] ++ [(Reg.SCC_CPQ_CTL q).ofs, (Reg.SCC_CPQ_ITEMS q).ofs, (Reg.SCC_CPQ_STATUS q).ofs,
      Reg.SCC_CP_FREE.ofs]) []
  | .cpqClr t q =>
    let u := s.tick t
    v = { u with regs := v.regs, evt := v.evt, intAt := v.intAt, outbox := v.outbox, freeCtr := v.freeCtr } ∧
    KeepsRegs u v (notices [11, 12] ++ [(Reg.SCC_CNT_POST_FAIL q).ofs, (Reg.SCC_CPQ_CTL q).ofs, (Reg.SCC_CPQ_LOST q).ofs]) []
  | .freeRebuildDone t =>
    let u := s.tick t
    v = { u with regs := v.regs, pool := v.pool, intAt := v.intAt, outbox := v.outbox, freeCtr := v.freeCtr } ∧
    KeepsRegs u v (notices [11] ++ [Reg.SCC_CNT_FREE_REBUILD.ofs, Reg.SCC_CP_FREE.ofs]) [Reg.SCC_CPQ_ITEMS, Reg.SCC_CPQ_STATUS,
      Reg.SCC_CP_NOTIFY, Reg.SCC_CP_WR_STATUS]
  | .cpWrCfgWrite t _ _ | .cpRdCfgWrite t _ _ =>
    let u := s.tick t
    v.pending = u.pending ∧ v.variant = u.variant ∧ v.now = u.now ∧ v.media = u.media ∧ v.shadow = u.shadow ∧ v.views = u.views ∧
      v.idle = u.idle ∧ v.snap = u.snap ∧ v.pool = u.pool ∧ v.locks = u.locks ∧ v.clip = u.clip ∧ v.rpk = u.rpk ∧ v.boot = u.boot
      ∧ v.flash = u.flash ∧ v.fuses = u.fuses
  | .portPush t k _ _ =>
    let u := s.tick t
    v = { u with
      regs := v.regs, evt := v.evt, pool := v.pool, intAt := v.intAt, outbox := v.outbox, freeCtr := v.freeCtr } ∧
    KeepsRegs u v (notices [11, 12] ++ [Reg.SCC_CNT_FB_REJECT.ofs, Reg.SCC_CP_FREE.ofs, (Reg.SCC_CP_WR_CTL k).ofs,
      (Reg.SCC_CP_WR_STATUS k).ofs]) [Reg.SCC_CNT_POST_FAIL, Reg.SCC_CPQ_ITEMS, Reg.SCC_CPQ_LOST, Reg.SCC_CPQ_STATUS,
      Reg.SCC_CP_NOTIFY]
  | .portPop t k _ _ =>
    let u := s.tick t
    v = { u with
      regs := v.regs, evt := v.evt, pool := v.pool, intAt := v.intAt, outbox := v.outbox, freeCtr := v.freeCtr } ∧
    KeepsRegs u v (notices [11, 12] ++ [Reg.SCC_CNT_POISON.ofs, Reg.SCC_CP_FREE.ofs, (Reg.SCC_CP_RD_CTL k).ofs]) [Reg.SCC_CPQ_ITEMS,
      Reg.SCC_CPQ_LOST, Reg.SCC_CPQ_STATUS]
  | .lockAcquire t _ _ =>
    let u := s.tick t
    v = { u with locks := v.locks, outbox := v.outbox }
  | .lockRelease t _ _ =>
    let u := s.tick t
    v = { u with
      regs := v.regs, evt := v.evt, locks := v.locks, intAt := v.intAt, outbox := v.outbox, freeCtr := v.freeCtr } ∧
    KeepsRegs u v (notices [11, 12]) []
  | .breakLock t _ _ =>
    let u := s.tick t
    v = { u with
      regs := v.regs, evt := v.evt, locks := v.locks, intAt := v.intAt, outbox := v.outbox, freeCtr := v.freeCtr } ∧
    KeepsRegs u v (notices [11, 12] ++ [Reg.SCC_LOCK_CTL.ofs]) []
  | .caParityAlert t _ _ =>
    let u := s.tick t
    v = { u with outbox := v.outbox }
  | _ => True

/-- The frame of the commands of the register bus, the host link, flash and fuses, thermal and power, units and snapshots: the next
state differs from the state at the command's cycle in the fields named alone, and its registers only in the words named (instances of a
register named without one, and `notices`: what an interrupt, an event message or a refusal of those units may change). Where no word is
named, a Change Set that is applied or a reset may change registers of many units. -/
def Obligations.DeviceAndHostFrame : Prop :=
  ∀ (c : Instr) (s v : State), exec c s = .next v →
  match c with
  | .registerWrite t _ _ _ | .mgmtTransaction t _ _ _ _ _ | .bootLoad t =>
    let u := s.tick t
    v.pending = u.pending ∧ v.variant = u.variant ∧ v.now = u.now ∧ v.idle = u.idle ∧ v.rpk = u.rpk ∧ v.flash = u.flash ∧
      v.fuses = u.fuses
  | .unitEnable t _ | .csCommit t | .consistencyCheck t | .setPower t _ | .powerCommand t _ | .resetReq t _ | .gpioFnWrite t _ _ =>
    let u := s.tick t
    v.pending = u.pending ∧ v.variant = u.variant ∧ v.now = u.now ∧ v.media = u.media ∧ v.shadow = u.shadow ∧ v.views = u.views ∧
      v.idle = u.idle ∧ v.snap = u.snap ∧ v.pool = u.pool ∧ v.locks = u.locks ∧ v.clip = u.clip ∧ v.rpk = u.rpk ∧ v.boot = u.boot
      ∧ v.flash = u.flash ∧ v.fuses = u.fuses
  | .unitDisable t _ =>
    let u := s.tick t
    v.pending = u.pending ∧ v.variant = u.variant ∧ v.now = u.now ∧ v.media = u.media ∧ v.shadow = u.shadow ∧ v.views = u.views ∧
      v.idle = u.idle ∧ v.snap = u.snap ∧ v.pool = u.pool ∧ v.locks = u.locks ∧ v.clip = u.clip ∧ v.rpk = u.rpk ∧ v.hif = u.hif ∧
      v.htp = u.htp ∧ v.boot = u.boot ∧ v.flash = u.flash ∧ v.fuses = u.fuses ∧ v.gpioPulse = u.gpioPulse
  | .unitIdle t _ =>
    let u := s.tick t
    v = { u with
      regs := v.regs, idle := v.idle, cs := v.cs, mss := v.mss, cal := v.cal, cse := v.cse, pcd := v.pcd, rtu := v.rtu, ore := v.ore,
      intAt := v.intAt, gpioOut := v.gpioOut, mem := v.mem, outbox := v.outbox }
  | .bar0BadAccess t _ _ =>
    let u := s.tick t
    v = { u with outbox := v.outbox }
  | .apertureAccess t _ _ _ _ =>
    let u := s.tick t
    v = { u with regs := v.regs, evt := v.evt, mss := v.mss, intAt := v.intAt, mem := v.mem, outbox := v.outbox } ∧
    KeepsRegs u v (notices []) []
  | .msixUnmask t _ _ =>
    let u := s.tick t
    v = { u with
      regs := v.regs, evt := v.evt, hif := v.hif, intAt := v.intAt, outbox := v.outbox, freeCtr := v.freeCtr } ∧
    KeepsRegs u v (notices [10, 12]) [Reg.HIF_MSIX_VCTL]
  | .qpEnable t q _ =>
    let u := s.tick t
    v = { u with
      regs := v.regs, checks := v.checks, evt := v.evt, snap := v.snap, hif := v.hif, htp := v.htp, intAt := v.intAt,
      outbox := v.outbox, freeCtr := v.freeCtr } ∧
    KeepsRegs u v (notices [10, 12] ++ [(Reg.HIF_CQ_HEAD q).ofs, (Reg.HIF_CQ_TAIL q).ofs, (Reg.HIF_SQ_TAIL q).ofs]) [Reg.HIF_QP_CFG,
      Reg.HIF_QP_STATUS]
  | .sqDoorbell t q _ =>
    let u := s.tick t
    v = { u with regs := v.regs, hif := v.hif, intAt := v.intAt, outbox := v.outbox, freeCtr := v.freeCtr } ∧
    KeepsRegs u v (notices [10] ++ [Reg.HIF_CNT_AEV_DROP.ofs, (Reg.HIF_CQ_TAIL 0).ofs, (Reg.HIF_QP_STATUS q).ofs, (Reg.HIF_SQ_TAIL
      q).ofs]) []
  | .cqDoorbell t q _ =>
    let u := s.tick t
    v = { u with regs := v.regs, hif := v.hif, intAt := v.intAt, outbox := v.outbox, freeCtr := v.freeCtr } ∧
    KeepsRegs u v (notices [10] ++ [Reg.HIF_CNT_AEV_DROP.ofs, (Reg.HIF_CQ_HEAD q).ofs, (Reg.HIF_CQ_TAIL 0).ofs, (Reg.HIF_QP_STATUS
      q).ofs]) []
  | .sqFetch t _ _ =>
    let u := s.tick t
    v = { u with regs := v.regs, hif := v.hif, freeCtr := v.freeCtr } ∧
    KeepsRegs u v [Reg.HIF_CNT_CMD.ofs] [Reg.HIF_QP_STATUS]
  | .completionPost t q =>
    let u := s.tick t
    v = { u with regs := v.regs, hif := v.hif, outbox := v.outbox } ∧
    KeepsRegs u v (notices [] ++ [(Reg.HIF_CQ_TAIL q).ofs]) []
  | .coalesceTimer t _ =>
    let u := s.tick t
    v = { u with regs := v.regs, hif := v.hif, outbox := v.outbox } ∧
    KeepsRegs u v (notices []) []
  | .hostWrite t _ _ _ _ _ =>
    let u := s.tick t
    v = { u with regs := v.regs, hif := v.hif } ∧
    KeepsRegs u v [Reg.HIF_WBUF_USED.ofs] []
  | .hostRead t _ _ _ _ _ =>
    let u := s.tick t
    v = { u with regs := v.regs, hif := v.hif, outbox := v.outbox } ∧
    KeepsRegs u v [Reg.HIF_CNT_DATA_ERR.ofs] []
  | .flush t _ _ | .pin t _ _ | .unpin t _ _ | .getFeature t _ | .setFeature t _ =>
    let u := s.tick t
    v = { u with hif := v.hif }
  | .trim t _ _ =>
    let u := s.tick t
    v = { u with mss := v.mss, hif := v.hif, mem := v.mem }
  | .identify t _ _ _ =>
    let u := s.tick t
    v = { u with hif := v.hif, outbox := v.outbox }
  | .getLog t _ _ _ _ =>
    let u := s.tick t
    v = { u with hif := v.hif, outbox := v.outbox, freeCtr := v.freeCtr }
  | .abort t _ =>
    let u := s.tick t
    v = { u with regs := v.regs, snap := v.snap, hif := v.hif, freeCtr := v.freeCtr } ∧
    KeepsRegs u v [Reg.HIF_CNT_ABORTED.ofs] []
  | .snapshot t _ _ _ =>
    let u := s.tick t
    v = { u with snap := v.snap, hif := v.hif, freeCtr := v.freeCtr }
  | .wbufCopyDone t _ =>
    let u := s.tick t
    v = { u with
      regs := v.regs, evt := v.evt, mss := v.mss, hif := v.hif, intAt := v.intAt, mem := v.mem, outbox := v.outbox,
      freeCtr := v.freeCtr } ∧
    KeepsRegs u v (notices [10] ++ [Reg.HIF_CNT_AEV_DROP.ofs, Reg.HIF_CNT_WRITE_FAULT.ofs, (Reg.HIF_CQ_TAIL 0).ofs,
      Reg.HIF_WBUF_USED.ofs]) []
  | .pcieReset t | .perstAssert t | .linkChange t _ _ _ _ =>
    let u := s.tick t
    v = { u with
      regs := v.regs, checks := v.checks, evt := v.evt, snap := v.snap, locks := v.locks, hif := v.hif, htp := v.htp,
      intAt := v.intAt, outbox := v.outbox, freeCtr := v.freeCtr }
  | .resetRelease t =>
    let u := s.tick t
    v = { u with media := v.media, regs := v.regs, mss := v.mss, boot := v.boot, mem := v.mem, freeCtr := v.freeCtr }
  | .erase t | .program t =>
    let u := s.tick t
    v = { u with
      regs := v.regs, evt := v.evt, boot := v.boot, intAt := v.intAt, outbox := v.outbox, freeCtr := v.freeCtr } ∧
    KeepsRegs u v (notices [11, 12] ++ [Reg.SCC_FLASH_CTL.ofs, Reg.SCC_FLASH_STATUS.ofs]) []
  | .flashOpDone t _ =>
    let u := s.tick t
    v = { u with regs := v.regs, boot := v.boot, flash := v.flash, freeCtr := v.freeCtr } ∧
    KeepsRegs u v [Reg.SCC_FLASH_STATUS.ofs] []
  | .reboot t =>
    let u := s.tick t
    v = { u with
      regs := v.regs, evt := v.evt, boot := v.boot, intAt := v.intAt, outbox := v.outbox, freeCtr := v.freeCtr } ∧
    KeepsRegs u v (notices [11, 12] ++ [Reg.SCC_BOOT_CTL.ofs]) []
  | .advance t =>
    let u := s.tick t
    v = { u with
      regs := v.regs, evt := v.evt, boot := v.boot, intAt := v.intAt, outbox := v.outbox, freeCtr := v.freeCtr } ∧
    KeepsRegs u v (notices [11, 12] ++ [Reg.SCC_BOOT_CTL.ofs, Reg.SCC_FUSE_STATUS.ofs]) []
  | .keyHash t _ | .revoke t _ | .vendorDisable t | .dbgClose t | .lifecycleRetired t =>
    let u := s.tick t
    v = { u with
      regs := v.regs, evt := v.evt, boot := v.boot, intAt := v.intAt, outbox := v.outbox, freeCtr := v.freeCtr } ∧
    KeepsRegs u v (notices [11, 12] ++ [Reg.SCC_FUSE_CTL.ofs, Reg.SCC_FUSE_STATUS.ofs]) []
  | .fuseDone t _ =>
    let u := s.tick t
    v = { u with regs := v.regs, boot := v.boot, fuses := v.fuses, freeCtr := v.freeCtr } ∧
    KeepsRegs u v [Reg.SCC_FUSE_STATE.ofs, Reg.SCC_FUSE_STATUS.ofs] []
  | .kprHoldRise t =>
    let u := s.tick t
    v = { u with boot := v.boot }
  | .htpSample t _ =>
    let u := s.tick t
    v = { u with
      regs := v.regs, evt := v.evt, hif := v.hif, htp := v.htp, intAt := v.intAt, outbox := v.outbox, freeCtr := v.freeCtr } ∧
    KeepsRegs u v (notices [12] ++ [Reg.HIF_CNT_AEV_DROP.ofs, (Reg.HIF_CQ_TAIL 0).ofs, Reg.HTP_POLLARD_STATUS.ofs,
      Reg.HTP_SHUTDOWN_STATUS.ofs]) [Reg.DEV_PATH_SHED, Reg.HTP_ZONE, Reg.HTP_ZONE_RAW, Reg.UNIT_STATE]
  | .shutdownWindowEnd t _ =>
    let u := s.tick t
    v = { u with regs := v.regs, hif := v.hif, boot := v.boot, outbox := v.outbox } ∧
    KeepsRegs u v [Reg.HIF_LINK_STATUS.ofs, (Reg.HTP_KPR_RET 0).ofs, (Reg.HTP_KPR_RET 1).ofs, (Reg.HTP_KPR_RET 2).ofs,
      (Reg.HTP_KPR_RET 3).ofs, (Reg.HTP_KPR_RET 4).ofs, (Reg.HTP_KPR_RET 5).ofs, (Reg.HTP_KPR_RET 6).ofs, (Reg.HTP_KPR_RET
      63).ofs, (Reg.HTP_KPR_RET 7).ofs] [Reg.MSS_CH_STATUS]
  | .readmit t _ =>
    let u := s.tick t
    v = { u with
      regs := v.regs, evt := v.evt, htp := v.htp, intAt := v.intAt, outbox := v.outbox, freeCtr := v.freeCtr } ∧
    KeepsRegs u v (notices [12] ++ [Reg.HTP_ZONE_CTL.ofs]) [Reg.HTP_ZONE]
  | .lifeTick t =>
    let u := s.tick t
    v = { u with regs := v.regs, htp := v.htp } ∧
    KeepsRegs u v [Reg.HTP_LIFE_USED_HI.ofs, Reg.HTP_LIFE_USED_LO.ofs] []
  | .ageMonitorUpdate t z _ =>
    let u := s.tick t
    v = { u with
      regs := v.regs, evt := v.evt, htp := v.htp, intAt := v.intAt, outbox := v.outbox, freeCtr := v.freeCtr } ∧
    KeepsRegs u v (notices [12] ++ [(Reg.HTP_AGE z).ofs]) []
  | .vmonSample t i _ =>
    let u := s.tick t
    v = { u with
      regs := v.regs, evt := v.evt, htp := v.htp, intAt := v.intAt, outbox := v.outbox, freeCtr := v.freeCtr } ∧
    KeepsRegs u v (notices [12] ++ [(Reg.HTP_VMON i).ofs]) []
  | .powerTransitionDone t =>
    let u := s.tick t
    v = { u with
      regs := v.regs, units := v.units, mss := v.mss, hif := v.hif, htp := v.htp, boot := v.boot, intAt := v.intAt, mem := v.mem,
      outbox := v.outbox } ∧
    KeepsRegs u v (notices [12] ++ [(Reg.HIF_CQ_TAIL 0).ofs, Reg.HIF_LINK_STATUS.ofs, (Reg.HTP_KPR_RET 0).ofs, (Reg.HTP_KPR_RET
      1).ofs, (Reg.HTP_KPR_RET 2).ofs, (Reg.HTP_KPR_RET 3).ofs, (Reg.HTP_KPR_RET 4).ofs, (Reg.HTP_KPR_RET 5).ofs, (Reg.HTP_KPR_RET
      6).ofs, (Reg.HTP_KPR_RET 63).ofs, (Reg.HTP_KPR_RET 7).ofs, Reg.HTP_PWR_STATUS.ofs]) [Reg.HIF_QP_STATUS, Reg.MSS_CH_STATUS,
      Reg.UNIT_STATE]
  | .gaugeSnap t =>
    let u := s.tick t
    v = { u with
      regs := v.regs, evt := v.evt, htp := v.htp, intAt := v.intAt, outbox := v.outbox, freeCtr := v.freeCtr } ∧
    KeepsRegs u v (notices [12] ++ [Reg.HTP_GAUGE_CTL.ofs]) [fun i => Reg.HTP_GAUGE_BIN (i / 64) (i % 64), Reg.HTP_GAUGE_COUNT_HI,
      Reg.HTP_GAUGE_COUNT_LO, Reg.HTP_GAUGE_MAX, Reg.HTP_GAUGE_MIN, Reg.HTP_GAUGE_SUM_HI, Reg.HTP_GAUGE_SUM_LO]
  | .gaugeCfgWrite t g _ _ =>
    let u := s.tick t
    v = { u with
      regs := v.regs, evt := v.evt, htp := v.htp, intAt := v.intAt, outbox := v.outbox, freeCtr := v.freeCtr } ∧
    KeepsRegs u v (notices [12] ++ [(Reg.HTP_GAUGE_CFG g).ofs, (Reg.HTP_GAUGE_ORIGIN g).ofs, (Reg.HTP_GAUGE_WIDTH g).ofs]) []
  | .graftReq t x =>
    let u := s.tick t
    v = { u with
      regs := v.regs, paths := v.paths, units := v.units, evt := v.evt, intAt := v.intAt, outbox := v.outbox, freeCtr := v.freeCtr } ∧
    KeepsRegs u v (notices [12, x.id] ++ [(Reg.UNIT_CTL x.id).ofs]) [Reg.DEV_PATH_SHED]
  | .graftPoint t x _ | .unitRemoval t x _ =>
    let u := s.tick t
    v = { u with
      regs := v.regs, paths := v.paths, units := v.units, evt := v.evt, pool := v.pool, locks := v.locks, mss := v.mss,
      clip := v.clip, slr := v.slr, rfe := v.rfe, cse := v.cse, pcd := v.pcd, rpk := v.rpk, ore := v.ore, intAt := v.intAt,
      mem := v.mem, outbox := v.outbox, freeCtr := v.freeCtr } ∧
    KeepsRegs u v (notices (List.range 13) ++ [Reg.RFE_CNT_CONCEAL.ofs, Reg.SCC_CNT_ABANDONED.ofs, Reg.SCC_CNT_PARTIAL_DROP.ofs, Reg.SCC_CP_FREE.ofs, (Reg.UNIT_STATE x.id).ofs])
      [Reg.MSS_CNT_CONCEAL, Reg.MSS_CNT_COP_BUDGET, Reg.MSS_CNT_COP_UNAVAIL, Reg.MSS_REEL_FREE, Reg.RPK_CNT_FLUSHED, Reg.SCC_CPQ_ITEMS, Reg.SCC_CPQ_STATUS]
  | .graftLoadDone t x =>
    let u := s.tick t
    v = { u with
      regs := v.regs, paths := v.paths, units := v.units, evt := v.evt, mss := v.mss, intAt := v.intAt, outbox := v.outbox } ∧
    KeepsRegs u v (notices [] ++ [Reg.DEV_GRAFT_STATUS.ofs, (Reg.UNIT_CTL x.id).ofs, (Reg.UNIT_STATE x.id).ofs]) [Reg.DEV_PATH_SHED]
  | .unitFreeze t x _ =>
    let u := s.tick t
    v = { u with regs := v.regs, evt := v.evt, intAt := v.intAt, outbox := v.outbox, freeCtr := v.freeCtr } ∧
    KeepsRegs u v (notices [12, x.id] ++ [(Reg.UNIT_CTL x.id).ofs, (Reg.UNIT_STATE x.id).ofs]) []
  | .drainEnd t _ =>
    let u := s.tick t
    v.pending = u.pending ∧ v.variant = u.variant ∧ v.now = u.now ∧ v.media = u.media ∧ v.idle = u.idle ∧ v.checks = u.checks ∧
      v.snap = u.snap ∧ v.boot = u.boot ∧ v.flash = u.flash ∧ v.fuses = u.fuses ∧ v.gpioPulse = u.gpioPulse ∧
      v.freeCtr = u.freeCtr
  | .snapRequest t =>
    let u := s.tick t
    v = { u with
      regs := v.regs, evt := v.evt, snap := v.snap, intAt := v.intAt, outbox := v.outbox, freeCtr := v.freeCtr } ∧
    KeepsRegs u v (notices [12] ++ [Reg.DEV_SNAP_CTL.ofs]) []
  | .snapDone t =>
    let u := s.tick t
    v = { u with
      regs := v.regs, snap := v.snap, mss := v.mss, hif := v.hif, intAt := v.intAt, mem := v.mem, outbox := v.outbox,
      freeCtr := v.freeCtr } ∧
    KeepsRegs u v (notices []) []
  | .eventRecordWrite t =>
    let u := s.tick t
    v = { u with regs := v.regs, evt := v.evt, mss := v.mss, mem := v.mem } ∧
    KeepsRegs u v [Reg.DEV_EVLOG_SEQ.ofs] [fun i => Reg.HTP_KPR_EVT (i / 8) (i % 8), Reg.UNIT_ERR_COUNT, Reg.UNIT_EVENT_SEQ]
  | .intStatusClear t x _ =>
    let u := s.tick t
    v = { u with regs := v.regs, evt := v.evt, intAt := v.intAt, outbox := v.outbox, freeCtr := v.freeCtr } ∧
    KeepsRegs u v (notices [12] ++ [(intReg x).ofs]) []
  | .intForce t x _ =>
    let u := s.tick t
    v = { u with regs := v.regs, evt := v.evt, intAt := v.intAt, outbox := v.outbox, freeCtr := v.freeCtr } ∧
    KeepsRegs u v (notices (List.range 13) ++ [Reg.DEV_EVT_FORCE.ofs, (Reg.UNIT_INT_FORCE x).ofs]) []
  | .unitViewWrite t _ _ _ =>
    let u := s.tick t
    v = { u with
      regs := v.regs, views := v.views, evt := v.evt, intAt := v.intAt, outbox := v.outbox, freeCtr := v.freeCtr } ∧
    KeepsRegs u v (notices [12]) []
  | .sapwoodWatchdog t _ =>
    let u := s.tick t
    v = { u with
      regs := v.regs, evt := v.evt, locks := v.locks, intAt := v.intAt, outbox := v.outbox, freeCtr := v.freeCtr } ∧
    KeepsRegs u v (notices [11]) []
  | .kprHoldFall t =>
    let u := s.tick t
    v = { u with regs := v.regs, mss := v.mss, boot := v.boot, mem := v.mem, outbox := v.outbox } ∧
    KeepsRegs u v [(Reg.HTP_KPR_RET 1).ofs] []
  | .gaugePeriodicSample t _ =>
    let u := s.tick t
    v = { u with htp := v.htp }
  | .mediaTimeSecond t | .gpioPulseEnd t _ =>
    let u := s.tick t
    v = { u with regs := v.regs, gpioPulse := v.gpioPulse, gpioOut := v.gpioOut, outbox := v.outbox } ∧
    KeepsRegs u v [Reg.DEV_GPIO_IN.ofs] []
  | _ => True

/-! ### The queue, reset, and what every step keeps -/

/-- A step runs the command at the front of the queue on the state with the rest of the queue. On an empty queue the block idles: that
is the model's choice (log entry 1). -/
def Obligations.StepRunsFront : Prop :=
  ∀ (s : State) (c : Instr) (rest : List Instr),
    step { s with pending := c :: rest } = exec c { s with pending := rest } ∧ (s.pending = [] → step s = .next s)

/-- The state before SYS_RST_N is released: every register at its reset value, of which some are written out from the register tables of
chapters 2, 13, 17 and 18; no lock held, no plan, nothing booted; DRAM in canonical form. The variant and an unwritten DRAM byte are the
model's choice (log entries 3 and 5). -/
def Obligations.ResetState : Prop :=
  State.reset.memOk = true ∧ State.reset.pending = [] ∧ State.reset.plan = Plan.empty ∧ State.reset.cs = none ∧
  State.reset.boot.stage = .held ∧ State.reset.boot.busOpen = false ∧
  (∀ ofs, State.reset.reg ofs = Regs.resetOf ofs ∧ State.reset.shadowReg ofs = Regs.resetOf ofs) ∧
  (∀ n : Fin 256, State.reset.locks[n].st = .free) ∧ (∀ n, State.reset.fuse n = Config.fuseBit n) ∧
  State.reset.get Reg.DEV_LDG_CTL = 0x0A030401 ∧ State.reset.get Reg.HTP_POLLARD_CFG = 0x0A030000 ∧
  State.reset.get Reg.HTP_THR_LOW = 0xFDD0FD30 ∧ State.reset.get Reg.HTP_THR_HIGH = 0x06600620 ∧ State.reset.get Reg.HTP_THR_CRIT = 0x700 ∧
  State.reset.get Reg.MSS_ARB_CFG = 0x00100100 ∧ (∀ x : UnitId, State.reset.get (Reg.UNIT_DRAIN_TIME_DRAIN_US x.id) = 20 ∧ State.reset.enabled x = false)

/-- DRAM is kept in its one canonical form: every step keeps it, whatever the command and the state. -/
def Obligations.DramStaysCanonical : Prop :=
  ∀ s s' : State, s.memOk = true → step s = .next s' → s'.memOk = true

/-- What every step keeps: a blown fuse bit stays blown (R416), the clock never goes back, the variant stays fitted, and a step takes one
command from the queue and puts none into it. -/
def Obligations.EveryStepKeeps : Prop :=
  ∀ s s' : State, step s = .next s' →
    (∀ n, s.fuse n = true → s'.fuse n = true) ∧ s.now ≤ s'.now ∧ s'.variant = s.variant ∧ s'.pending = s.pending.tail
end

