-- ==== Sys2Proof/Laws/SMap.lean ====
section
/-!
SUPPORT. Sparse maps: reading back what was stored, and the canonical form.
-/

namespace Sys2Proof.Machine

theorem SMap.lookup_insert_self {α : Type} (m : SMap α) (k : Nat) (v : α) : SMap.lookup (SMap.insert m k v) k = some v := by
  induction m with
  | nil => simp [SMap.insert, SMap.lookup]
  | cons h t ih =>
    obtain ⟨a, b⟩ := h
    simp only [SMap.insert]
    split
    · simp [SMap.lookup]
    · split
      · simp [SMap.lookup]
      · simp [SMap.lookup, *]

theorem SMap.lookup_insert_ne {α : Type} (m : SMap α) {k j : Nat} (v : α) (h : j ≠ k) :
    SMap.lookup (SMap.insert m k v) j = SMap.lookup m j := by
  induction m with
  | nil => simp [SMap.insert, SMap.lookup, Ne.symm h]
  | cons hd t ih =>
    obtain ⟨a, b⟩ := hd
    simp only [SMap.insert]
    split
    · simp [SMap.lookup, Ne.symm h]
    · split
      · next e => subst e; simp [SMap.lookup, Ne.symm h]
      · simp [SMap.lookup, ih]

theorem SMap.lookup_erase_self {α : Type} (m : SMap α) (k : Nat) : SMap.lookup (SMap.erase m k) k = none := by
  induction m with
  | nil => simp [SMap.erase, SMap.lookup]
  | cons h t ih =>
    obtain ⟨a, b⟩ := h
    simp only [SMap.erase]
    split
    · exact ih
    · simp [SMap.lookup, *]

theorem SMap.lookup_erase_ne {α : Type} (m : SMap α) {k j : Nat} (h : j ≠ k) : SMap.lookup (SMap.erase m k) j = SMap.lookup m j := by
  induction m with
  | nil => simp [SMap.erase]
  | cons hd t ih =>
    obtain ⟨a, b⟩ := hd
    simp only [SMap.erase]
    split
    · next e => subst e; simp [SMap.lookup, Ne.symm h, ih]
    · simp [SMap.lookup, ih]

theorem SMap.getD_setD_self {α : Type} [DecidableEq α] (m : SMap α) (d : α) (k : Nat) (v : α) : SMap.getD (SMap.setD m d k v) d k = v := by
  simp only [SMap.getD, SMap.setD]
  split
  · next e => simp [SMap.lookup_erase_self, e]
  · simp [SMap.lookup_insert_self]

theorem SMap.lookup_setD_ne {α : Type} [DecidableEq α] (m : SMap α) (d : α) {k j : Nat} (v : α) (h : j ≠ k) :
    SMap.lookup (SMap.setD m d k v) j = SMap.lookup m j := by
  simp only [SMap.setD]
  split
  · exact SMap.lookup_erase_ne m h
  · exact SMap.lookup_insert_ne m v h

theorem SMap.getD_setD_ne {α : Type} [DecidableEq α] (m : SMap α) (d e : α) {k j : Nat} (v : α) (h : j ≠ k) :
    SMap.getD (SMap.setD m d k v) e j = SMap.getD m e j := by
  simp [SMap.getD, SMap.lookup_setD_ne m d v h]

/-! ### The canonical form -/

/-- Keys strictly rising, said pairwise. -/
theorem SMap.wf_iff {α : Type} (m : SMap α) : SMap.wf m = true ↔ m.Pairwise (fun a b => a.1 < b.1) := by
  induction m with
  | nil => simp [SMap.wf]
  | cons x t ih =>
    cases t with
    | nil => simp [SMap.wf]
    | cons y u =>
      obtain ⟨a, b⟩ := x
      obtain ⟨c, d⟩ := y
      simp only [SMap.wf, Bool.and_eq_true, decide_eq_true_eq, ih]
      rw [List.pairwise_cons (a := (a, b))]
      constructor
      · rintro ⟨h1, h2⟩
        refine ⟨?_, h2⟩
        intro e he
        rw [List.pairwise_cons] at h2
        rcases List.mem_cons.mp he with rfl | hm
        · exact h1
        · exact Nat.lt_trans h1 (h2.1 e hm)
      · rintro ⟨h1, h2⟩
        exact ⟨h1 (c, d) (List.mem_cons_self ..), h2⟩

theorem SMap.mem_insert {α : Type} (m : SMap α) (k : Nat) (v : α) (e : Nat × α) (h : e ∈ SMap.insert m k v) : e = (k, v) ∨ e ∈ m := by
  induction m with
  | nil => simpa [SMap.insert] using h
  | cons hd t ih =>
    obtain ⟨a, b⟩ := hd
    simp only [SMap.insert] at h
    split at h
    · simpa using h
    · split at h
      · rcases List.mem_cons.mp h with h | h
        · exact .inl h
        · exact .inr (List.mem_cons_of_mem _ h)
      · rcases List.mem_cons.mp h with h | h
        · exact .inr (h ▸ List.mem_cons_self ..)
        · exact (ih h).imp id (List.mem_cons_of_mem _)

theorem SMap.wf_insert {α : Type} (m : SMap α) (k : Nat) (v : α) (h : SMap.wf m = true) : SMap.wf (SMap.insert m k v) = true := by
  rw [SMap.wf_iff] at *
  induction m with
  | nil => simp [SMap.insert]
  | cons hd t ih =>
    obtain ⟨a, b⟩ := hd
    have ht := List.pairwise_cons.mp h
    simp only [SMap.insert]
    split
    · next hk =>
      refine List.pairwise_cons.mpr ⟨?_, h⟩
      intro e he
      rcases List.mem_cons.mp he with rfl | hm
      · exact hk
      · exact Nat.lt_trans hk (ht.1 e hm)
    · split
      · next hk => subst hk; exact List.pairwise_cons.mpr ⟨ht.1, ht.2⟩
      · refine List.pairwise_cons.mpr ⟨?_, ih ht.2⟩
        intro e he
        rcases SMap.mem_insert t k v e he with rfl | hm
        · simp only at *; omega
        · exact ht.1 e hm

theorem SMap.erase_sublist {α : Type} (m : SMap α) (k : Nat) : List.Sublist (SMap.erase m k) m := by
  induction m with
  | nil => simp [SMap.erase]
  | cons hd t ih =>
    obtain ⟨a, b⟩ := hd
    simp only [SMap.erase]
    split
    · exact List.Sublist.cons _ ih
    · exact List.Sublist.cons_cons _ ih

theorem SMap.wf_erase {α : Type} (m : SMap α) (k : Nat) (h : SMap.wf m = true) : SMap.wf (SMap.erase m k) = true := by
  rw [SMap.wf_iff] at *
  exact h.sublist (SMap.erase_sublist m k)

theorem SMap.wf_keep {α : Type} (m : SMap α) (p : Nat → Bool) (h : SMap.wf m = true) : SMap.wf (SMap.keep m p) = true := by
  rw [SMap.wf_iff] at *
  exact h.sublist List.filter_sublist

theorem SMap.wf_setD {α : Type} [DecidableEq α] (m : SMap α) (d : α) (k : Nat) (v : α) (h : SMap.wf m = true) :
    SMap.wf (SMap.setD m d k v) = true := by
  simp only [SMap.setD]
  split
  · exact SMap.wf_erase m k h
  · exact SMap.wf_insert m k v h

end Sys2Proof.Machine
end

