-- ==== Sys2Proof/Laws/Mem.lean ====
section
/-!
SUPPORT. DRAM: what a write leaves to be read, and that every memory operation keeps the canonical form.
-/

namespace Sys2Proof.Machine

theorem Memory.wf_setD (epoch : Nat) (m : List Host.Cell) (a : Nat) (x : Byte) (h : Memory.wf epoch m = true) :
    Memory.wf epoch (SMap.setD m (Config.unwrittenDram epoch a) a x) = true := by
  simp only [Memory.wf, Bool.and_eq_true, List.all_eq_true, bne_iff_ne] at *
  refine ⟨SMap.wf_setD m _ a x h.1, ?_⟩
  intro e he
  simp only [SMap.setD] at he
  split at he
  · exact h.2 e ((SMap.erase_sublist m a).subset he)
  · next hne =>
    rcases SMap.mem_insert m a x e he with rfl | hm
    · exact hne
    · exact h.2 e hm

theorem Memory.wf_writeBytes (epoch : Nat) (b : List Byte) : ∀ (m : List Host.Cell) (a : Nat), Memory.wf epoch m = true →
    Memory.wf epoch (writeBytes epoch m a b) = true := by
  induction b with
  | nil => intro m a h; exact h
  | cons x t ih => intro m a h; exact ih _ _ (Memory.wf_setD epoch m a x h)

/-- A write keeps the canonical form. -/
theorem State.memOk_write (s : State) (a : Nat) (b : List Byte) (h : s.memOk = true) : (s.write a b).memOk = true :=
  Memory.wf_writeBytes s.mss.epoch b s.mem a h

/-- A write of one byte keeps the canonical form. -/
theorem State.memOk_writeByte (s : State) (a : Nat) (b : Byte) (h : s.memOk = true) : (s.writeByte a b).memOk = true :=
  Memory.wf_setD s.mss.epoch s.mem a b h

/-- A loss of the contents keeps the canonical form. -/
theorem State.memOk_loseDram (s : State) : s.loseDram.memOk = true := by simp [State.memOk, State.loseDram, Memory.wf, SMap.wf]

theorem lookup_writeBytes_outside (epoch : Nat) (b : List Byte) : ∀ (m : List Host.Cell) (a x : Nat), x < a ∨ a + b.length ≤ x →
    SMap.lookup (writeBytes epoch m a b) x = SMap.lookup m x := by
  induction b with
  | nil => intro m a x _; rfl
  | cons y t ih =>
    intro m a x h
    simp only [List.length_cons] at h
    rw [writeBytes, ih _ _ _ (by omega)]
    exact SMap.lookup_setD_ne m _ y (by omega)

/-- A byte outside a write reads as before. -/
theorem State.readByte_write_outside (s : State) (a x : Nat) (b : List Byte) (h : x < a ∨ a + b.length ≤ x) :
    (s.write a b).readByte x = s.readByte x := by
  have := lookup_writeBytes_outside s.mss.epoch b s.mem a x h
  simp [State.readByte, State.write, State.unpoison, this]

theorem getD_writeBytes_inside (epoch : Nat) (b : List Byte) : ∀ (m : List Host.Cell) (a i : Nat) (h : i < b.length),
    SMap.getD (writeBytes epoch m a b) (Config.unwrittenDram epoch (a + i)) (a + i) = b[i] := by
  induction b with
  | nil => intro m a i h; simp at h
  | cons y t ih =>
    intro m a i h
    cases i with
    | zero =>
      simp only [writeBytes, Nat.add_zero, List.getElem_cons_zero, SMap.getD]
      rw [lookup_writeBytes_outside epoch t _ (a + 1) a (by omega)]
      exact SMap.getD_setD_self m _ a y
    | succ j =>
      have := ih (SMap.setD m (Config.unwrittenDram epoch a) a y) (a + 1) j (by simpa using h)
      simp only [writeBytes, List.getElem_cons_succ]
      rw [← this, show a + (j + 1) = a + 1 + j by omega]

/-- A byte inside a write reads as written. -/
theorem State.readByte_write_inside (s : State) (a i : Nat) (b : List Byte) (h : i < b.length) :
    (s.write a b).readByte (a + i) = b[i] :=
  getD_writeBytes_inside s.mss.epoch b s.mem a i h

end Sys2Proof.Machine
end

