-- ==== Sys2Proof/Laws/Reg.lean ====
section
/-!
SUPPORT. Registers and their fields: what a store leaves to be read.
-/

namespace Sys2Proof.Machine

/-- A field of a register lies in its 32 bits. -/
def Fld.ok (f : Fld) : Prop := f.lo ≤ f.hi ∧ f.hi < 32

/-- Two fields share no bit. -/
def Fld.apart (f g : Fld) : Prop := f.ofs ≠ g.ofs ∨ f.hi < g.lo ∨ g.hi < f.lo

/-! ### Whole registers -/

@[simp] theorem State.reg_setReg (s : State) (o : Nat) (w : Word) : (s.setReg o w).reg o = w := SMap.getD_setD_self ..

theorem State.reg_setReg_ne (s : State) {o p : Nat} (w : Word) (h : p ≠ o) : (s.setReg o w).reg p = s.reg p :=
  SMap.getD_setD_ne _ _ _ w h

@[simp] theorem State.shadowReg_setShadow (s : State) (o : Nat) (w : Word) : (s.setShadow o w).shadowReg o = w := SMap.getD_setD_self ..

theorem State.shadowReg_setShadow_ne (s : State) {o p : Nat} (w : Word) (h : p ≠ o) : (s.setShadow o w).shadowReg p = s.shadowReg p :=
  SMap.getD_setD_ne _ _ _ w h

/-! ### Bit fields -/

/-- A number in three parts at a field: below, the field, above. -/
theorem field_split (v P Q : Nat) : v = v % P + P * (v / P % Q + Q * (v / P / Q)) := by
  rw [Nat.mod_add_div, Nat.mod_add_div]

theorem setBits_split (v hi lo x : Nat) :
    setBits v hi lo x = v % 2 ^ lo + 2 ^ lo * (x % 2 ^ (hi + 1 - lo) + 2 ^ (hi + 1 - lo) * (v / 2 ^ lo / 2 ^ (hi + 1 - lo))) := by
  have h := field_split v (2 ^ lo) (2 ^ (hi + 1 - lo))
  simp only [setBits, bits]
  generalize v % 2 ^ lo = a at *
  generalize v / 2 ^ lo % 2 ^ (hi + 1 - lo) = b at *
  generalize v / 2 ^ lo / 2 ^ (hi + 1 - lo) = c at *
  generalize x % 2 ^ (hi + 1 - lo) = d at *
  rw [Nat.mul_add] at *
  rw [Nat.mul_comm b, Nat.mul_comm d]
  omega

/-- The field that was set reads as the value's low bits. -/
theorem bits_setBits_self (v hi lo x : Nat) : bits (setBits v hi lo x) hi lo = x % 2 ^ (hi + 1 - lo) := by
  rw [setBits_split, bits, Nat.add_mul_div_left _ _ (Nat.two_pow_pos lo), Nat.div_eq_of_lt (Nat.mod_lt _ (Nat.two_pow_pos lo)), Nat.zero_add,
    Nat.add_mul_mod_self_left, Nat.mod_mod]

/-- A field above the one that was set is as before. -/
theorem bits_setBits_above (v hi lo x gh gl : Nat) (h0 : lo ≤ hi) (h : hi < gl) : bits (setBits v hi lo x) gh gl = bits v gh gl := by
  have e : setBits v hi lo x / 2 ^ (hi + 1) = v / 2 ^ (hi + 1) := by
    have : (2 : Nat) ^ (hi + 1) = 2 ^ lo * 2 ^ (hi + 1 - lo) := by rw [← Nat.pow_add]; congr 1; omega
    rw [this, ← Nat.div_div_eq_div_mul, ← Nat.div_div_eq_div_mul, setBits_split, Nat.add_mul_div_left _ _ (Nat.two_pow_pos lo),
      Nat.div_eq_of_lt (Nat.mod_lt _ (Nat.two_pow_pos lo)), Nat.zero_add, Nat.add_mul_div_left _ _ (Nat.two_pow_pos _),
      Nat.div_eq_of_lt (Nat.mod_lt _ (Nat.two_pow_pos _)), Nat.zero_add]
  have p : (2 : Nat) ^ gl = 2 ^ (hi + 1) * 2 ^ (gl - (hi + 1)) := by rw [← Nat.pow_add]; congr 1; omega
  rw [bits, bits, p, ← Nat.div_div_eq_div_mul, ← Nat.div_div_eq_div_mul, e]

/-- A field below the one that was set is as before. -/
theorem bits_setBits_below (v hi lo x gh gl : Nat) (h : gh < lo) : bits (setBits v hi lo x) gh gl = bits v gh gl := by
  have red : ∀ w, bits w gh gl = bits (w % 2 ^ lo) gh gl := by
    intro w
    by_cases hg : gl ≤ gh + 1
    · have p : (2 : Nat) ^ lo = 2 ^ gl * (2 ^ (gh + 1 - gl) * 2 ^ (lo - (gh + 1))) := by
        rw [← Nat.pow_add, ← Nat.pow_add]; congr 1; omega
      rw [bits, bits, p, Nat.mod_mul_right_div_self, Nat.mod_mul_right_mod]
    · have : gh + 1 - gl = 0 := by omega
      simp [bits, this, Nat.mod_one]
  rw [red, red v, setBits_split, Nat.add_mul_mod_self_left, Nat.mod_mod]

/-- Bits below 32 of a number taken mod 2^32. -/
theorem bits_mod (v hi lo : Nat) (h : hi < 32) : bits (v % 2 ^ 32) hi lo = bits v hi lo := by
  by_cases hg : lo ≤ hi + 1
  · have p : (2 : Nat) ^ 32 = 2 ^ lo * (2 ^ (hi + 1 - lo) * 2 ^ (32 - (hi + 1))) := by
      rw [← Nat.pow_add, ← Nat.pow_add]; congr 1; omega
    rw [bits, bits, p, Nat.mod_mul_right_div_self, Nat.mod_mul_right_mod]
  · have : hi + 1 - lo = 0 := by omega
    simp [bits, this, Nat.mod_one]

/-! ### Fields of registers -/

theorem State.get_setReg (s : State) (f : Fld) (w : Word) : (s.setReg f.ofs w).get f = bits w.toNat f.hi f.lo := by
  simp [State.get]

/-- A field that was stored reads as the value's low bits. -/
theorem State.get_put_self (s : State) (f : Fld) (v : Nat) (h : f.hi < 32) : (s.put f v).get f = v % 2 ^ (f.hi + 1 - f.lo) := by
  simp only [State.put, State.get, State.reg_setReg, BitVec.toNat_ofNat]
  rw [bits_mod _ _ _ h, bits_setBits_self]

/-- A field that shares no bit with the one stored is as before. -/
theorem State.get_put_apart (s : State) (f g : Fld) (v : Nat) (hf : f.lo ≤ f.hi) (hg : g.hi < 32) (h : f.apart g) :
    (s.put f v).get g = s.get g := by
  by_cases e : g.ofs = f.ofs
  · rcases h with h | h | h
    · exact absurd e.symm h
    · simp only [State.put, State.get, e, State.reg_setReg, BitVec.toNat_ofNat]
      rw [bits_mod _ _ _ hg, bits_setBits_above _ _ _ _ _ _ hf h]
    · simp only [State.put, State.get, e, State.reg_setReg, BitVec.toNat_ofNat]
      rw [bits_mod _ _ _ hg, bits_setBits_below _ _ _ _ _ _ h]
  · simp only [State.put, State.get, State.reg_setReg_ne _ _ e]

/-- A register of another offset is as before. -/
theorem State.reg_put_ne (s : State) (f : Fld) (v : Nat) {p : Nat} (h : p ≠ f.ofs) : (s.put f v).reg p = s.reg p :=
  State.reg_setReg_ne s _ h

theorem State.get_put_other (s : State) (f g : Fld) (v : Nat) (h : g.ofs ≠ f.ofs) : (s.put f v).get g = s.get g := by
  simp only [State.get, State.reg_put_ne s f v h]

@[simp] theorem State.puts_nil (s : State) : s.puts [] = s := rfl

@[simp] theorem State.puts_cons (s : State) (f : Fld) (v : Nat) (l : List (Fld × Nat)) : s.puts ((f, v) :: l) = (s.put f v).puts l := rfl

/-- Registers at other offsets than those stored are as before. -/
theorem State.reg_puts_ne (l : List (Fld × Nat)) : ∀ (s : State) {p : Nat}, p ∉ l.map (fun e => e.1.ofs) → (s.puts l).reg p = s.reg p := by
  induction l with
  | nil => intro s p _; rfl
  | cons e t ih =>
    intro s p h
    obtain ⟨f, v⟩ := e
    simp only [List.map_cons, List.mem_cons, not_or] at h
    rw [State.puts_cons, ih _ h.2, State.reg_put_ne s f v h.1]

end Sys2Proof.Machine
end

