-- ==== Sys2Proof/Laws/State.lean ====
section
/-!
SUPPORT. What each basic update of the state leaves as it was, field by field.
-/

namespace Sys2Proof.Machine

/-! ### Registers -/

@[simp] theorem State.setReg_pending (s : State) (o : Nat) (w : Word) : (s.setReg o w).pending = s.pending := rfl
@[simp] theorem State.setReg_variant (s : State) (o : Nat) (w : Word) : (s.setReg o w).variant = s.variant := rfl
@[simp] theorem State.setReg_now (s : State) (o : Nat) (w : Word) : (s.setReg o w).now = s.now := rfl
@[simp] theorem State.setReg_media (s : State) (o : Nat) (w : Word) : (s.setReg o w).media = s.media := rfl
@[simp] theorem State.setReg_shadow (s : State) (o : Nat) (w : Word) : (s.setReg o w).shadow = s.shadow := rfl
@[simp] theorem State.setReg_views (s : State) (o : Nat) (w : Word) : (s.setReg o w).views = s.views := rfl
@[simp] theorem State.setReg_idle (s : State) (o : Nat) (w : Word) : (s.setReg o w).idle = s.idle := rfl
@[simp] theorem State.setReg_checks (s : State) (o : Nat) (w : Word) : (s.setReg o w).checks = s.checks := rfl
@[simp] theorem State.setReg_cs (s : State) (o : Nat) (w : Word) : (s.setReg o w).cs = s.cs := rfl
@[simp] theorem State.setReg_plan (s : State) (o : Nat) (w : Word) : (s.setReg o w).plan = s.plan := rfl
@[simp] theorem State.setReg_planSeq (s : State) (o : Nat) (w : Word) : (s.setReg o w).planSeq = s.planSeq := rfl
@[simp] theorem State.setReg_paths (s : State) (o : Nat) (w : Word) : (s.setReg o w).paths = s.paths := rfl
@[simp] theorem State.setReg_units (s : State) (o : Nat) (w : Word) : (s.setReg o w).units = s.units := rfl
@[simp] theorem State.setReg_evt (s : State) (o : Nat) (w : Word) : (s.setReg o w).evt = s.evt := rfl
@[simp] theorem State.setReg_snap (s : State) (o : Nat) (w : Word) : (s.setReg o w).snap = s.snap := rfl
@[simp] theorem State.setReg_pool (s : State) (o : Nat) (w : Word) : (s.setReg o w).pool = s.pool := rfl
@[simp] theorem State.setReg_locks (s : State) (o : Nat) (w : Word) : (s.setReg o w).locks = s.locks := rfl
@[simp] theorem State.setReg_mss (s : State) (o : Nat) (w : Word) : (s.setReg o w).mss = s.mss := rfl
@[simp] theorem State.setReg_clip (s : State) (o : Nat) (w : Word) : (s.setReg o w).clip = s.clip := rfl
@[simp] theorem State.setReg_slr (s : State) (o : Nat) (w : Word) : (s.setReg o w).slr = s.slr := rfl
@[simp] theorem State.setReg_rfe (s : State) (o : Nat) (w : Word) : (s.setReg o w).rfe = s.rfe := rfl
@[simp] theorem State.setReg_cal (s : State) (o : Nat) (w : Word) : (s.setReg o w).cal = s.cal := rfl
@[simp] theorem State.setReg_cse (s : State) (o : Nat) (w : Word) : (s.setReg o w).cse = s.cse := rfl
@[simp] theorem State.setReg_pcd (s : State) (o : Nat) (w : Word) : (s.setReg o w).pcd = s.pcd := rfl
@[simp] theorem State.setReg_rpk (s : State) (o : Nat) (w : Word) : (s.setReg o w).rpk = s.rpk := rfl
@[simp] theorem State.setReg_apu (s : State) (o : Nat) (w : Word) : (s.setReg o w).apu = s.apu := rfl
@[simp] theorem State.setReg_rtu (s : State) (o : Nat) (w : Word) : (s.setReg o w).rtu = s.rtu := rfl
@[simp] theorem State.setReg_ore (s : State) (o : Nat) (w : Word) : (s.setReg o w).ore = s.ore := rfl
@[simp] theorem State.setReg_hif (s : State) (o : Nat) (w : Word) : (s.setReg o w).hif = s.hif := rfl
@[simp] theorem State.setReg_htp (s : State) (o : Nat) (w : Word) : (s.setReg o w).htp = s.htp := rfl
@[simp] theorem State.setReg_boot (s : State) (o : Nat) (w : Word) : (s.setReg o w).boot = s.boot := rfl
@[simp] theorem State.setReg_flash (s : State) (o : Nat) (w : Word) : (s.setReg o w).flash = s.flash := rfl
@[simp] theorem State.setReg_fuses (s : State) (o : Nat) (w : Word) : (s.setReg o w).fuses = s.fuses := rfl
@[simp] theorem State.setReg_intAt (s : State) (o : Nat) (w : Word) : (s.setReg o w).intAt = s.intAt := rfl
@[simp] theorem State.setReg_gpioPulse (s : State) (o : Nat) (w : Word) : (s.setReg o w).gpioPulse = s.gpioPulse := rfl
@[simp] theorem State.setReg_gpioOut (s : State) (o : Nat) (w : Word) : (s.setReg o w).gpioOut = s.gpioOut := rfl
@[simp] theorem State.setReg_mem (s : State) (o : Nat) (w : Word) : (s.setReg o w).mem = s.mem := rfl
@[simp] theorem State.setReg_outbox (s : State) (o : Nat) (w : Word) : (s.setReg o w).outbox = s.outbox := rfl
@[simp] theorem State.setReg_freeCtr (s : State) (o : Nat) (w : Word) : (s.setReg o w).freeCtr = s.freeCtr := rfl

@[simp] theorem State.put_pending (s : State) (f : Fld) (v : Nat) : (s.put f v).pending = s.pending := rfl
@[simp] theorem State.put_variant (s : State) (f : Fld) (v : Nat) : (s.put f v).variant = s.variant := rfl
@[simp] theorem State.put_now (s : State) (f : Fld) (v : Nat) : (s.put f v).now = s.now := rfl
@[simp] theorem State.put_media (s : State) (f : Fld) (v : Nat) : (s.put f v).media = s.media := rfl
@[simp] theorem State.put_shadow (s : State) (f : Fld) (v : Nat) : (s.put f v).shadow = s.shadow := rfl
@[simp] theorem State.put_views (s : State) (f : Fld) (v : Nat) : (s.put f v).views = s.views := rfl
@[simp] theorem State.put_idle (s : State) (f : Fld) (v : Nat) : (s.put f v).idle = s.idle := rfl
@[simp] theorem State.put_checks (s : State) (f : Fld) (v : Nat) : (s.put f v).checks = s.checks := rfl
@[simp] theorem State.put_cs (s : State) (f : Fld) (v : Nat) : (s.put f v).cs = s.cs := rfl
@[simp] theorem State.put_plan (s : State) (f : Fld) (v : Nat) : (s.put f v).plan = s.plan := rfl
@[simp] theorem State.put_planSeq (s : State) (f : Fld) (v : Nat) : (s.put f v).planSeq = s.planSeq := rfl
@[simp] theorem State.put_paths (s : State) (f : Fld) (v : Nat) : (s.put f v).paths = s.paths := rfl
@[simp] theorem State.put_units (s : State) (f : Fld) (v : Nat) : (s.put f v).units = s.units := rfl
@[simp] theorem State.put_evt (s : State) (f : Fld) (v : Nat) : (s.put f v).evt = s.evt := rfl
@[simp] theorem State.put_snap (s : State) (f : Fld) (v : Nat) : (s.put f v).snap = s.snap := rfl
@[simp] theorem State.put_pool (s : State) (f : Fld) (v : Nat) : (s.put f v).pool = s.pool := rfl
@[simp] theorem State.put_locks (s : State) (f : Fld) (v : Nat) : (s.put f v).locks = s.locks := rfl
@[simp] theorem State.put_mss (s : State) (f : Fld) (v : Nat) : (s.put f v).mss = s.mss := rfl
@[simp] theorem State.put_clip (s : State) (f : Fld) (v : Nat) : (s.put f v).clip = s.clip := rfl
@[simp] theorem State.put_slr (s : State) (f : Fld) (v : Nat) : (s.put f v).slr = s.slr := rfl
@[simp] theorem State.put_rfe (s : State) (f : Fld) (v : Nat) : (s.put f v).rfe = s.rfe := rfl
@[simp] theorem State.put_cal (s : State) (f : Fld) (v : Nat) : (s.put f v).cal = s.cal := rfl
@[simp] theorem State.put_cse (s : State) (f : Fld) (v : Nat) : (s.put f v).cse = s.cse := rfl
@[simp] theorem State.put_pcd (s : State) (f : Fld) (v : Nat) : (s.put f v).pcd = s.pcd := rfl
@[simp] theorem State.put_rpk (s : State) (f : Fld) (v : Nat) : (s.put f v).rpk = s.rpk := rfl
@[simp] theorem State.put_apu (s : State) (f : Fld) (v : Nat) : (s.put f v).apu = s.apu := rfl
@[simp] theorem State.put_rtu (s : State) (f : Fld) (v : Nat) : (s.put f v).rtu = s.rtu := rfl
@[simp] theorem State.put_ore (s : State) (f : Fld) (v : Nat) : (s.put f v).ore = s.ore := rfl
@[simp] theorem State.put_hif (s : State) (f : Fld) (v : Nat) : (s.put f v).hif = s.hif := rfl
@[simp] theorem State.put_htp (s : State) (f : Fld) (v : Nat) : (s.put f v).htp = s.htp := rfl
@[simp] theorem State.put_boot (s : State) (f : Fld) (v : Nat) : (s.put f v).boot = s.boot := rfl
@[simp] theorem State.put_flash (s : State) (f : Fld) (v : Nat) : (s.put f v).flash = s.flash := rfl
@[simp] theorem State.put_fuses (s : State) (f : Fld) (v : Nat) : (s.put f v).fuses = s.fuses := rfl
@[simp] theorem State.put_intAt (s : State) (f : Fld) (v : Nat) : (s.put f v).intAt = s.intAt := rfl
@[simp] theorem State.put_gpioPulse (s : State) (f : Fld) (v : Nat) : (s.put f v).gpioPulse = s.gpioPulse := rfl
@[simp] theorem State.put_gpioOut (s : State) (f : Fld) (v : Nat) : (s.put f v).gpioOut = s.gpioOut := rfl
@[simp] theorem State.put_mem (s : State) (f : Fld) (v : Nat) : (s.put f v).mem = s.mem := rfl
@[simp] theorem State.put_outbox (s : State) (f : Fld) (v : Nat) : (s.put f v).outbox = s.outbox := rfl
@[simp] theorem State.put_freeCtr (s : State) (f : Fld) (v : Nat) : (s.put f v).freeCtr = s.freeCtr := rfl

@[simp] theorem State.setShadow_pending (s : State) (o : Nat) (w : Word) : (s.setShadow o w).pending = s.pending := rfl
@[simp] theorem State.setShadow_variant (s : State) (o : Nat) (w : Word) : (s.setShadow o w).variant = s.variant := rfl
@[simp] theorem State.setShadow_now (s : State) (o : Nat) (w : Word) : (s.setShadow o w).now = s.now := rfl
@[simp] theorem State.setShadow_media (s : State) (o : Nat) (w : Word) : (s.setShadow o w).media = s.media := rfl
@[simp] theorem State.setShadow_regs (s : State) (o : Nat) (w : Word) : (s.setShadow o w).regs = s.regs := rfl
@[simp] theorem State.setShadow_views (s : State) (o : Nat) (w : Word) : (s.setShadow o w).views = s.views := rfl
@[simp] theorem State.setShadow_idle (s : State) (o : Nat) (w : Word) : (s.setShadow o w).idle = s.idle := rfl
@[simp] theorem State.setShadow_checks (s : State) (o : Nat) (w : Word) : (s.setShadow o w).checks = s.checks := rfl
@[simp] theorem State.setShadow_cs (s : State) (o : Nat) (w : Word) : (s.setShadow o w).cs = s.cs := rfl
@[simp] theorem State.setShadow_plan (s : State) (o : Nat) (w : Word) : (s.setShadow o w).plan = s.plan := rfl
@[simp] theorem State.setShadow_planSeq (s : State) (o : Nat) (w : Word) : (s.setShadow o w).planSeq = s.planSeq := rfl
@[simp] theorem State.setShadow_paths (s : State) (o : Nat) (w : Word) : (s.setShadow o w).paths = s.paths := rfl
@[simp] theorem State.setShadow_units (s : State) (o : Nat) (w : Word) : (s.setShadow o w).units = s.units := rfl
@[simp] theorem State.setShadow_evt (s : State) (o : Nat) (w : Word) : (s.setShadow o w).evt = s.evt := rfl
@[simp] theorem State.setShadow_snap (s : State) (o : Nat) (w : Word) : (s.setShadow o w).snap = s.snap := rfl
@[simp] theorem State.setShadow_pool (s : State) (o : Nat) (w : Word) : (s.setShadow o w).pool = s.pool := rfl
@[simp] theorem State.setShadow_locks (s : State) (o : Nat) (w : Word) : (s.setShadow o w).locks = s.locks := rfl
@[simp] theorem State.setShadow_mss (s : State) (o : Nat) (w : Word) : (s.setShadow o w).mss = s.mss := rfl
@[simp] theorem State.setShadow_clip (s : State) (o : Nat) (w : Word) : (s.setShadow o w).clip = s.clip := rfl
@[simp] theorem State.setShadow_slr (s : State) (o : Nat) (w : Word) : (s.setShadow o w).slr = s.slr := rfl
@[simp] theorem State.setShadow_rfe (s : State) (o : Nat) (w : Word) : (s.setShadow o w).rfe = s.rfe := rfl
@[simp] theorem State.setShadow_cal (s : State) (o : Nat) (w : Word) : (s.setShadow o w).cal = s.cal := rfl
@[simp] theorem State.setShadow_cse (s : State) (o : Nat) (w : Word) : (s.setShadow o w).cse = s.cse := rfl
@[simp] theorem State.setShadow_pcd (s : State) (o : Nat) (w : Word) : (s.setShadow o w).pcd = s.pcd := rfl
@[simp] theorem State.setShadow_rpk (s : State) (o : Nat) (w : Word) : (s.setShadow o w).rpk = s.rpk := rfl
@[simp] theorem State.setShadow_apu (s : State) (o : Nat) (w : Word) : (s.setShadow o w).apu = s.apu := rfl
@[simp] theorem State.setShadow_rtu (s : State) (o : Nat) (w : Word) : (s.setShadow o w).rtu = s.rtu := rfl
@[simp] theorem State.setShadow_ore (s : State) (o : Nat) (w : Word) : (s.setShadow o w).ore = s.ore := rfl
@[simp] theorem State.setShadow_hif (s : State) (o : Nat) (w : Word) : (s.setShadow o w).hif = s.hif := rfl
@[simp] theorem State.setShadow_htp (s : State) (o : Nat) (w : Word) : (s.setShadow o w).htp = s.htp := rfl
@[simp] theorem State.setShadow_boot (s : State) (o : Nat) (w : Word) : (s.setShadow o w).boot = s.boot := rfl
@[simp] theorem State.setShadow_flash (s : State) (o : Nat) (w : Word) : (s.setShadow o w).flash = s.flash := rfl
@[simp] theorem State.setShadow_fuses (s : State) (o : Nat) (w : Word) : (s.setShadow o w).fuses = s.fuses := rfl
@[simp] theorem State.setShadow_intAt (s : State) (o : Nat) (w : Word) : (s.setShadow o w).intAt = s.intAt := rfl
@[simp] theorem State.setShadow_gpioPulse (s : State) (o : Nat) (w : Word) : (s.setShadow o w).gpioPulse = s.gpioPulse := rfl
@[simp] theorem State.setShadow_gpioOut (s : State) (o : Nat) (w : Word) : (s.setShadow o w).gpioOut = s.gpioOut := rfl
@[simp] theorem State.setShadow_mem (s : State) (o : Nat) (w : Word) : (s.setShadow o w).mem = s.mem := rfl
@[simp] theorem State.setShadow_outbox (s : State) (o : Nat) (w : Word) : (s.setShadow o w).outbox = s.outbox := rfl
@[simp] theorem State.setShadow_freeCtr (s : State) (o : Nat) (w : Word) : (s.setShadow o w).freeCtr = s.freeCtr := rfl

/-- A list of stores changes registers alone. -/
theorem State.puts_regs_only (l : List (Fld × Nat)) : ∀ (s : State), ∃ r, s.puts l = { s with regs := r } := by
  induction l with
  | nil => exact fun s => ⟨s.regs, rfl⟩
  | cons e t ih => exact fun s => (ih (s.put e.1 e.2)).imp (fun r h => h)

@[simp] theorem State.puts_pending (s : State) (l : List (Fld × Nat)) : (s.puts l).pending = s.pending := by obtain ⟨r, h⟩ := State.puts_regs_only l s; rw [h]
@[simp] theorem State.puts_variant (s : State) (l : List (Fld × Nat)) : (s.puts l).variant = s.variant := by obtain ⟨r, h⟩ := State.puts_regs_only l s; rw [h]
@[simp] theorem State.puts_now (s : State) (l : List (Fld × Nat)) : (s.puts l).now = s.now := by obtain ⟨r, h⟩ := State.puts_regs_only l s; rw [h]
@[simp] theorem State.puts_media (s : State) (l : List (Fld × Nat)) : (s.puts l).media = s.media := by obtain ⟨r, h⟩ := State.puts_regs_only l s; rw [h]
@[simp] theorem State.puts_shadow (s : State) (l : List (Fld × Nat)) : (s.puts l).shadow = s.shadow := by obtain ⟨r, h⟩ := State.puts_regs_only l s; rw [h]
@[simp] theorem State.puts_views (s : State) (l : List (Fld × Nat)) : (s.puts l).views = s.views := by obtain ⟨r, h⟩ := State.puts_regs_only l s; rw [h]
@[simp] theorem State.puts_idle (s : State) (l : List (Fld × Nat)) : (s.puts l).idle = s.idle := by obtain ⟨r, h⟩ := State.puts_regs_only l s; rw [h]
@[simp] theorem State.puts_checks (s : State) (l : List (Fld × Nat)) : (s.puts l).checks = s.checks := by obtain ⟨r, h⟩ := State.puts_regs_only l s; rw [h]
@[simp] theorem State.puts_cs (s : State) (l : List (Fld × Nat)) : (s.puts l).cs = s.cs := by obtain ⟨r, h⟩ := State.puts_regs_only l s; rw [h]
@[simp] theorem State.puts_plan (s : State) (l : List (Fld × Nat)) : (s.puts l).plan = s.plan := by obtain ⟨r, h⟩ := State.puts_regs_only l s; rw [h]
@[simp] theorem State.puts_planSeq (s : State) (l : List (Fld × Nat)) : (s.puts l).planSeq = s.planSeq := by obtain ⟨r, h⟩ := State.puts_regs_only l s; rw [h]
@[simp] theorem State.puts_paths (s : State) (l : List (Fld × Nat)) : (s.puts l).paths = s.paths := by obtain ⟨r, h⟩ := State.puts_regs_only l s; rw [h]
@[simp] theorem State.puts_units (s : State) (l : List (Fld × Nat)) : (s.puts l).units = s.units := by obtain ⟨r, h⟩ := State.puts_regs_only l s; rw [h]
@[simp] theorem State.puts_evt (s : State) (l : List (Fld × Nat)) : (s.puts l).evt = s.evt := by obtain ⟨r, h⟩ := State.puts_regs_only l s; rw [h]
@[simp] theorem State.puts_snap (s : State) (l : List (Fld × Nat)) : (s.puts l).snap = s.snap := by obtain ⟨r, h⟩ := State.puts_regs_only l s; rw [h]
@[simp] theorem State.puts_pool (s : State) (l : List (Fld × Nat)) : (s.puts l).pool = s.pool := by obtain ⟨r, h⟩ := State.puts_regs_only l s; rw [h]
@[simp] theorem State.puts_locks (s : State) (l : List (Fld × Nat)) : (s.puts l).locks = s.locks := by obtain ⟨r, h⟩ := State.puts_regs_only l s; rw [h]
@[simp] theorem State.puts_mss (s : State) (l : List (Fld × Nat)) : (s.puts l).mss = s.mss := by obtain ⟨r, h⟩ := State.puts_regs_only l s; rw [h]
@[simp] theorem State.puts_clip (s : State) (l : List (Fld × Nat)) : (s.puts l).clip = s.clip := by obtain ⟨r, h⟩ := State.puts_regs_only l s; rw [h]
@[simp] theorem State.puts_slr (s : State) (l : List (Fld × Nat)) : (s.puts l).slr = s.slr := by obtain ⟨r, h⟩ := State.puts_regs_only l s; rw [h]
@[simp] theorem State.puts_rfe (s : State) (l : List (Fld × Nat)) : (s.puts l).rfe = s.rfe := by obtain ⟨r, h⟩ := State.puts_regs_only l s; rw [h]
@[simp] theorem State.puts_cal (s : State) (l : List (Fld × Nat)) : (s.puts l).cal = s.cal := by obtain ⟨r, h⟩ := State.puts_regs_only l s; rw [h]
@[simp] theorem State.puts_cse (s : State) (l : List (Fld × Nat)) : (s.puts l).cse = s.cse := by obtain ⟨r, h⟩ := State.puts_regs_only l s; rw [h]
@[simp] theorem State.puts_pcd (s : State) (l : List (Fld × Nat)) : (s.puts l).pcd = s.pcd := by obtain ⟨r, h⟩ := State.puts_regs_only l s; rw [h]
@[simp] theorem State.puts_rpk (s : State) (l : List (Fld × Nat)) : (s.puts l).rpk = s.rpk := by obtain ⟨r, h⟩ := State.puts_regs_only l s; rw [h]
@[simp] theorem State.puts_apu (s : State) (l : List (Fld × Nat)) : (s.puts l).apu = s.apu := by obtain ⟨r, h⟩ := State.puts_regs_only l s; rw [h]
@[simp] theorem State.puts_rtu (s : State) (l : List (Fld × Nat)) : (s.puts l).rtu = s.rtu := by obtain ⟨r, h⟩ := State.puts_regs_only l s; rw [h]
@[simp] theorem State.puts_ore (s : State) (l : List (Fld × Nat)) : (s.puts l).ore = s.ore := by obtain ⟨r, h⟩ := State.puts_regs_only l s; rw [h]
@[simp] theorem State.puts_hif (s : State) (l : List (Fld × Nat)) : (s.puts l).hif = s.hif := by obtain ⟨r, h⟩ := State.puts_regs_only l s; rw [h]
@[simp] theorem State.puts_htp (s : State) (l : List (Fld × Nat)) : (s.puts l).htp = s.htp := by obtain ⟨r, h⟩ := State.puts_regs_only l s; rw [h]
@[simp] theorem State.puts_boot (s : State) (l : List (Fld × Nat)) : (s.puts l).boot = s.boot := by obtain ⟨r, h⟩ := State.puts_regs_only l s; rw [h]
@[simp] theorem State.puts_flash (s : State) (l : List (Fld × Nat)) : (s.puts l).flash = s.flash := by obtain ⟨r, h⟩ := State.puts_regs_only l s; rw [h]
@[simp] theorem State.puts_fuses (s : State) (l : List (Fld × Nat)) : (s.puts l).fuses = s.fuses := by obtain ⟨r, h⟩ := State.puts_regs_only l s; rw [h]
@[simp] theorem State.puts_intAt (s : State) (l : List (Fld × Nat)) : (s.puts l).intAt = s.intAt := by obtain ⟨r, h⟩ := State.puts_regs_only l s; rw [h]
@[simp] theorem State.puts_gpioPulse (s : State) (l : List (Fld × Nat)) : (s.puts l).gpioPulse = s.gpioPulse := by obtain ⟨r, h⟩ := State.puts_regs_only l s; rw [h]
@[simp] theorem State.puts_gpioOut (s : State) (l : List (Fld × Nat)) : (s.puts l).gpioOut = s.gpioOut := by obtain ⟨r, h⟩ := State.puts_regs_only l s; rw [h]
@[simp] theorem State.puts_mem (s : State) (l : List (Fld × Nat)) : (s.puts l).mem = s.mem := by obtain ⟨r, h⟩ := State.puts_regs_only l s; rw [h]
@[simp] theorem State.puts_outbox (s : State) (l : List (Fld × Nat)) : (s.puts l).outbox = s.outbox := by obtain ⟨r, h⟩ := State.puts_regs_only l s; rw [h]
@[simp] theorem State.puts_freeCtr (s : State) (l : List (Fld × Nat)) : (s.puts l).freeCtr = s.freeCtr := by obtain ⟨r, h⟩ := State.puts_regs_only l s; rw [h]

/-! ### Outputs -/

@[simp] theorem State.out_pending (s : State) (x : Out) : (s.out x).pending = s.pending := rfl
@[simp] theorem State.out_variant (s : State) (x : Out) : (s.out x).variant = s.variant := rfl
@[simp] theorem State.out_now (s : State) (x : Out) : (s.out x).now = s.now := rfl
@[simp] theorem State.out_media (s : State) (x : Out) : (s.out x).media = s.media := rfl
@[simp] theorem State.out_regs (s : State) (x : Out) : (s.out x).regs = s.regs := rfl
@[simp] theorem State.out_shadow (s : State) (x : Out) : (s.out x).shadow = s.shadow := rfl
@[simp] theorem State.out_views (s : State) (x : Out) : (s.out x).views = s.views := rfl
@[simp] theorem State.out_idle (s : State) (x : Out) : (s.out x).idle = s.idle := rfl
@[simp] theorem State.out_checks (s : State) (x : Out) : (s.out x).checks = s.checks := rfl
@[simp] theorem State.out_cs (s : State) (x : Out) : (s.out x).cs = s.cs := rfl
@[simp] theorem State.out_plan (s : State) (x : Out) : (s.out x).plan = s.plan := rfl
@[simp] theorem State.out_planSeq (s : State) (x : Out) : (s.out x).planSeq = s.planSeq := rfl
@[simp] theorem State.out_paths (s : State) (x : Out) : (s.out x).paths = s.paths := rfl
@[simp] theorem State.out_units (s : State) (x : Out) : (s.out x).units = s.units := rfl
@[simp] theorem State.out_evt (s : State) (x : Out) : (s.out x).evt = s.evt := rfl
@[simp] theorem State.out_snap (s : State) (x : Out) : (s.out x).snap = s.snap := rfl
@[simp] theorem State.out_pool (s : State) (x : Out) : (s.out x).pool = s.pool := rfl
@[simp] theorem State.out_locks (s : State) (x : Out) : (s.out x).locks = s.locks := rfl
@[simp] theorem State.out_mss (s : State) (x : Out) : (s.out x).mss = s.mss := rfl
@[simp] theorem State.out_clip (s : State) (x : Out) : (s.out x).clip = s.clip := rfl
@[simp] theorem State.out_slr (s : State) (x : Out) : (s.out x).slr = s.slr := rfl
@[simp] theorem State.out_rfe (s : State) (x : Out) : (s.out x).rfe = s.rfe := rfl
@[simp] theorem State.out_cal (s : State) (x : Out) : (s.out x).cal = s.cal := rfl
@[simp] theorem State.out_cse (s : State) (x : Out) : (s.out x).cse = s.cse := rfl
@[simp] theorem State.out_pcd (s : State) (x : Out) : (s.out x).pcd = s.pcd := rfl
@[simp] theorem State.out_rpk (s : State) (x : Out) : (s.out x).rpk = s.rpk := rfl
@[simp] theorem State.out_apu (s : State) (x : Out) : (s.out x).apu = s.apu := rfl
@[simp] theorem State.out_rtu (s : State) (x : Out) : (s.out x).rtu = s.rtu := rfl
@[simp] theorem State.out_ore (s : State) (x : Out) : (s.out x).ore = s.ore := rfl
@[simp] theorem State.out_hif (s : State) (x : Out) : (s.out x).hif = s.hif := rfl
@[simp] theorem State.out_htp (s : State) (x : Out) : (s.out x).htp = s.htp := rfl
@[simp] theorem State.out_boot (s : State) (x : Out) : (s.out x).boot = s.boot := rfl
@[simp] theorem State.out_flash (s : State) (x : Out) : (s.out x).flash = s.flash := rfl
@[simp] theorem State.out_fuses (s : State) (x : Out) : (s.out x).fuses = s.fuses := rfl
@[simp] theorem State.out_intAt (s : State) (x : Out) : (s.out x).intAt = s.intAt := rfl
@[simp] theorem State.out_gpioPulse (s : State) (x : Out) : (s.out x).gpioPulse = s.gpioPulse := rfl
@[simp] theorem State.out_gpioOut (s : State) (x : Out) : (s.out x).gpioOut = s.gpioOut := rfl
@[simp] theorem State.out_mem (s : State) (x : Out) : (s.out x).mem = s.mem := rfl
@[simp] theorem State.out_freeCtr (s : State) (x : Out) : (s.out x).freeCtr = s.freeCtr := rfl

/-! ### Free values -/

@[simp] theorem State.fresh_pending (s : State) : s.fresh.2.pending = s.pending := rfl
@[simp] theorem State.fresh_variant (s : State) : s.fresh.2.variant = s.variant := rfl
@[simp] theorem State.fresh_now (s : State) : s.fresh.2.now = s.now := rfl
@[simp] theorem State.fresh_media (s : State) : s.fresh.2.media = s.media := rfl
@[simp] theorem State.fresh_regs (s : State) : s.fresh.2.regs = s.regs := rfl
@[simp] theorem State.fresh_shadow (s : State) : s.fresh.2.shadow = s.shadow := rfl
@[simp] theorem State.fresh_views (s : State) : s.fresh.2.views = s.views := rfl
@[simp] theorem State.fresh_idle (s : State) : s.fresh.2.idle = s.idle := rfl
@[simp] theorem State.fresh_checks (s : State) : s.fresh.2.checks = s.checks := rfl
@[simp] theorem State.fresh_cs (s : State) : s.fresh.2.cs = s.cs := rfl
@[simp] theorem State.fresh_plan (s : State) : s.fresh.2.plan = s.plan := rfl
@[simp] theorem State.fresh_planSeq (s : State) : s.fresh.2.planSeq = s.planSeq := rfl
@[simp] theorem State.fresh_paths (s : State) : s.fresh.2.paths = s.paths := rfl
@[simp] theorem State.fresh_units (s : State) : s.fresh.2.units = s.units := rfl
@[simp] theorem State.fresh_evt (s : State) : s.fresh.2.evt = s.evt := rfl
@[simp] theorem State.fresh_snap (s : State) : s.fresh.2.snap = s.snap := rfl
@[simp] theorem State.fresh_pool (s : State) : s.fresh.2.pool = s.pool := rfl
@[simp] theorem State.fresh_locks (s : State) : s.fresh.2.locks = s.locks := rfl
@[simp] theorem State.fresh_mss (s : State) : s.fresh.2.mss = s.mss := rfl
@[simp] theorem State.fresh_clip (s : State) : s.fresh.2.clip = s.clip := rfl
@[simp] theorem State.fresh_slr (s : State) : s.fresh.2.slr = s.slr := rfl
@[simp] theorem State.fresh_rfe (s : State) : s.fresh.2.rfe = s.rfe := rfl
@[simp] theorem State.fresh_cal (s : State) : s.fresh.2.cal = s.cal := rfl
@[simp] theorem State.fresh_cse (s : State) : s.fresh.2.cse = s.cse := rfl
@[simp] theorem State.fresh_pcd (s : State) : s.fresh.2.pcd = s.pcd := rfl
@[simp] theorem State.fresh_rpk (s : State) : s.fresh.2.rpk = s.rpk := rfl
@[simp] theorem State.fresh_apu (s : State) : s.fresh.2.apu = s.apu := rfl
@[simp] theorem State.fresh_rtu (s : State) : s.fresh.2.rtu = s.rtu := rfl
@[simp] theorem State.fresh_ore (s : State) : s.fresh.2.ore = s.ore := rfl
@[simp] theorem State.fresh_hif (s : State) : s.fresh.2.hif = s.hif := rfl
@[simp] theorem State.fresh_htp (s : State) : s.fresh.2.htp = s.htp := rfl
@[simp] theorem State.fresh_boot (s : State) : s.fresh.2.boot = s.boot := rfl
@[simp] theorem State.fresh_flash (s : State) : s.fresh.2.flash = s.flash := rfl
@[simp] theorem State.fresh_fuses (s : State) : s.fresh.2.fuses = s.fuses := rfl
@[simp] theorem State.fresh_intAt (s : State) : s.fresh.2.intAt = s.intAt := rfl
@[simp] theorem State.fresh_gpioPulse (s : State) : s.fresh.2.gpioPulse = s.gpioPulse := rfl
@[simp] theorem State.fresh_gpioOut (s : State) : s.fresh.2.gpioOut = s.gpioOut := rfl
@[simp] theorem State.fresh_mem (s : State) : s.fresh.2.mem = s.mem := rfl
@[simp] theorem State.fresh_outbox (s : State) : s.fresh.2.outbox = s.outbox := rfl

/-! ### DRAM -/

@[simp] theorem State.write_pending (s : State) (a : Nat) (b : List Byte) : (s.write a b).pending = s.pending := rfl
@[simp] theorem State.write_variant (s : State) (a : Nat) (b : List Byte) : (s.write a b).variant = s.variant := rfl
@[simp] theorem State.write_now (s : State) (a : Nat) (b : List Byte) : (s.write a b).now = s.now := rfl
@[simp] theorem State.write_media (s : State) (a : Nat) (b : List Byte) : (s.write a b).media = s.media := rfl
@[simp] theorem State.write_regs (s : State) (a : Nat) (b : List Byte) : (s.write a b).regs = s.regs := rfl
@[simp] theorem State.write_shadow (s : State) (a : Nat) (b : List Byte) : (s.write a b).shadow = s.shadow := rfl
@[simp] theorem State.write_views (s : State) (a : Nat) (b : List Byte) : (s.write a b).views = s.views := rfl
@[simp] theorem State.write_idle (s : State) (a : Nat) (b : List Byte) : (s.write a b).idle = s.idle := rfl
@[simp] theorem State.write_checks (s : State) (a : Nat) (b : List Byte) : (s.write a b).checks = s.checks := rfl
@[simp] theorem State.write_cs (s : State) (a : Nat) (b : List Byte) : (s.write a b).cs = s.cs := rfl
@[simp] theorem State.write_plan (s : State) (a : Nat) (b : List Byte) : (s.write a b).plan = s.plan := rfl
@[simp] theorem State.write_planSeq (s : State) (a : Nat) (b : List Byte) : (s.write a b).planSeq = s.planSeq := rfl
@[simp] theorem State.write_paths (s : State) (a : Nat) (b : List Byte) : (s.write a b).paths = s.paths := rfl
@[simp] theorem State.write_units (s : State) (a : Nat) (b : List Byte) : (s.write a b).units = s.units := rfl
@[simp] theorem State.write_evt (s : State) (a : Nat) (b : List Byte) : (s.write a b).evt = s.evt := rfl
@[simp] theorem State.write_snap (s : State) (a : Nat) (b : List Byte) : (s.write a b).snap = s.snap := rfl
@[simp] theorem State.write_pool (s : State) (a : Nat) (b : List Byte) : (s.write a b).pool = s.pool := rfl
@[simp] theorem State.write_locks (s : State) (a : Nat) (b : List Byte) : (s.write a b).locks = s.locks := rfl
@[simp] theorem State.write_clip (s : State) (a : Nat) (b : List Byte) : (s.write a b).clip = s.clip := rfl
@[simp] theorem State.write_slr (s : State) (a : Nat) (b : List Byte) : (s.write a b).slr = s.slr := rfl
@[simp] theorem State.write_rfe (s : State) (a : Nat) (b : List Byte) : (s.write a b).rfe = s.rfe := rfl
@[simp] theorem State.write_cal (s : State) (a : Nat) (b : List Byte) : (s.write a b).cal = s.cal := rfl
@[simp] theorem State.write_cse (s : State) (a : Nat) (b : List Byte) : (s.write a b).cse = s.cse := rfl
@[simp] theorem State.write_pcd (s : State) (a : Nat) (b : List Byte) : (s.write a b).pcd = s.pcd := rfl
@[simp] theorem State.write_rpk (s : State) (a : Nat) (b : List Byte) : (s.write a b).rpk = s.rpk := rfl
@[simp] theorem State.write_apu (s : State) (a : Nat) (b : List Byte) : (s.write a b).apu = s.apu := rfl
@[simp] theorem State.write_rtu (s : State) (a : Nat) (b : List Byte) : (s.write a b).rtu = s.rtu := rfl
@[simp] theorem State.write_ore (s : State) (a : Nat) (b : List Byte) : (s.write a b).ore = s.ore := rfl
@[simp] theorem State.write_hif (s : State) (a : Nat) (b : List Byte) : (s.write a b).hif = s.hif := rfl
@[simp] theorem State.write_htp (s : State) (a : Nat) (b : List Byte) : (s.write a b).htp = s.htp := rfl
@[simp] theorem State.write_boot (s : State) (a : Nat) (b : List Byte) : (s.write a b).boot = s.boot := rfl
@[simp] theorem State.write_flash (s : State) (a : Nat) (b : List Byte) : (s.write a b).flash = s.flash := rfl
@[simp] theorem State.write_fuses (s : State) (a : Nat) (b : List Byte) : (s.write a b).fuses = s.fuses := rfl
@[simp] theorem State.write_intAt (s : State) (a : Nat) (b : List Byte) : (s.write a b).intAt = s.intAt := rfl
@[simp] theorem State.write_gpioPulse (s : State) (a : Nat) (b : List Byte) : (s.write a b).gpioPulse = s.gpioPulse := rfl
@[simp] theorem State.write_gpioOut (s : State) (a : Nat) (b : List Byte) : (s.write a b).gpioOut = s.gpioOut := rfl
@[simp] theorem State.write_outbox (s : State) (a : Nat) (b : List Byte) : (s.write a b).outbox = s.outbox := rfl
@[simp] theorem State.write_freeCtr (s : State) (a : Nat) (b : List Byte) : (s.write a b).freeCtr = s.freeCtr := rfl
@[simp] theorem State.write_epoch (s : State) (a : Nat) (b : List Byte) : (s.write a b).mss.epoch = s.mss.epoch := rfl
@[simp] theorem State.write_capacity (s : State) (a : Nat) (b : List Byte) : (s.write a b).mss.capacity = s.mss.capacity := rfl

end Sys2Proof.Machine
end

