-- ==== Sys2Proof/Laws/Ops.lean ====
section
/-!
SUPPORT. Everything the shared operations can do: which fields of the state an interrupt, an event message, a refusal and a command
register change, and which registers keep their word.
-/

namespace Sys2Proof.Machine

/-! ### Registers that keep their word -/

theorem KeepsRegs.refl (u : State) (l : List Nat) (m : List (Nat → Fld)) : KeepsRegs u u l m := fun _ _ _ => rfl

theorem KeepsRegs.trans {u v w : State} {l : List Nat} {m : List (Nat → Fld)} (h : KeepsRegs u v l m) (k : KeepsRegs v w l m) :
    KeepsRegs u w l m := fun o a b => (k o a b).trans (h o a b)

theorem KeepsRegs.mono {u v : State} {l l' : List Nat} {m m' : List (Nat → Fld)} (h : KeepsRegs u v l m) (hl : ∀ o ∈ l, o ∈ l')
    (hm : ∀ f ∈ m, f ∈ m') : KeepsRegs u v l' m' := fun o a b => h o (fun x => a (hl o x)) (fun f x => b f (hm f x))

theorem keepsRegs_put (s : State) (f : Fld) (v : Nat) : KeepsRegs s (s.put f v) [f.ofs] [] :=
  fun _ h _ => State.reg_put_ne s f v (by simpa using h)

theorem keepsRegs_setReg (s : State) (o : Nat) (w : Word) : KeepsRegs s (s.setReg o w) [o] [] :=
  fun _ h _ => State.reg_setReg_ne s w (by simpa using h)

theorem keepsRegs_puts (s : State) (l : List (Fld × Nat)) : KeepsRegs s (s.puts l) (l.map (fun e => e.1.ofs)) [] :=
  fun _ h _ => State.reg_puts_ne l s h

/-- Two states with the same registers. -/
theorem KeepsRegs.of_regs {u v : State} (h : v.regs = u.regs) (l : List Nat) (m : List (Nat → Fld)) : KeepsRegs u v l m :=
  fun o _ _ => by simp [State.reg, h]

/-! ### Field writes -/

theorem State.put_shape (s : State) (f : Fld) (v : Nat) : ∃ r, s.put f v = { s with regs := r } := ⟨_, rfl⟩

theorem State.count_shape (s : State) (f : Fld) (n : Nat) : ∃ r, s.count f n = { s with regs := r } := ⟨_, rfl⟩

theorem State.bump_shape (s : State) (f : Fld) : ∃ r, s.bump f = { s with regs := r } := ⟨_, rfl⟩

theorem State.putTime_shape (s : State) (a b c : Fld) (t : Nat) : ∃ r, s.putTime a b c t = { s with regs := r } := ⟨_, rfl⟩

/-! ### Interrupts (R379, R451, R470, R473) -/

/-- A vector is sent, or its pending bit is set. -/
theorem State.sendVector_shape (s : State) (v : Nat) : ∃ r o, s.sendVector v = { s with regs := r, outbox := o } := by
  unfold State.sendVector
  split
  · exact ⟨_, _, rfl⟩
  · exact ⟨_, _, rfl⟩

theorem foldl_out_shape {α : Type} (p : State → α → Bool) (x : α → Out) : ∀ (l : List α) (s : State),
    ∃ o, l.foldl (fun s c => if p s c then s.out (x c) else s) s = { s with outbox := o } := by
  intro l
  induction l with
  | nil => exact fun s => ⟨_, rfl⟩
  | cons c l ih =>
    intro s
    simp only [List.foldl_cons]
    split
    · obtain ⟨o, h⟩ := ih (s.out (x c))
      exact ⟨o, h⟩
    · exact ih s

/-- The cores that a summary goes to are told, and nothing else happens. -/
theorem State.coresOut_shape (s : State) (u : Nat) : ∃ o, s.coresOut u = { s with outbox := o } :=
  foldl_out_shape (fun s c => bitAt (s.get (Reg.DEV_INT_VEC_CORES u)) c) (fun c => .coreInt c u) _ s

/-- A summary that rises is announced: only registers and what leaves the part change. -/
theorem State.announce_shape (s : State) (u : Nat) : ∃ r o, s.announce u = { s with regs := r, outbox := o } := by
  have h : ∃ r o, (if s.flag (Reg.DEV_INT_VEC_MSIX_EN u) then s.sendVector (s.get (Reg.DEV_INT_VEC_VECTOR u)) else s) =
      { s with regs := r, outbox := o } := by
    split
    · exact State.sendVector_shape s _
    · exact ⟨_, _, rfl⟩
  obtain ⟨r, o, h⟩ := h
  unfold State.announce
  rw [h]
  obtain ⟨o', h'⟩ := State.coresOut_shape { s with regs := r, outbox := o } u
  simp only [h']
  split
  · exact ⟨_, _, rfl⟩
  · exact ⟨_, _, rfl⟩

/-- The summary bit follows its unit: only registers and what leaves the part change. -/
theorem State.refreshSummary_shape (s : State) (u : Nat) : ∃ r o, s.refreshSummary u = { s with regs := r, outbox := o } := by
  unfold State.refreshSummary
  simp only
  split
  · obtain ⟨r, o, h⟩ := State.announce_shape (s.put ⟨Reg.DEV_INT_STATUS.ofs, u, u⟩ (b2n (s.summary u))) u
    exact ⟨r, o, h⟩
  · split
    · exact ⟨_, _, rfl⟩
    · exact ⟨_, _, rfl⟩

/-- An interrupt bit is set. -/
theorem State.raise_shape (s : State) (u : UnitId) (n : Nat) :
    ∃ r i o, s.raise u n = { s with regs := r, intAt := i, outbox := o } := by
  obtain ⟨r, o, h⟩ := State.refreshSummary_shape
    (({ s with intAt := SMap.insert s.intAt (32 * u.id + n) s.now }).put ⟨(Reg.UNIT_INT_STATUS u.id).ofs, n, n⟩ 1) u.id
  exact ⟨r, _, o, h⟩

/-- A bit of DEV_EVT_STATUS is set. -/
theorem State.devRaise_shape (s : State) (n : Nat) : ∃ r i o, s.devRaise n = { s with regs := r, intAt := i, outbox := o } := by
  obtain ⟨r, o, h⟩ := State.refreshSummary_shape (({ s with intAt := SMap.insert s.intAt n s.now }).put ⟨Reg.DEV_EVT_STATUS.ofs, n, n⟩ 1) 0
  exact ⟨r, _, o, h⟩

/-! ### Event messages and refusals (R15, R449, R471, R483) -/

/-- A message enters the event writer, or is dropped and counted. -/
theorem State.message_shape (s : State) (m : EvtMsg) :
    ∃ r e i o, s.message m = { s with regs := r, evt := e, intAt := i, outbox := o } := by
  unfold State.message
  split
  · exact ⟨_, _, _, _, rfl⟩
  · obtain ⟨r, i, o, h⟩ := State.devRaise_shape ({ s with evt := { s.evt with lost := true } }.count Reg.DEV_CNT_EVT_DROP 1) 6
    exact ⟨r, _, i, o, h⟩

theorem State.logFree_shape (s : State) (u : UnitId) (inst code cls frame : Nat) :
    ∃ r e i o c, s.logFree u inst code cls frame = { s with regs := r, evt := e, intAt := i, outbox := o, freeCtr := c } := by
  unfold State.logFree State.logEvt
  obtain ⟨r, e, i, o, h⟩ := State.message_shape s.fresh.2.fresh.2 _
  exact ⟨r, e, i, o, _, h⟩

/-- UNIT_REFUSE and UNIT_REFUSE_OFS are written. -/
theorem State.setRefuse_shape (s : State) (u code ofs : Nat) : ∃ r, s.setRefuse u code ofs = { s with regs := r } :=
  State.puts_regs_only _ s

/-- A refusal writes the unit's UNIT_REFUSE and UNIT_REFUSE_OFS and one message. -/
theorem State.refuse_shape (s : State) (u : UnitId) (code : Nat) (f : Fld) :
    ∃ r e i o c, s.refuse u code f = { s with regs := r, evt := e, intAt := i, outbox := o, freeCtr := c } := by
  unfold State.refuse
  obtain ⟨q, hq⟩ := State.setRefuse_shape s u.id code (f.ofs % 0x100000)
  rw [hq]
  obtain ⟨r, e, i, o, h⟩ := State.message_shape ({ s with regs := q }).fresh.2.fresh.2 _
  exact ⟨r, e, i, o, _, h⟩

/-- A write to a command register does nothing, is refused, or acts on the state as it stands (R7, R8, R381, R430, R440). -/
theorem State.ctl_cases (s : State) (u : UnitId) (here : Bool) (f : Fld) (k : State → State) :
    s.ctl u here f k = s ∨ s.ctl u here f k = s.refuse .htp 0x0C05 f ∨ s.ctl u here f k = s.refuse u 0x0D0E f ∨
      (s.ctl u here f k = k s ∧ s.boot.busOpen = true ∧ s.variant.has u = true ∧ here = true ∧ s.removed u = false) := by
  unfold State.ctl
  split
  · exact .inl rfl
  · split
    · exact .inr (.inl rfl)
    · split
      · exact .inl rfl
      · split
        · exact .inr (.inr (.inl rfl))
        · simp_all

/-- A command whose unit the write reaches acts on the state with the word written. -/
theorem State.cmd_reached (s : State) (u : UnitId) (f : Fld) (v : Nat) (k : State → State) (h : s.reaches u = true) :
    s.cmd u true f v k = k (s.setReg f.ofs (BitVec.ofNat 32 v)) := by
  simp only [State.reaches, Bool.and_eq_true, Bool.not_eq_true'] at h
  simp [State.cmd, State.ctl, h.1.1.1, h.1.1.2, h.1.2, h.2]

end Sys2Proof.Machine
end

