-- ==== Sys2Proof/WellFormed.lean ====
section
/-!
DEFINITION. Commands whose operands lie in the ranges that the spec gives them. Every meaning is total: what it does with another
operand is said where the meaning is.
-/

namespace Sys2Proof

open Machine

/-- Every number is a byte. -/
def allBytes (l : List Nat) : Bool := l.all (fun b => decide (b < 256))

/-- Every number is a 32-bit word. -/
def allWords (l : List Nat) : Bool := l.all (fun b => decide (b < 2 ^ 32))

/-- A register offset of BAR0 (R10, R375): 4-byte aligned, inside 64 MiB. -/
def regOffset (ofs : Nat) : Bool := decide (ofs < 0x4000000) && ofs % 4 == 0

/-- A request of a DRAM port: one aligned burst of 64 bytes (R335 to R337). -/
def burstOk (r : MemReq) : Bool :=
  r.addr % 64 == 0 && decide (r.addr < 2 ^ 40) && (!r.write || (r.data.length == 64 && r.enables.length == 64))

/-- Failing bursts of a host read with what the host sees there. -/
def badOk (l : List (Nat × List Byte)) : Bool := l.all (fun e => e.1 % 64 == 0 && e.2.length == 64)

/-- The operands of a command lie in their ranges. -/
def Instr.wellFormed : Instr → Bool
  | .registerWrite _ _ ofs _ => regOffset ofs
  | .rfeTableWrite _ ofs _ => decide (ofs < 0x100000) && ofs % 4 == 0
  | .fs _ _ pkt => allWords pkt
  | .fe _ _ pkt => allWords pkt
  | .ls _ _ pkt => allWords pkt
  | .emb _ _ pkt => allWords pkt
  | .stat _ _ pkt => allWords pkt
  | .headerError _ _ pkt => allWords pkt
  | .sctlEntryDone _ _ _ bytes => allBytes bytes
  | .linkRun _ _ w => decide (w < 2 ^ 32)
  | .linkStop _ _ w => decide (w < 2 ^ 32)
  | .linkRelock _ _ w => decide (w < 2 ^ 32)
  | .linkClr _ _ w => decide (w < 2 ^ 32)
  | .lutLoad _ p => decide (p < 8)
  | .lutFetchDone _ p => decide (p < 8)
  | .rpTableSwap _ p => decide (p < 8)
  | .rpHeldLoadStart _ p => decide (p < 8)
  | .rpParity _ p => decide (p < 8)
  | .arbTurn _ _ l => l.all burstOk
  | .dramReadReturn _ _ a _ _ _ _ => a % 64 == 0 && decide (a < 2 ^ 40)
  | .cpPost _ _ cells _ => decide (1 ≤ cells.length ∧ cells.length ≤ 4096) && cells.all (fun c => c.length == 64)
  | .cpRead _ _ _ p => decide (p < 256)
  | .portPop _ _ _ p => decide (p < 256)
  | .apertureAccess _ _ _ _ bad => badOk bad
  | .sqFetch _ e _ => e.length == 64
  | .hostWrite _ _ cid pages data _ => decide (cid < 65536) && pages.all (fun a => a % 4096 == 0) && data.length % 4096 == 0
  | .hostRead _ _ cid pages bad _ => decide (cid < 65536) && pages.all (fun a => a % 4096 == 0) && badOk bad
  | .flush _ _ cid => decide (cid < 65536)
  | .trim _ _ cid => decide (cid < 65536)
  | .pin _ _ cid => decide (cid < 65536)
  | .unpin _ _ cid => decide (cid < 65536)
  | .identify _ cid _ _ => decide (cid < 65536)
  | .getLog _ cid _ n _ => decide (cid < 65536) && n.length == 32
  | .getFeature _ cid => decide (cid < 65536)
  | .setFeature _ cid => decide (cid < 65536)
  | .setPower _ cid => decide (cid < 65536)
  | .abort _ cid => decide (cid < 65536)
  | .snapshot _ cid _ _ => decide (cid < 65536)
  | .htpSample _ raw => raw.length == 9 && raw.all (fun x => decide (-32768 ≤ x ∧ x < 32768))
  | _ => true

end Sys2Proof
end

