-- ==== Sys2Proof/Tests/Slice0.lean ====
section
/-!
SUPPORT. The model's own tests: ill-formed terms that WellFormed refuses, a concrete state for the hypotheses of every statement
(`wit_…`), and single commands on small states (`test_…`).
-/

open Sys2Proof Sys2Proof.Machine

namespace Sys2Proof.Tests

set_option Elab.async false

/-! ### Small states -/

/-- Register words from fields and their values. -/
def words (l : List (Fld × Nat)) : SMap Word :=
  l.foldl (fun m e => SMap.insert m e.1.ofs (SMap.getD m 0#32 e.1.ofs ||| BitVec.ofNat 32 (e.2 * 2 ^ e.1.lo))) []

/-- The running part with these register fields, the other fields of their registers 0. -/
def part (l : List (Fld × Nat)) : State :=
  { State.reset with boot := { BootSt.reset with stage := .running, busOpen := true }, regs := words l }

/-- The running part with one unit enabled. -/
def unitOn (u : Nat) (l : List (Fld × Nat)) : State := part ((Reg.UNIT_STATUS_ENABLED u, 1) :: l)

/-- Link 0 runs and the RFE takes it. -/
def running : List (Fld × Nat) :=
  [(Reg.UNIT_STATUS_ENABLED 1, 1), (Reg.SLR_LINK_STATUS_STATE 0, 3), (Reg.SLR_LINK_STATUS_ARMED 0, 1), (Reg.RFE_CFG_LINK, 1)]

/-- A packet header of two words. -/
def hdr (w0 line : Nat) : List Nat := [w0, line * 65536 + hcrc w0 line]

/-- A format of one line of 8 samples of 8 bits. -/
def fmt1 : LinkFmt := { width := 8, lines := 2, ob := 0, trd := 1000, pack := 0, dg := false, fillPeriod := 0, stream := 0 }

/-- A tag. -/
def tag1 : FrameTag := { src := 0, seq := 1, stamp := 0, accepted := [], begun := [], incomplete := false, poison := [] }

/-- A frame open on a link. -/
def slr1 : SlrFrame :=
  { tag := tag1, fmt := fmt1, pattern := false, good := [], next := 0, obLines := [], lastLine := none, filled := [], runOut := false }

/-- The SLR with a state for link 0. -/
def slrLink (l : LinkSt) : SlrSt := { SlrSt.reset with links := SlrSt.reset.links.set 0 l }

/-- A sensor control bus 0. -/
def slrBus (b : SctlSt) : SlrSt := { SlrSt.reset with sctl := SlrSt.reset.sctl.set 0 b }

/-- A frame in the RFE with both of its input rows in hand. -/
def rfe1 : RfeFrame :=
  { RfeFrame.start tag1 fmt1 with rows := [(0, [1, 2, 3, 4, 5, 6, 7, 8]), (1, [1, 2, 3, 4, 5, 6, 7, 8])] }

/-- A raw frame of two rows of 8 sites. -/
def raw1 : RawOut :=
  { tag := tag1, slot := 0, w := 8, h := 2, d := 1, spsCorr := 1, spsOrig := 1, bits := 12, pedestal := 0, cfg := 0, origin := 0,
    corr := some 0x200000, orig := none, written := 2 }

/-- A tag whose frame is number 5 of path 0. -/
def tagOn : FrameTag := { tag1 with accepted := [(0, 5)], begun := [(0, 5)] }

/-- A booked path. -/
def book (kind idx : Nat) (units : List Nat) : Booking :=
  { path := 0, src := 0, kind := kind, idx := idx, chain := [], units := units, leaving := false }

/-- A plan with bookings. -/
def planOf (l : List Booking) : Plan := { Plan.empty with bookings := l }

/-- A scene frame. -/
def scene1 : SceneFrame :=
  { tag := tag1, w := 8, h := 2, ws := 0, mode := 0, field := none, age := 0, histValid := false, histIn := none, histOut := none,
    histLost := [], mfLost := [], next := 0, rows := [], takers := [] }

/-- A cell of zeros. -/
def cell0 : PCell := { data := List.replicate 64 0#8, poison := 0, num := 3 }

/-- A pool in which one queue has this state. -/
def poolOf (q : Nat) (x : QueueSt) : PoolSt := { queues := [(q, x)], waiting := [], hidden := 0, notified := [] }

/-- A finished frame of a render path. -/
def render1 : RenderOut :=
  { tag := tagOn, slot := 0, base := some 0x400000, w := 8, h := 2, fmt := 0, depth := 0, matrix := 0, range := 0, safe := 0,
    crop := (0, 0, 8, 2), gamut := 0, transfer := 0, ws := 0, done := true, doneAt := 1, tblCopy := 0, lutCopy := 0 }

/-- Render path 0 holds that frame. -/
def cseRender : CseSt := { CseSt.reset with rps := CseSt.reset.rps.set 0 { RpSt.reset with outs := [render1] } }

/-- Frame 5 of path 0 is in flight. -/
def inFlight5 : Vector PathSt 64 := State.reset.paths.set 0 { PathSt.reset with inFlight := [5] }

/-- What an access unit signals. -/
def head1 : PicHead :=
  { frame := 5, stamp := 0, irap := true, typ := 19, poc := 0, layer := 0, refs := [], qpBase := 30, rowQp := [30], exhaustRow := none,
    guard := none, poisoned := 0, transfer := 0, fullRange := false, colourPrimaries := 1, transferChar := 1, matrixCoeffs := 1,
    uuid := [], timecode := (0, 0, 0, 0) }

/-- A picture being coded. -/
def pic1 : EncPic := { out := render1, path := some 0, num := 5, head := head1, cls := 0, budget := 1000, allowance := 1000, dist := 1 }

/-- Session 0 with a state. -/
def pcdEnc (e : EncSt) : PcdSt := { PcdSt.reset with enc := PcdSt.reset.enc.set 0 e }

/-- Decode session 0 with a state. -/
def pcdDec (d : DecSt) : PcdSt := { PcdSt.reset with dec := PcdSt.reset.dec.set 0 d }

/-- A decoded picture. -/
def dec1 : DecPic :=
  { poc := 0, typ := 19, irap := true, missing := none, dataError := false, hashMismatch := false, unsupported := false, w := 2, h := 2,
    c422 := false, depth := 8, y := [1, 2, 3, 4], cb := [5], cr := [6] }

/-- Space for frame 5 of path 0. -/
def resv1 : Reservation := { path := 0, frame := 5, stamp := 0, take := 1, slot := 1, block := 0, blocks := 1 }

/-- Reel 0 with a state. -/
def clipOf (r : ReelSt) : ClipSt := { ClipSt.reset with reels := ClipSt.reset.reels.set 0 r }

/-- Reel 0 with that space reserved. -/
def reel1 : ReelSt := { ReelSt.reset with dataBlocks := 4, indexEntries := 8, openTake := 1, reservations := [resv1] }

/-- A path job. -/
def job1 : PathJob := { seq := 1, path := 0, num := 5, effort := 0, aboveEn := false, src := 0, gang := 1, reel := 0 }

/-- Engine 0 with a state. -/
def rpkOf (e : EngSt) : RpkSt := { RpkSt.reset with eng := RpkSt.reset.eng.set 0 e }

/-- A frame that a generator shows. -/
def shown1 : Shown := { tag := tagOn, base := 0x400000, slot := 0, w := 8, h := 2, fmt := 0, matrix := 0, depth := 0 }

/-- Generator 0 with a state. -/
def oreTg (g : TgSt) : OreSt := { OreSt.reset with tgs := OreSt.reset.tgs.set 0 g }

/-- Ingest 0 with a state. -/
def oreRi (r : RiSt) : OreSt := { OreSt.reset with ris := OreSt.reset.ris.set 0 r }

/-- A frame of an ingest. -/
def ri1 : RiFrameSt := { tag := tag1, slot := 0, base := 0x500000, w := 4, h := 2, doneAt := 0 }

/-- Audio port 0 with a state. -/
def apuOf (p : PortSt) : ApuSt := { ApuSt.reset with ports := ApuSt.reset.ports.set 0 p }

/-- The memory subsystem with 1 GiB of DRAM. -/
def mssGiB : MssSt := { State.reset.mss with capacity := 0x40000000 }

/-- A PTP master. -/
def master1 : PtpMaster := { rank := [1, 2], identity := 7, port := 0 }

/-- The time unit with this master selected in slot 0. -/
def rtuSlot : RtuSt :=
  { RtuSt.reset with slots := RtuSt.reset.slots.set 0 { masters := [master1], selected := some master1, updates := 0 } }

/-- A plan buffer. -/
def buf1 : PlanBuf :=
  { kind := .corrRaw, unit := 2, inst := 0, slot := 0, base := 0x200000, bytes := 0x10000, stride := 64, width := 8, height := 2, bpp := 16,
    planar := 0, recomputable := true }

/-- A Coppice request. -/
def cop1 : CopReq := { unit := 2, inst := 0, buf := 0x200000, tile := 0, addr := 0x200000, port := 1 }

/-- A read request. -/
def req1 : MemReq :=
  { port := 1, write := false, addr := 0x100, enables := [], data := [], control := false, coppice := false, since := 0 }

/-- The locks with lock 3 held by the host. -/
def locks3 : Vector LockSt 256 := State.reset.locks.set 3 { st := .held, owner := 0x0A00 }

/-- A command in queue pair 0. -/
def cmd1 (op : Nat) : HostCmd :=
  { op := op, flags := 0, cid := 7, dptr1 := 0x1000, dptr2 := 0, slba := 0, nblk := 1, arg0 := 0, arg1 := 0, sqHead := 1, order := 4 }

/-- Queue pair 0 with a state. -/
def hifOf (x : QpSt) : HifSt := { HifSt.reset with qps := HifSt.reset.qps.set 0 x }

/-- The host interface works, its link is up, and queue pair 0 has this state and runs; further register fields. -/
def hostOn (x : QpSt) (l : List (Fld × Nat)) : State :=
  { unitOn 10 ((Reg.HIF_LINK_STATUS_STATE, 3) :: (Reg.HIF_QP_STATUS_STATE 0, 1) :: (Reg.HIF_QP_CFG_DEPTH_M1 0, 7) :: l) with hif := hifOf x }

/-- The same, with one command outstanding. -/
def hostCmdOn (c : HostCmd) : State := hostOn { QpSt.reset with outstanding := [c] } [(Reg.HIF_WBUF_BYTES, 65536)]

/-- Reel 0 with take 1 closed. -/
def reelClosed : ReelSt :=
  { ReelSt.reset with dataBlocks := 64, indexEntries := 64, takes := [(0, { take := 1, st := 2, pinned := false, openSeq := 1, closeSeq := 2 })] }

/-- An event message. -/
def msg1 : EvtMsg := { timeNs := 5000000001, unit := 11, inst := 0, code := 0x80, cls := 0x10, flags := 0, frame := 9, arg0 := 1, arg1 := 2 }

/-- Slot 0 of the flash running, with temperatures of 30 °C. -/
def coldPart (l : List (Fld × Nat)) : State :=
  { part l with htp := { HtpSt.reset with zones := Vector.replicate 9 { dev := 0, broken := false, temp := 480 } } }

/-- A unit with a removal in progress. -/
def removing (x : UnitId) (c : Cause) (drained : Bool) (g : GraftStage) (l : List (Fld × Nat)) : State :=
  let s := part ((Reg.UNIT_STATE_PHASE x.id, if c = .graft ∧ drained = true then 3 else 1) :: l)
  s.setUnit x (fun y => { y with removal := some { cause := c, since := 0, drained := drained }, graft := g })

/-- No refusal; no booking. -/
def noGo0 : NoGo := { code := 0, ofs := 0, alt := 0, conflict := none, fail := none }
def booked0 : Booked := { paths := [], slots := [], cover := 0, bound := [], bound0 := [], bufs := [] }

/-- What a check refuses, and what it books. -/
def refusal (v : NoGo ⊕ Booked) : NoGo := Sum.elim id (fun _ => noGo0) v
def booking (v : NoGo ⊕ Booked) : Booked := Sum.elim (fun _ => booked0) id v

/-! ### Ill-formed terms are refused -/

/-- Register offsets and window offsets. -/
theorem test_wf_offsets :
    Instr.wellFormed (.registerWrite 0 .host 0x4000000 0#32) = false ∧ Instr.wellFormed (.registerWrite 0 .host 0x102 0#32) = false ∧
    Instr.wellFormed (.registerWrite 0 .host 0x100 0#32) = true ∧ Instr.wellFormed (.rfeTableWrite 0 0x100000 0#32) = false ∧
    Instr.wellFormed (.rfeTableWrite 0 0x8001 0#32) = false := by decide

/-- Words and bytes. -/
theorem test_wf_words :
    Instr.wellFormed (.fs 0 0 [2 ^ 32]) = false ∧ Instr.wellFormed (.fe 0 0 [2 ^ 32]) = false ∧ Instr.wellFormed (.ls 0 0 [2 ^ 32]) = false ∧
    Instr.wellFormed (.emb 0 0 [2 ^ 32]) = false ∧ Instr.wellFormed (.stat 0 0 [2 ^ 32]) = false ∧
    Instr.wellFormed (.headerError 0 0 [2 ^ 32]) = false ∧ Instr.wellFormed (.sctlEntryDone 0 0 0 [256]) = false ∧
    Instr.wellFormed (.linkRun 0 0 (2 ^ 32)) = false ∧ Instr.wellFormed (.linkStop 0 0 (2 ^ 32)) = false ∧
    Instr.wellFormed (.linkRelock 0 0 (2 ^ 32)) = false ∧ Instr.wellFormed (.linkClr 0 0 (2 ^ 32)) = false ∧
    Instr.wellFormed (.cpRead 0 0 .ok 256) = false ∧ Instr.wellFormed (.portPop 0 0 .ok 256) = false := by decide

/-- Render paths, bursts, items, samples. -/
theorem test_wf_shapes :
    Instr.wellFormed (.lutLoad 0 8) = false ∧ Instr.wellFormed (.lutFetchDone 0 8) = false ∧ Instr.wellFormed (.rpTableSwap 0 8) = false ∧
    Instr.wellFormed (.rpHeldLoadStart 0 8) = false ∧ Instr.wellFormed (.rpParity 0 8) = false ∧
    Instr.wellFormed (.arbTurn 0 0 [{ req1 with addr := 1 }]) = false ∧
    Instr.wellFormed (.arbTurn 0 0 [{ req1 with write := true }]) = false ∧
    Instr.wellFormed (.dramReadReturn 0 0 32 .good false true 0) = false ∧ Instr.wellFormed (.cpPost 0 0 [] .ok) = false ∧
    Instr.wellFormed (.cpPost 0 0 [[0#8]] .ok) = false ∧ Instr.wellFormed (.htpSample 0 [0]) = false ∧
    Instr.wellFormed (.htpSample 0 [0, 0, 0, 0, 0, 0, 0, 0, 32768]) = false := by decide

/-- Commands of the host. -/
theorem test_wf_host :
    Instr.wellFormed (.apertureAccess 0 0 none 0 [(1, [])]) = false ∧ Instr.wellFormed (.sqFetch 0 [] false) = false ∧
    Instr.wellFormed (.hostWrite 0 0 65536 [] [] false) = false ∧ Instr.wellFormed (.hostRead 0 0 0 [1] [] false) = false ∧
    Instr.wellFormed (.flush 0 0 65536) = false ∧ Instr.wellFormed (.trim 0 0 65536) = false ∧ Instr.wellFormed (.pin 0 0 65536) = false ∧
    Instr.wellFormed (.unpin 0 0 65536) = false ∧ Instr.wellFormed (.identify 0 65536 [] false) = false ∧
    Instr.wellFormed (.getLog 0 0 [] [] false) = false ∧ Instr.wellFormed (.getFeature 0 65536) = false ∧
    Instr.wellFormed (.setFeature 0 65536) = false ∧ Instr.wellFormed (.setPower 0 65536) = false ∧ Instr.wellFormed (.abort 0 65536) = false ∧
    Instr.wellFormed (.snapshot 0 65536 [] false) = false := by decide

/-! ### The spec's worked examples -/

/-- One small tile (09_raw_packed_format.md, Tables ERP-11 and ERP-12): header word 0x0880_0000, then the body, 16 bytes with the check
word. -/
theorem test_erp_tile :
    let row := [2050, 2052, 2051, 2051, 2051, 2051, 2051, 2051, 2060, 2070, 2065, 2060, 2060, 2060, 2060, 2060]
    let r := (erpEncodeTile { w := 16, h := 2, sps := 1, d := 1, n := 12 } 2 false none (row ++ row)).1
    r.take 12 = [0x00#8, 0x00#8, 0x80#8, 0x08#8, 0x38#8, 0x83#8, 0x14#8, 0x4F#8, 0x5A#8, 0x25#8, 0x30#8, 0x50#8] ∧ r.length = 16 := by
  decide +kernel

/-- Pixels A and B of 07_render_paths.md: the codes of Elota Log YCbCr at depth 10, and word B. -/
theorem test_rp_pixels :
    let code := fun (r g b : Nat) =>
      let v := encodePixel 1 (elog (.ofFrac r 10000), elog (.ofFrac g 10000), elog (.ofFrac b 10000))
      ((encodeValue 10 false true true v.1).1, (encodeValue 10 true true true v.2.1).1, (encodeValue 10 true true true v.2.2).1)
    code 1800 1800 1800 = (414, 512, 512) ∧ code 5000 1800 625 = (421, 481, 539) := by decide +kernel

/-- The RFE's configuration of 04_raw_front_end.md's example. -/
def cfgEx : RfeCfg :=
  { cfg := 0x6C, d := 2, phase := 0, mono := false, quad := false, ox := 0, oy := 0, w := 8192, h := 4320, sin := 1, planes := 1,
    merge := false, ped := 16 * 4096, group := 4, cols := 64, split := 0 }

/-- Its tables, and the flat-field nodes around the site. -/
def rfeEx : State :=
  let s := { part [(Reg.RFE_FF_CFG_PITCH, 1), (Reg.RFE_FF_CFG_GX, 257), (Reg.RFE_FF_CFG_GY, 137)] with
    rfe := { RfeSt.reset with
      black := RfeSt.reset.black.set 0 [(0, 51208)], col := RfeSt.reset.col.set 0 [(4096, 196), (4098, 128)],
      gain := RfeSt.reset.gain.set 0 [(0, 32702)] } }
  let node := fun (i j : Nat) => 2 * (257 * j + i)
  { s with mem := [(node 128 31, 0x00#8), (node 128 31 + 1, 0x50#8), (node 129 31, 0x00#8), (node 129 31 + 1, 0x50#8),
    (node 128 32, 0xC0#8), (node 128 32 + 1, 0x50#8), (node 129 32, 0xC0#8), (node 129 32 + 1, 0x50#8)] }

/-- Table RFE-5, site (4,096, 1,000): stages 3 and 4, 6 and 7, in sixteenths. -/
theorem test_rfe_stages :
    rfeEx.stage34 rfe1 cfgEx 1000 4096 (16 * 16592) = 16 * 17475 + 4 ∧ rfeEx.stage34 rfe1 cfgEx 1000 4098 (16 * 65520) = 16 * 66407 + 8 ∧
    rfeEx.stage6 rfe1 cfgEx 4096 1000 (16 * 17475 + 4) = 16 * 20859 + 4 ∧ rfeEx.stage7 rfe1 cfgEx 4096 1000 (16 * 20859 + 4) = 16 * 20825 + 8 ∧
    outCode (16 * 20825 + 8) = (20826, false) := by decide +kernel

/-- Sapwood core 2 owns lock 17 and the host writes it (20_register_index.md): UNIT_REFUSE, UNIT_REFUSE_OFS, and the peek. -/
theorem test_lock_refused :
    let s := { part [] with locks := State.reset.locks.set 17 { st := .held, owner := 0x0B02 } }
    (match exec (.lockRelease 0 .host 17) s with
      | .next v => (v.readReg .mgmt 0xB00010, v.readReg .mgmt 0xB00034, v.readReg .mgmt 0xB50444)
      | _ => (0, 0, 0)) = (0x0B344011, 0x50044, 0x40000B02) := by decide +kernel

/-- 12_reference_and_time.md, Table RTU-3, step 2: an edge 36.667 ms after one accepted at 24 frames/s is outside the window. -/
theorem test_rtu_glitch :
    let s := { unitOn 8 [(Reg.RTU_REF_CFG_SRC, 1), (Reg.RTU_STATUS_STATE, 3), (Reg.RTU_REF_RATE_NUM, 24), (Reg.RTU_REF_RATE_DEN, 1)] with
      rtu := { RtuSt.reset with edge := some 0 } }
    (match exec (.refEdge 14666667 1) s with
      | .next v => (v.get Reg.RTU_CNT_GLITCH, v.rtuState, v.rtu.edge)
      | _ => (0, 0, none)) = (1, 3, some 0) := by decide +kernel

/-- 17_thermal_power_and_gauges.md, Table HTP-7, steps 4 and 5: the second sample in a row at or above CRITICAL, not the first, latches
SHUTDOWN. -/
theorem test_htp_shutdown :
    let raw := List.replicate 9 (1792 : Int)
    let hot := fun (n : Nat) => { coldPart [(Reg.HTP_THR_CRIT_CRITICAL, 1792)] with
      htp := { HtpSt.reset with zones := Vector.replicate 9 { dev := 0, broken := false, temp := 1790 }, critical := n } }
    let shut := fun (s : State) => match exec (.htpSample 0 raw) s with
      | .next v => v.flag Reg.HTP_SHUTDOWN_STATUS_SHUTDOWN
      | _ => false
    shut (hot 0) = false ∧ shut (hot 1) = true := by decide +kernel

/-- 03_sensor_links.md: link lane 5 after a marker with sequence number 0x0003 reseeds with 0x4B69_0003. -/
theorem test_lane_seed : scrSeed 5 3 = 0x4B690003 := by decide

/-- The CRC-32 check value of IEEE 802.3 over "123456789". -/
theorem test_crc32 :
    crc32 [0x31#8, 0x32#8, 0x33#8, 0x34#8, 0x35#8, 0x36#8, 0x37#8, 0x38#8, 0x39#8] = 0xCBF43926 := by decide +kernel

/-- R384, Table HIF-2: an SQ doorbell at DEPTH or beyond puts the pair in ERROR. -/
theorem test_doorbell_error :
    (match exec (.sqDoorbell 0 0 8#32) (hostOn QpSt.reset []) with
      | .next v => v.qpState 0
      | _ => 0) = 2 := by decide +kernel

/-- R333: a read of an address that the DRAM does not have stops the machine. -/
theorem test_dram_absent :
    exec (.dramReadReturn 0 0 0x40000000 .good false true 0) { part [] with mss := mssGiB } = .fault (.dramAddressAbsent 0x40000000) := by rfl

/-! ### More hypotheses met -/

/-- FlashAndFuses: an address of slot 1 while slot 1 is not the running one, and the flash is at least 32 MiB. -/
theorem wit_flashCommands :
    let u := (coldPart []).tick 0
    let p := u.get Reg.SCC_FLASH_ADDR
    let run : State := { u with boot := { u.boot with slot := 1 } }
    (u.reaches .scc = true ∧ u.flag Reg.SCC_FLASH_STATUS_BUSY = false ∧ u.writeTemp = false) ∧
      p + 0x10000 ≤ slotBase run.boot.slot ∧ p + 0x10000 ≤ flashSize - 0x10000 ∧ p % 0x10000 = 0 ∧ p % 256 = 0 ∧ p < flashSize := by
  have h : 0x2000000 ≤ flashSize := Nat.le_mul_of_pos_right _ (Nat.two_pow_pos _)
  have p0 : ((coldPart []).tick 0).get Reg.SCC_FLASH_ADDR = 0 := by decide +kernel
  have b1 : slotBase 1 = flashSize / 2 := rfl
  refine ⟨by decide +kernel, ?_⟩
  simp only [p0, b1]
  refine ⟨?_, ?_, trivial, trivial, ?_⟩ <;> omega

/-- DramStaysCanonical, EveryStepKeeps: the state before the release of SYS_RST_N is canonical, and its step answers a next state. -/
theorem wit_steps : State.reset.memOk = true ∧ step State.reset = .next State.reset := ⟨rfl, rfl⟩

/-! ### States that meet the hypotheses of the statements -/

/-- The hypotheses of LaneLockAndEqualiser, clause by clause. -/
theorem wit_laneLockAndEqualiser :
    (let s : State := unitOn 1 [(Reg.SLR_LANE_CFG_LINK 0, 1), (Reg.SLR_LANE_CFG_ADAPT 0, 1), (Reg.SLR_LANE_STATUS_CDR_LOCK 0, 1)]
     let t : Nat := 300000000
     let n : Fin 32 := 0
     let u := s.tick t
     (u.on .slr = true) ∧ (n.val < u.variant.lanes) ∧ (u.get (Reg.SLR_LANE_CFG_LINK n) ≠ 0) ∧ (u.flag (Reg.SLR_LANE_CFG_ADAPT n) = true) ∧ (u.flag (Reg.SLR_LANE_STATUS_CDR_LOCK n) = true) ∧ ((u.lane n).cdrAt + cyclesOf 740000 ≤ u.now)) ∧
    (let s : State := unitOn 1 [(Reg.SLR_LANE_CFG_LINK 0, 1), (Reg.SLR_LANE_CFG_ADAPT 0, 1), (Reg.SLR_LANE_STATUS_CDR_LOCK 0, 1), (Reg.SLR_LANE_STATUS_ADAPT_DONE 0, 1), (Reg.SLR_LANE_STATUS_CODE 0, 4)]
     let t : Nat := 500000000
     let n : Fin 32 := 0
     let u := s.tick t
     (u.on .slr = true) ∧ (n.val < u.variant.lanes) ∧ (u.flag (Reg.SLR_LANE_STATUS_ADAPT_DONE n) = true) ∧ ((u.lane n).lastTrack + cyclesOf 1000000 ≤ u.now)) :=
  ⟨by decide +kernel, by decide +kernel⟩

/-- The hypotheses of PrbsTest, clause by clause. -/
theorem wit_prbsTest :
    (let s : State := part [(Reg.SLR_LANE_TEST_MODE 0, 2), (Reg.SLR_LANE_TEST_INJ 0, 2), (Reg.SLR_LANE_TEST_BURST 0, 3)]
     let t : Nat := 0
     let n : Fin 32 := 0
     let u := s.tick t
     (u.live .slr = true) ∧ (n.val < u.variant.lanes) ∧ (u.get (Reg.SLR_LANE_TEST_MODE n) = 1 ∨ u.get (Reg.SLR_LANE_TEST_MODE n) = 2) ∧ (u.get (Reg.SLR_LANE_TEST_MODE n) = 2) ∧ (u.reaches .slr = true) ∧ (u.get (Reg.SLR_LANE_TEST_INJ n) = 2)) ∧
    (let s : State := part [(Reg.SLR_LANE_TEST_MODE 31, 2), (Reg.SLR_LANE_TEST_INJ 31, 3), (Reg.SLR_LANE_INJ_PERIOD 31, 64)]
     let t : Nat := 0
     let n : Fin 32 := 31
     let u := s.tick t
     (u.live .slr = true) ∧ (n.val < u.variant.lanes) ∧ (u.get (Reg.SLR_LANE_TEST_MODE n) = 2) ∧ (u.get (Reg.SLR_LANE_TEST_INJ n) = 3) ∧ (64 ≤ u.get (Reg.SLR_LANE_INJ_PERIOD n))) :=
  ⟨by decide +kernel, by decide +kernel⟩

/-- The hypotheses of SensorControl, clause by clause. -/
theorem wit_sensorControl :
    (let s : State := part []
     let t : Nat := 0
     let b : Fin 3 := 0
     let entry : List Word := [1#32, 2#32, 3#32, 4#32, 5#32, 6#32, 7#32]
     let u := s.tick t
     (u.reaches .slr = true) ∧ ((u.bus b).words = []) ∧ (entry.length = 7)) ∧
    (let s : State := { part [] with slr := slrBus { words := [], queue := [[0, 1, 2, 3, 4, 5, 6]], running := none, startedAt := 0, results := [] } }
     let t : Nat := 0
     let b : Fin 3 := 0
     let e : List Nat := [0, 1, 2, 3, 4, 5, 6]
     let rest : List (List Nat) := []
     let u := s.tick t
     (u.live .slr = true) ∧ ((u.bus b).running = none) ∧ ((u.bus b).queue = e :: rest) ∧ (bitAt (e.headD 0) 29 = false)) ∧
    (let s : State := { part [] with slr := slrBus { words := [], queue := [], running := some [0, 1, 2, 3, 4, 5, 6], startedAt := 0, results := [] } }
     let t : Nat := 4000000
     let b : Fin 3 := 0
     let e : List Nat := [0, 1, 2, 3, 4, 5, 6]
     let u := s.tick t
     ((u.bus b).running = some e) ∧ (bits (e.headD 0) 31 30 ≠ 3) ∧ (b.val < 2) ∧ ((u.bus b).startedAt + cyclesOf 10000000 ≤ u.now)) :=
  ⟨by decide +kernel, by decide +kernel, by decide +kernel⟩

/-- The hypotheses of Triggers, clause by clause. -/
theorem wit_triggers :
    (let s : State := unitOn 1 [(Reg.RTU_STATUS_ESTABLISHED, 1), (Reg.SLR_TRIG_CFG_LINK 0, 1), (Reg.SLR_LINK_STATUS_STATE 0, 3), (Reg.SLR_LINK_RATE_NUM 0, 24), (Reg.SLR_LINK_RATE_DEN 0, 1), (Reg.SLR_TRIG_OFFSET 0, 500)]
     let t : Nat := 0
     let n : Fin 4 := 0
     let l : Nat := 0
     let g : Nat := 0
     let u := s.tick t
     let ofs := toSigned 32 (u.get (Reg.SLR_TRIG_OFFSET n))
     (u.on .slr = true) ∧ (u.established = true) ∧ (l < 2) ∧ (u.get (Reg.SLR_TRIG_CFG_LINK n) = l + 1) ∧ (u.linkState l = 3) ∧ ((u.link l).stopAt = none) ∧ (u.userInstant l (((u.mediaNs : Int) - ofs).toNat) = some g)) ∧
    (let s : State := { part [(Reg.SLR_TRIG_WIDTH 0, 100)] with slr := { SlrSt.reset with trigHigh := SlrSt.reset.trigHigh.set 0 true } }
     let t : Nat := 0
     let n : Fin 4 := 0
     let u := s.tick t
     (u.live .slr = true) ∧ (getN u.slr.trigHigh n false = true)) :=
  ⟨by decide +kernel, by decide +kernel⟩

/-- The hypotheses of LinkControl, clause by clause. -/
theorem wit_linkControl :
    (let s : State := part [(Reg.SLR_LINK_CFG_SOURCE 0, 1), (Reg.SLR_LINK_STATUS_STATE 0, 2), (Reg.SLR_CNT_HCRC 0, 5)]
     let t : Nat := 0
     let l : Fin 2 := 0
     let u := s.tick t
     (u.reaches .slr = true) ∧ (u.linkUsed l = true) ∧ ((u.linkLanes l).all (fun n => u.get (Reg.SLR_LANE_TEST_MODE n) == 0) = true) ∧ ((u.unit .slr).leaving = false) ∧ (u.linkState l = 2 ∨ u.linkState l = 5) ∧ (u.linkState l = 1 ∨ u.linkState l = 2 ∨ u.linkState l = 5)) ∧
    (let s : State := part [(Reg.SLR_LANE_CFG_LINK 3, 1), (Reg.SLR_LINK_STATUS_STATE 0, 3)]
     let t : Nat := 0
     let l : Fin 2 := 0
     let u := s.tick t
     (u.reaches .slr = true) ∧ (u.linkUsed l = true) ∧ ((u.linkLanes l).all (fun n => u.get (Reg.SLR_LANE_TEST_MODE n) == 0) = true) ∧ ((u.unit .slr).leaving = false) ∧ (u.linkState l = 3) ∧ (u.cs = none)) ∧
    (let s : State := { part [(Reg.SLR_LINK_STATUS_STATE 0, 4)] with slr := slrLink { LinkSt.reset with stopAt := some 0, runoutClosed := 2 } }
     let t : Nat := 0
     let l : Fin 2 := 0
     let u := s.tick t
     let at' := 0
     ((u.unit .slr).leaving = false) ∧ (u.cs = none) ∧ ((u.link l).stopAt = some at') ∧ ((u.link l).frame = none) ∧ (2 ≤ (u.link l).runoutClosed)) :=
  ⟨by decide +kernel, by decide +kernel, by decide +kernel⟩

/-- The hypotheses of Packets, clause by clause. -/
theorem wit_packets :
    (let s : State := part [(Reg.SLR_LINK_STATUS_STATE 0, 3), (Reg.SLR_LINK_FMT_WIDTH 0, 8)]
     let t : Nat := 0
     let l : Fin 2 := 0
     let pkt : List Nat := hdr 0x10000000 0 ++ []
     let h : Header := { typ := 1, stream := 0, dg := false, ob := false, pack := 0, length := 0, line := 0 }
     let body : List Nat := []
     let rest : List Nat := []
     let u := s.tick t
     let v := u.consumed l pkt rest
     (u.live .slr = true) ∧ (u.linkState l ≠ 0) ∧ (front (u.linkWords l pkt) = .packet h body rest) ∧ (h.typ = 1) ∧ (v.linkState l = 3) ∧ ((v.link l).frame = none)) ∧
    (let s : State := { part [(Reg.SLR_LINK_STATUS_STATE 0, 3)] with slr := slrLink { LinkSt.reset with frame := some slr1 } }
     let t : Nat := 0
     let l : Fin 2 := 0
     let pkt : List Nat := hdr 0x20000000 0 ++ []
     let h : Header := { typ := 2, stream := 0, dg := false, ob := false, pack := 0, length := 0, line := 0 }
     let body : List Nat := []
     let rest : List Nat := []
     let u := s.tick t
     (u.live .slr = true) ∧ (u.linkState l ≠ 0) ∧ (front (u.linkWords l pkt) = .packet h body rest) ∧ (h.typ = 2)) ∧
    (let s : State := { part [(Reg.SLR_LINK_STATUS_STATE 0, 3)] with slr := slrLink { LinkSt.reset with frame := some slr1 } }
     let t : Nat := 0
     let l : Fin 2 := 0
     let pkt : List Nat := hdr 0x30000002 1 ++ [0x01020304, 0x05060708, crc32 (wordBytes [0x01020304, 0x05060708])]
     let h : Header := { typ := 3, stream := 0, dg := false, ob := false, pack := 0, length := 2, line := 1 }
     let body : List Nat := [0x01020304, 0x05060708, crc32 (wordBytes [0x01020304, 0x05060708])]
     let rest : List Nat := []
     let u := s.tick t
     (u.live .slr = true) ∧ (u.linkState l ≠ 0) ∧ (front (u.linkWords l pkt) = .packet h body rest) ∧ (h.typ = 3)) ∧
    (let s : State := { part [(Reg.SLR_LINK_STATUS_STATE 0, 3)] with slr := slrLink { LinkSt.reset with frame := some slr1 } }
     let t : Nat := 0
     let l : Fin 2 := 0
     let pkt : List Nat := hdr 0x40000001 0 ++ [0x01020304, crc32 (wordBytes [0x01020304])]
     let h : Header := { typ := 4, stream := 0, dg := false, ob := false, pack := 0, length := 1, line := 0 }
     let body : List Nat := [0x01020304, crc32 (wordBytes [0x01020304])]
     let rest : List Nat := []
     let u := s.tick t
     let v := u.consumed l pkt rest
     let f := slr1
     (u.live .slr = true) ∧ (u.linkState l ≠ 0) ∧ (front (u.linkWords l pkt) = .packet h body rest) ∧ (h.typ = 4) ∧ ((v.link l).frame = some f) ∧ (bodyOk h body = true)) ∧
    (let s : State := { part [(Reg.SLR_LINK_STATUS_STATE 0, 3)] with slr := slrLink { LinkSt.reset with frame := some slr1 } }
     let t : Nat := 0
     let l : Fin 2 := 0
     let pkt : List Nat := hdr 0x50000001 0 ++ [0x01020304, crc32 (wordBytes [0x01020304])]
     let h : Header := { typ := 5, stream := 0, dg := false, ob := false, pack := 0, length := 1, line := 0 }
     let body : List Nat := [0x01020304, crc32 (wordBytes [0x01020304])]
     let rest : List Nat := []
     let u := s.tick t
     (u.live .slr = true) ∧ (u.linkState l ≠ 0) ∧ (front (u.linkWords l pkt) = .packet h body rest) ∧ (h.typ = 5) ∧ (bodyOk h body = true) ∧ (h.length ≠ 0) ∧ (bits (body.headD 0) 31 16 ≠ 0x8000) ∧ ((u.unit .slr).leaving = false) ∧ (u.cs = none)) ∧
    (let s : State := { part [(Reg.SLR_LINK_STATUS_STATE 0, 3)] with slr := slrLink { LinkSt.reset with frame := some slr1 } }
     let t : Nat := 0
     let l : Fin 2 := 0
     let pkt : List Nat := [0x10000000, 0, 0xF0000000]
     let u := s.tick t
     let w0 := 0x10000000
     let w1 := 0
     let more := [0, 0xF0000000]
     (u.live .slr = true) ∧ (u.linkState l ≠ 0) ∧ (front (u.linkWords l pkt) = .bad w0 w1 more) ∧ ((u.unit .slr).leaving = false) ∧ (u.cs = none)) :=
  ⟨by decide +kernel, by decide +kernel, by decide +kernel, by decide +kernel, by decide +kernel, by decide +kernel⟩

/-- The hypotheses of LineTaken, clause by clause. -/
theorem wit_lineTaken :
    (let s : State := { part [(Reg.SLR_LINK_STATUS_STATE 0, 3)] with slr := slrLink { LinkSt.reset with frame := some slr1 } }
     let l : Fin 2 := 0
     let f : SlrFrame := slr1
     let h : Header := { typ := 3, stream := 0, dg := false, ob := false, pack := 0, length := 2, line := 1 }
     let body : List Nat := [0x01020304, 0x05060708, crc32 (wordBytes [0x01020304, 0x05060708])]
     ((s.link l).frame = some f) ∧ ((s.link l).discard = false) ∧ (h.stream = f.fmt.stream) ∧ (h.ob = false) ∧ (h.line < f.fmt.lines) ∧ (f.lastLine.all (fun p => decide (p < f.fmt.ob + h.line)) = true) ∧ (h.length = f.fmt.width * (if f.fmt.dg then 2 else 1) * packBits f.fmt.pack / 32) ∧ (h.dg = f.fmt.dg) ∧ (h.pack = f.fmt.pack) ∧ (bodyOk h body = true) ∧ (f.next ≤ h.line) ∧ (s.mediaNs ≤ f.deadline h.line)) := by decide +kernel

/-- The hypotheses of FrameLines, clause by clause. -/
theorem wit_frameLines :
    (let s : State := { part [(Reg.SLR_LINK_STATUS_STATE 0, 3)] with slr := slrLink { LinkSt.reset with frame := some slr1 } }
     let t : Nat := 2000
     let l : Fin 2 := 0
     let f : SlrFrame := slr1
     let u := s.tick t
     ((u.link l).frame = some f) ∧ (u.live .slr = true) ∧ (f.deadline f.next ≤ u.mediaNs)) ∧
    (let s : State := { part [] with slr := slrLink { LinkSt.reset with frame := some { slr1 with pattern := true } } }
     let t : Nat := 2000
     let l : Fin 2 := 0
     let f : SlrFrame := { slr1 with pattern := true }
     let u := s.tick t
     ((u.link l).frame = some f) ∧ (f.pattern = true) ∧ (f.tag.stamp + f.fmt.trd ≤ u.mediaNs) ∧ ((u.unit .slr).leaving = false) ∧ (u.cs = none)) ∧
    (let s : State := unitOn 1 [(Reg.RTU_STATUS_ESTABLISHED, 1), (Reg.SLR_LINK_CFG_SOURCE 0, 1), (Reg.SLR_LINK_STATUS_STATE 0, 3), (Reg.SLR_LINK_RATE_NUM 0, 24), (Reg.SLR_LINK_RATE_DEN 0, 1)]
     let t : Nat := 0
     let l : Fin 2 := 0
     let g : Nat := 0
     let u := s.tick t
     (u.on .slr = true) ∧ (u.flag (Reg.SLR_LINK_CFG_SOURCE l) = true) ∧ (u.linkState l = 3) ∧ ((u.link l).frame = none) ∧ (u.established = true) ∧ (u.userInstant l u.mediaNs = some g)) ∧
    (let s : State := part []
     let t : Nat := 400000000
     let l : Fin 2 := 0
     let u := s.tick t
     ((u.link l).statAt + 1000000000 ≤ u.mediaNs)) :=
  ⟨by decide +kernel, by decide +kernel, by decide +kernel, by decide +kernel⟩

/-- The hypotheses of TableSwaps, clause by clause. -/
theorem wit_tableSwaps :
    (let s : State := unitOn 2 ((Reg.RFE_TBL_STATUS_PENDING, 2) :: running)
     let t : Nat := 0
     let c : Instr := .swapBlack 0
     let m : Nat := 1
     let u := s.tick t
     ((c, m) ∈ [(Instr.swapBlack t, 1), (.swapCol t, 2), (.swapGain t, 4)]) ∧ (u.reaches .rfe = true) ∧ (u.rfeIdle = false)) ∧
    (let s : State := part [(Reg.RFE_TBL_STATUS_PENDING, 2)]
     let t : Nat := 0
     let c : Instr := .swapGain 0
     let m : Nat := 4
     let u := s.tick t
     ((c, m) ∈ [(Instr.swapBlack t, 1), (.swapCol t, 2), (.swapGain t, 4)]) ∧ (u.reaches .rfe = true) ∧ (u.rfeIdle = true) ∧ (u.csHolds 2 = false) ∧ (u.get Reg.RFE_TBL_STATUS_BUSY = 0)) :=
  ⟨by decide +kernel, by decide +kernel⟩

/-- The hypotheses of the second part of TableSwaps, clause by clause. -/
theorem wit_tableSwaps2 :
    (let s : State := part [(Reg.RFE_TBL_STATUS_BUSY, 5), (Reg.RFE_TBL_STATUS_PENDING, 5)]
     let t : Nat := 0
     let u := s.tick t
     (u.get Reg.RFE_TBL_STATUS_BUSY ≠ 0) ∧ (u.cal.engSwaps = 0)) := by decide +kernel

/-- The hypotheses of TableWindows, clause by clause. -/
theorem wit_tableWindows :
    (let s : State := part []
     let t : Nat := 0
     let ofs : Nat := 0x8400
     let u := s.tick t
     let stuck := bitAt (u.get Reg.RFE_TBL_STATUS_PENDING ||| u.get Reg.RFE_TBL_STATUS_BUSY) (tblOf ofs).1
     let owned := bitAt u.calOwned (tblOf ofs).1
     (u.reaches .rfe = true) ∧ (stuck = false) ∧ (owned = false)) ∧
    (let s : State := part [(Reg.RFE_TBL_STATUS_PENDING, 4)]
     let t : Nat := 0
     let ofs : Nat := 0x8400
     let u := s.tick t
     let stuck := bitAt (u.get Reg.RFE_TBL_STATUS_PENDING ||| u.get Reg.RFE_TBL_STATUS_BUSY) (tblOf ofs).1
     (u.reaches .rfe = true) ∧ (stuck = true)) ∧
    (let s : State := part [(Reg.RFE_CAL_CFG_MODE, 1), (Reg.RFE_CAL_CFG_TRK_GAIN, 1)]
     let t : Nat := 0
     let ofs : Nat := 0x8400
     let u := s.tick t
     let stuck := bitAt (u.get Reg.RFE_TBL_STATUS_PENDING ||| u.get Reg.RFE_TBL_STATUS_BUSY) (tblOf ofs).1
     let owned := bitAt u.calOwned (tblOf ofs).1
     (u.reaches .rfe = true) ∧ (stuck = false) ∧ (owned = true)) ∧
    (let s : State := { part [] with rfe := { RfeSt.reset with frame := some rfe1 } }
     let t : Nat := 0
     let k : Nat := 2
     let f : RfeFrame := rfe1
     let u := s.tick t
     (u.rfe.frame = some f) ∧ (k < 3)) :=
  ⟨by decide +kernel, by decide +kernel, by decide +kernel, by decide +kernel⟩

/-- The hypotheses of RowsWritten, clause by clause. -/
theorem wit_rowsWritten :
    (let s : State := { part [(Reg.RFE_CFG_TAP_CORR, 1), (Reg.RFE_CFG_LINK, 1)] with rfe := { RfeSt.reset with frame := some rfe1, outs := [raw1] } }
     let t : Nat := 0
     let f : RfeFrame := rfe1
     let base : Nat := 0x200000
     let u := s.tick t
     (u.live .rfe = true) ∧ (u.rfe.frame = some f) ∧ (f.ready (u.rfeCfg f).d = true) ∧ (f.next + 1 < f.fmt.lines) ∧ (f.tag.accepted = []) ∧ (bitAt (u.rfeCfg f).cfg 31 = false) ∧ (bitAt (u.rfeCfg f).cfg 30 = true) ∧ ((u.rawOut f.tag.seq).bind (·.corr) = some base)) := by decide +kernel

/-- The hypotheses of the second part of CalibrationRuns, clause by clause. -/
theorem wit_calibrationRuns2 :
    (let s : State := part []
     let t : Nat := 0
     let w : Word := 0x80000001#32
     let u := s.tick t
     (u.reaches .rfe = true) ∧ (u.calModeRefusal w.toNat = none)) ∧
    (let s : State := part []
     let t : Nat := 0
     let w : Word := 0xC0000000#32
     let u := s.tick t
     let code := 0x020E
     (u.reaches .rfe = true) ∧ (u.calModeRefusal w.toNat = some code)) :=
  ⟨by decide +kernel, by decide +kernel⟩

/-- The hypotheses of CalibrationRuns, clause by clause. -/
theorem wit_calibrationRuns :
    (let s : State := unitOn 2 ((Reg.RFE_CAL_STATE_STATE, 2) :: (Reg.RFE_CAL_CFG_TRK_COL, 1) :: running)
     let t : Nat := 0
     let u := s.tick t
     let mask := trkBits (u.reg Reg.RFE_CAL_CFG.ofs).toNat ||| u.cal.release
     (u.calState = 2) ∧ (mask ≠ 0) ∧ (u.rfeIdle = false)) ∧
    (let s : State := part [(Reg.RFE_CAL_STATE_STATE, 4), (Reg.RFE_CAL_STATE_FRAMES, 1), (Reg.RFE_CAL_REF_N_FRAMES, 1)]
     let t : Nat := 0
     let u := s.tick t
     (u.calState = 4 ∨ u.calState = 5) ∧ (max 1 (u.get Reg.RFE_CAL_REF_N_FRAMES) ≤ u.get Reg.RFE_CAL_STATE_FRAMES)) ∧
    (let s : State := part [(Reg.RFE_CAL_CFG_MODE, 1)]
     let t : Nat := 0
     let u := s.tick t
     (u.reaches .rfe = true) ∧ (u.get Reg.RFE_CAL_CFG_MODE = 1)) ∧
    (let s : State := part [(Reg.RFE_CAL_CFG_MODE, 2)]
     let t : Nat := 0
     let u := s.tick t
     (u.reaches .rfe = true) ∧ (u.get Reg.RFE_CAL_CFG_MODE = 2) ∧ (u.calBusy = false)) ∧
    (let s : State := { unitOn 2 ((Reg.RFE_CAL_STATE_STATE, 6) :: running) with cal := { CalSt.reset with staged := true, stepOwn := 3 } }
     let t : Nat := 0
     let u := s.tick t
     (u.reaches .rfe = true) ∧ (u.calState = 6) ∧ (u.cal.staged = true) ∧ (u.cal.stepOwn ≠ 0) ∧ (u.rfeIdle = false)) ∧
    (let s : State := part [(Reg.RFE_CAL_STATE_STATE, 6), (Reg.RFE_CAL_STATE_FRAMES, 4), (Reg.RFE_CAL_ABANDONED, 2)]
     let t : Nat := 0
     let u := s.tick t
     (u.reaches .rfe = true) ∧ (u.calState = 6) ∧ (u.cal.accepting = false)) :=
  ⟨by decide +kernel, by decide +kernel, by decide +kernel, by decide +kernel, by decide +kernel, by decide +kernel⟩

/-- The hypotheses of SceneFrames, clause by clause. -/
theorem wit_sceneFrames :
    (let s : State := { unitOn 3 [] with rfe := { RfeSt.reset with outs := [{ raw1 with tag := tagOn }] }, plan := planOf [book 3 0 [1, 2, 3]] }
     let t : Nat := 0
     let o : RawOut := { raw1 with tag := tagOn }
     let u := s.tick t
     (u.on .cse = true) ∧ (u.cse.scene = none) ∧ (u.nextScene = some o) ∧ (min 4 o.h ≤ o.written)) ∧
    (let s : State := { part [] with rfe := { RfeSt.reset with outs := [raw1] }, cse := { CseSt.reset with scene := some scene1 } }
     let t : Nat := 0
     let o : RawOut := raw1
     let f : SceneFrame := scene1
     let u := s.tick t
     (u.live .cse = true) ∧ (u.cse.scene = some f) ∧ (u.rawOut f.tag.seq = some o) ∧ (f.takers = []) ∧ (f.next + 1 < f.h) ∧ (f.histOut = none) ∧ (min (f.next + sceneReach (bits o.cfg 27 26) (u.get Reg.CSE_SCN_CFG_DEMOSAIC) + 1) f.h ≤ o.written)) ∧
    (let s : State := { part [] with rfe := { RfeSt.reset with outs := [raw1] }, cse := { CseSt.reset with scene := some { scene1 with next := 1 } } }
     let t : Nat := 0
     let o : RawOut := raw1
     let f : SceneFrame := { scene1 with next := 1 }
     let u := s.tick t
     (u.live .cse = true) ∧ (u.cse.scene = some f) ∧ (u.rawOut f.tag.seq = some o) ∧ (f.takers = []) ∧ (f.next + 1 = f.h) ∧ (f.histOut = none) ∧ (f.h ≤ o.written)) ∧
    (let s : State := { unitOn 3 [(Reg.CSE_TNR_CFG_MODE, 2), (Reg.CSE_TNR_CFG_MF_QUEUE, 5)] with pool := poolOf 5 { QueueSt.empty with list := [[cell0]] } }
     let t : Nat := 0
     let c : PCell := cell0
     let cells : List PCell := []
     let u := s.tick t
     (u.on .cse = true) ∧ (u.get Reg.CSE_TNR_CFG_MODE = 2) ∧ (u.get Reg.CSE_TNR_CFG_MF_QUEUE ≠ 0) ∧ ((u.readItem (u.get Reg.CSE_TNR_CFG_MF_QUEUE) 4096).1 = c :: cells) ∧ (itemPoison (c :: cells) = 0)) ∧
    (let s : State := part []
     let t : Nat := 0
     let u := s.tick t
     (u.reaches .cse = true)) ∧
    (let s : State := { part [] with cse := { CseSt.reset with scene := some scene1 } }
     let t : Nat := 0
     let f : SceneFrame := scene1
     let u := s.tick t
     let k := .demosaic
     (u.cse.scene = some f) ∧ (k = CseBuf.demosaic ∨ k = .raw [])) :=
  ⟨by decide +kernel, by decide +kernel, by decide +kernel, by decide +kernel, by decide +kernel, by decide +kernel⟩

/-- The hypotheses of RenderTables, clause by clause. -/
theorem wit_renderTables :
    (let s : State := unitOn 3 ((Reg.UNIT_STATUS_ENABLED 2, 1) :: running)
     let t : Nat := 0
     let p : Nat := 7
     let u := s.tick t
     (p < u.variant.renderPaths) ∧ (u.reaches .cse = true) ∧ (u.get (Reg.RP_LUT_STATUS_STATE p) = 0) ∧ (u.addr40 (Reg.RP_LUT_ADDR_LO p) (Reg.RP_LUT_ADDR_HI p) % 64 = 0) ∧ (u.get (Reg.RP_TBL_STATUS_STATE p) = 0) ∧ (u.rpSumsOk p (1 - u.get (Reg.RP_TBL_STATUS_ACTIVE p)) = true) ∧ (u.cseIdle = false)) ∧
    (let s : State := { part [] with cse := { CseSt.reset with rps := CseSt.reset.rps.set 0 { RpSt.reset with tbl := RpSt.reset.tbl.set 1 [(0, 5)] } } }
     let t : Nat := 0
     let p : Nat := 0
     let u := s.tick t
     (p < u.variant.renderPaths) ∧ (u.reaches .cse = true) ∧ (u.get (Reg.RP_TBL_STATUS_STATE p) = 0) ∧ (u.rpSumsOk p (1 - u.get (Reg.RP_TBL_STATUS_ACTIVE p)) = false)) ∧
    (let s : State := unitOn 3 ((Reg.UNIT_STATUS_ENABLED 2, 1) :: (Reg.RP_LUT_STATUS_STATE 0, 1) :: running)
     let t : Nat := 0
     let p : Nat := 0
     let u := s.tick t
     (p < u.variant.renderPaths) ∧ (u.get (Reg.RP_LUT_STATUS_STATE p) = 1) ∧ (u.cseIdle = false)) ∧
    (let s : State := { part [] with cse := { CseSt.reset with rps := CseSt.reset.rps.set 0 { RpSt.reset with heldLoad := true } } }
     let t : Nat := 0
     let p : Nat := 0
     let u := s.tick t
     (p < u.variant.renderPaths) ∧ ((u.rp p).heldLoad = true) ∧ (u.rpRetained p true (1 - u.get (Reg.RP_LUT_STATUS_ACTIVE p)) = false) ∧ (u.get (Reg.RP_TBL_STATUS_STATE p) ≠ 3)) :=
  ⟨by decide +kernel, by decide +kernel, by decide +kernel, by decide +kernel⟩

/-- The hypotheses of EncodeSessions, clause by clause. -/
theorem wit_encodeSessions :
    (let s : State := { unitOn 4 [(Reg.PCD_SES_CFG_EN 0, 1)] with cse := cseRender, plan := planOf [book 3 0 [1, 2, 3, 4]], paths := inFlight5 }
     let t : Nat := 0
     let i : Fin 4 := 0
     let b : Booking := book 3 0 [1, 2, 3, 4]
     let o : RenderOut := render1
     let n : Nat := 5
     let u := s.tick t
     let w := u.boundary (.pcd i) o.tag.begun false
     (u.on .pcd = true) ∧ ((u.enc i).pic = none) ∧ (u.encPath i = some b) ∧ (u.nextPicture i b = some (o, n)) ∧ (w.flag (Reg.PCD_SES_CFG_EN i) = true)) ∧
    (let s : State := { part [] with pcd := pcdEnc { EncSt.reset with pic := some pic1 } }
     let t : Nat := 0
     let i : Fin 4 := 0
     let p : EncPic := pic1
     let u := s.tick t
     (u.live .pcd = true) ∧ ((u.enc i).pic = some p)) ∧
    (let s : State := part []
     let t : Nat := 0
     let u := s.tick t
     (u.reaches .pcd = true)) :=
  ⟨by decide +kernel, by decide +kernel, by decide +kernel⟩

/-- The hypotheses of DecodeSessions, clause by clause. -/
theorem wit_decodeSessions :
    (let s : State := unitOn 4 [(Reg.RTU_STATUS_ESTABLISHED, 1), (Reg.PCD_DEC_CFG_EN 0, 1)]
     let t : Nat := 0
     let i : Fin 2 := 0
     let tag : FrameTag := (((s.tick t).decDrop 0).sourceBoundary 6 0 (s.tick t).mediaNs [.pcd 4] []).1
     let w : State := (((s.tick t).decDrop 0).sourceBoundary 6 0 (s.tick t).mediaNs [.pcd 4] []).2
     let u := s.tick t
     let d := u.decDrop i
     (u.on .pcd = true) ∧ (u.established = true) ∧ ((d.sourceBoundary (6 + i) (d.dec i).counter d.mediaNs [.pcd (4 + i)] []).1 = tag) ∧ (w.flag (Reg.PCD_DEC_CFG_EN i) = true) ∧ ((w.dec i).ended = false)) ∧
    (let s : State := { part [(Reg.PCD_DEC_MAX_W 0, 64), (Reg.PCD_DEC_MAX_H 0, 64), (Reg.PCD_DEC_CFG_OUT_COUNT 0, 2)] with pcd := pcdDec { DecSt.reset with frame := some tag1 } }
     let t : Nat := 0
     let i : Fin 2 := 0
     let tag : FrameTag := tag1
     let p : DecPic := dec1
     let u := s.tick t
     (u.live .pcd = true) ∧ ((u.dec i).frame = some tag) ∧ (p.unsupported = false) ∧ (p.w ≤ u.get (Reg.PCD_DEC_MAX_W i)) ∧ (p.h ≤ u.get (Reg.PCD_DEC_MAX_H i)) ∧ ((u.dec i).discarding = false) ∧ ((u.dec i).concealed = none) ∧ (p.missing = none) ∧ (p.dataError = false) ∧ ((u.dec i).parity = false) ∧ (p.hashMismatch = false)) ∧
    (let s : State := unitOn 4 []
     let t : Nat := 0
     let u := s.tick t
     (u.on .pcd = true)) :=
  ⟨by decide +kernel, by decide +kernel, by decide +kernel⟩

/-- The hypotheses of PathJobs, clause by clause. -/
theorem wit_pathJobs :
    (let s : State := { unitOn 5 [(Reg.RPK_ENG_CFG_MODE 0, 1)] with plan := planOf [book 4 0 [1, 2, 5]], rfe := { RfeSt.reset with outs := [{ raw1 with tag := tagOn }] }, clip := clipOf reel1, paths := inFlight5 }
     let t : Nat := 0
     let e : Fin 4 := 0
     let b : Booking := book 4 0 [1, 2, 5]
     let o : RawOut := { raw1 with tag := tagOn }
     let u := s.tick t
     (u.on .rpk = true) ∧ ((u.eng e).job = none) ∧ ((u.eng e).sw = none) ∧ (u.get (Reg.RPK_ENG_CFG_MODE e) = 1) ∧ (u.engPath e = some b) ∧ (u.nextPack e b = some o) ∧ (o.h ≤ o.written)) ∧
    (let s : State := { part [] with rfe := { RfeSt.reset with outs := [raw1] }, clip := clipOf reel1, rpk := rpkOf { EngSt.reset with job := some job1 } }
     let t : Nat := 0
     let e : Fin 4 := 0
     let o : RawOut := raw1
     let j : PathJob := job1
     let src : Nat := 0x200000
     let r : Reservation := resv1
     let u := s.tick t
     ((u.eng e).job = some j) ∧ (u.rawOut j.seq = some o) ∧ ((if j.src = 0 then o.corr else o.orig) = some src) ∧ (u.reservation j.reel j.path j.num = some r)) :=
  ⟨by decide +kernel, by decide +kernel⟩

/-- The hypotheses of SoftwareJobs, clause by clause. -/
theorem wit_softwareJobs :
    (let s : State := part []
     let t : Nat := 0
     let u := s.tick t
     (u.reaches .rpk = true)) ∧
    (let s : State := unitOn 5 [(Reg.RPK_ENG_CFG_MODE 0, 2), (Reg.RPK_RING_TAIL_TAIL 0, 1), (Reg.RPK_RING_SIZE_SIZE 0, 8)]
     let t : Nat := 0
     let e : Fin 4 := 0
     let u := s.tick t
     let size := max 1 (u.get (Reg.RPK_RING_SIZE_SIZE e))
     (u.on .rpk = true) ∧ ((u.eng e).job = none) ∧ ((u.eng e).sw = none) ∧ (u.get (Reg.RPK_ENG_CFG_MODE e) = 2) ∧ (u.cs = none) ∧ (u.get (Reg.RPK_RING_HEAD_HEAD e) ≠ u.get (Reg.RPK_RING_TAIL_TAIL e)) ∧ ((u.get (Reg.RPK_CPL_TAIL_TAIL e) + 1) % size ≠ u.get (Reg.RPK_CPL_HEAD_HEAD e))) ∧
    (let s : State := { part [(Reg.RPK_RING_SIZE_SIZE 0, 8)] with rpk := rpkOf { EngSt.reset with sw := some (2#8 :: List.replicate 63 0#8) } }
     let t : Nat := 0
     let e : Fin 4 := 0
     let d : List Byte := 2#8 :: List.replicate 63 0#8
     let u := s.tick t
     ((u.eng e).sw = some d) ∧ (u.swAbsent e = none)) ∧
    (let s : State := { part [] with rpk := rpkOf { EngSt.reset with sw := some (1#8 :: List.replicate 63 0#8) } }
     let t : Nat := 0
     let e : Fin 4 := 0
     let a : Nat := 0
     let u := s.tick t
     (u.swAbsent e = some a)) ∧
    (let s : State := { part [] with rpk := rpkOf { EngSt.reset with job := some job1 } }
     let t : Nat := 0
     let e : Fin 4 := 0
     let j : PathJob := job1
     let u := s.tick t
     ((u.eng e).job = some j)) :=
  ⟨by decide +kernel, by decide +kernel, by decide +kernel, by decide +kernel, by decide +kernel⟩

/-- The hypotheses of TimingGenerators, clause by clause. -/
theorem wit_timingGenerators :
    (let s : State := { unitOn 6 [(Reg.RTU_STATUS_ESTABLISHED, 1), (Reg.ORE_TG_CFG_EN 0, 1)] with cse := cseRender, plan := planOf [book 1 0 [1, 2, 3, 6]], paths := inFlight5 }
     let t : Nat := 10
     let g : Fin 8 := 0
     let f : Shown := shown1
     let u := s.tick t
     let w := (u.boundary (.tg g) (((u.tgPick g).map (fun f => f.tag.begun)).getD []) false).oreSync
     (u.on .ore = true) ∧ (u.established = true) ∧ (((u.boundary (.tg g) (((u.tgPick g).map (fun f => f.tag.begun)).getD []) false).tg g).palPending = false) ∧ (w.flag (Reg.ORE_TG_CFG_EN g) = true) ∧ (w.tgPick g = some f)) ∧
    (let s : State := { unitOn 6 [(Reg.RTU_STATUS_ESTABLISHED, 1), (Reg.ORE_TG_CFG_EN 0, 1)] with ore := oreTg { TgSt.reset with shown := some shown1 } }
     let t : Nat := 0
     let g : Fin 8 := 0
     let f : Shown := shown1
     let u := s.tick t
     let w := (u.boundary (.tg g) (((u.tgPick g).map (fun f => f.tag.begun)).getD []) false).oreSync
     (u.on .ore = true) ∧ (u.established = true) ∧ (((u.boundary (.tg g) (((u.tgPick g).map (fun f => f.tag.begun)).getD []) false).tg g).palPending = false) ∧ (w.flag (Reg.ORE_TG_CFG_EN g) = true) ∧ (w.tgPick g = none) ∧ ((w.tg g).shown = some f)) ∧
    (let s : State := { unitOn 6 [(Reg.RTU_STATUS_ESTABLISHED, 1), (Reg.ORE_TG_CFG_EN 0, 1)] with ore := oreTg { TgSt.reset with shown := some shown1, activeNs := some 0 } }
     let t : Nat := 0
     let g : Fin 8 := 0
     let f : Shown := shown1
     let u := s.tick t
     (u.on .ore = true) ∧ (u.established = true) ∧ (u.flag (Reg.ORE_TG_CFG_EN g) = true) ∧ ((u.tg g).activeNs.isSome = true) ∧ ((u.tg g).shown = some f)) ∧
    (let s : State := unitOn 6 [(Reg.ORE_PL_CFG_TX_EN 0, 1), (Reg.ORE_PL_CFG_GROUP 0, 2)]
     let t : Nat := 0
     let sink : Nat := 3
     let n : Nat := 5
     let low : Nat := 0
     let u := s.tick t
     (u.on .ore = true) ∧ (n ≠ 0) ∧ (sink < 16) ∧ ((List.range 16).find? (fun m => u.flag (Reg.ORE_PL_CFG_TX_EN m) && decide (m ≤ sink ∧ sink < m + groupLanes (u.get (Reg.ORE_PL_CFG_GROUP m)))) = some low)) :=
  ⟨by decide +kernel, by decide +kernel, by decide +kernel, by decide +kernel⟩

/-- The hypotheses of the second part of TimingGenerators, clause by clause. -/
theorem wit_timingGenerators2 :
    (let s : State := unitOn 6 [(Reg.ORE_TG_CFG_EN 0, 1)]
     let t : Nat := 0
     let g : Fin 8 := 0
     let u := s.tick t
     (u.reaches .ore = true) ∧ (u.enabled .ore = true) ∧ (u.flag (Reg.ORE_TG_CFG_EN g) = true)) ∧
    (let s : State := { part [] with ore := oreTg { TgSt.reset with pal := TgSt.reset.pal.set 1 [(3, 7)] } }
     let t : Nat := 0
     let g : Fin 8 := 0
     let u := s.tick t
     (u.reaches .ore = true) ∧ (u.enabled .ore = false ∨ u.flag (Reg.ORE_TG_CFG_EN g) = false)) :=
  ⟨by decide +kernel, by decide +kernel⟩

/-- The hypotheses of ReturnIngest, clause by clause. -/
theorem wit_returnIngest :
    (let s : State := unitOn 6 [(Reg.ORE_RI_STATUS_STATE 0, 1), (Reg.ORE_RI_CFG_EN 0, 1)]
     let t : Nat := 0
     let i : Fin 4 := 0
     let u := s.tick t
     (u.on .ore = true) ∧ (u.get (Reg.ORE_RI_STATUS_STATE i) = 1)) ∧
    (let s : State := { unitOn 6 [(Reg.ORE_RI_STATUS_STATE 0, 2), (Reg.ORE_RI_CFG_EN 0, 1), (Reg.ORE_RI_CFG_RING_M1 0, 3), (Reg.ORE_RI_FMT_ROW 0, 1), (Reg.ORE_RI_RATE_NUM 0, 24), (Reg.ORE_RI_RATE_DEN 0, 1)] with plan := planOf [{ book 1 0 [6] with src := 2 }] }
     let t : Nat := 0
     let i : Fin 4 := 0
     let row : Nat := 1
     let num : Nat := 25
     let den : Nat := 1
     let wide : Bool := false
     let psf : Bool := false
     let u := s.tick t
     let ok := u.riMatches i row wide psf num den
     let locked := 2 ≤ u.get (Reg.ORE_RI_STATUS_STATE i)
     (u.on .ore = true) ∧ (locked) ∧ (ok = false)) ∧
    (let s : State := { unitOn 6 [(Reg.ORE_RI_STATUS_STATE 0, 2), (Reg.ORE_RI_CFG_EN 0, 1), (Reg.ORE_RI_CFG_RING_M1 0, 3), (Reg.ORE_RI_FMT_ROW 0, 1), (Reg.ORE_RI_RATE_NUM 0, 24), (Reg.ORE_RI_RATE_DEN 0, 1)] with plan := planOf [{ book 1 0 [6] with src := 2 }] }
     let t : Nat := 0
     let i : Fin 4 := 0
     let row : Nat := 1
     let num : Nat := 24
     let den : Nat := 1
     let wide : Bool := false
     let psf : Bool := false
     let u := s.tick t
     let ok := u.riMatches i row wide psf num den
     let r := u.sourceBoundary (2 + i) (((u.ri i).seq + 1) % 2 ^ 32) u.mediaNs [.ri i]
      (if ok then (u.ri i).waiting else (u.riPaths i).map (·.path))
     let locked := 2 ≤ u.get (Reg.ORE_RI_STATUS_STATE i)
     (u.on .ore = true) ∧ (locked) ∧ (ok = true) ∧ (r.1.accepted ≠ [])) ∧
    (let s : State := { unitOn 6 [(Reg.ORE_RI_STATUS_STATE 0, 3), (Reg.ORE_RI_CFG_EN 0, 1)] with ore := oreRi { RiSt.reset with frame := some ri1 } }
     let t : Nat := 0
     let i : Fin 4 := 0
     let f : RiFrameSt := ri1
     let u := s.tick t
     let locked := 2 ≤ u.get (Reg.ORE_RI_STATUS_STATE i)
     (u.on .ore = true) ∧ ((u.ri i).frame = some f) ∧ (u.riPaths i = []) ∧ (locked)) :=
  ⟨by decide +kernel, by decide +kernel, by decide +kernel, by decide +kernel⟩

/-- The hypotheses of PanelPorts, clause by clause. -/
theorem wit_panelPorts :
    (let s : State := part [(Reg.ORE_PNL_STATUS_STATE 0, 2)]
     let t : Nat := 0
     let k : Fin 2 := 0
     let u := s.tick t
     (u.reaches .ore = true) ∧ (u.pnlState k = 2)) ∧
    (let s : State := part [(Reg.ORE_PNL_STATUS_STATE 1, 1)]
     let t : Nat := 0
     let k : Fin 2 := 1
     let u := s.tick t
     (u.reaches .ore = true) ∧ (u.pnlState k ≠ 2)) ∧
    (let s : State := part [(Reg.ORE_PNL_STATUS_STATE 0, 4)]
     let t : Nat := 0
     let k : Fin 2 := 0
     let u := s.tick t
     (u.reaches .ore = true) ∧ (u.pnlState k = 4 ∨ u.pnlState k = 5)) ∧
    (let s : State := unitOn 6 [(Reg.ORE_PNL_STATUS_STATE 0, 3)]
     let t : Nat := 0
     let k : Fin 2 := 0
     let u := s.tick t
     (u.reaches .ore = true) ∧ (u.pnlState k = 3) ∧ (u.on .ore = true) ∧ (u.pnlBusy (u.get (Reg.ORE_PNL_CFG_TG k)) = false) ∧ ((u.pnl k).exitQueued = false)) ∧
    (let s : State := unitOn 6 [(Reg.ORE_PNL_STATUS_STATE 0, 1), (Reg.ORE_PNL_STATUS_HPD 0, 1)]
     let t : Nat := 0
     let k : Fin 2 := 0
     let u := s.tick t
     (u.on .ore = true) ∧ (u.pnlState k = 1)) :=
  ⟨by decide +kernel, by decide +kernel, by decide +kernel, by decide +kernel, by decide +kernel⟩

/-- The hypotheses of Senders, clause by clause. -/
theorem wit_senders :
    (let s : State := { unitOn 6 [(Reg.ORE_TX_CFG_EN 0, 1), (Reg.ORE_TG_H_HA 0, 8), (Reg.ORE_TG_V_VA 0, 2), (Reg.ORE_TX_PKT_BYTES 0, 10)] with ore := { OreSt.reset with txs := OreSt.reset.txs.set 0 { TxSt.reset with frame := some shown1 } } }
     let t : Nat := 0
     let k : Fin 8 := 0
     let f : Shown := shown1
     let u := s.tick t
     (u.on .ore = true) ∧ (u.flag (Reg.ORE_TX_CFG_EN k) = true) ∧ (k.val % 4 < 2) ∧ ((u.txs k).frame = some f)) ∧
    (let s : State := { unitOn 6 [(Reg.ORE_TX_CFG_EN 2, 1), (Reg.ORE_TX_CFG_PTIME 2, 1)] with ore := { OreSt.reset with txs := OreSt.reset.txs.set 2 { TxSt.reset with audio := List.replicate 7 [1, 2] } } }
     let t : Nat := 0
     let k : Fin 8 := 2
     let u := s.tick t
     let n := if u.flag (Reg.ORE_TX_CFG_PTIME k) then 6 else 48
     (u.on .ore = true) ∧ (u.flag (Reg.ORE_TX_CFG_EN k) = true) ∧ (2 ≤ k.val % 4) ∧ (n ≤ (u.txs k).audio.length)) :=
  ⟨by decide +kernel, by decide +kernel⟩

/-- The hypotheses of AudioFrames, clause by clause. -/
theorem wit_audioFrames :
    (let s : State := unitOn 7 [(Reg.APU_PORT_STATUS_STATE 0, 4)]
     let t : Nat := 0
     let p : Fin 8 := 0
     let u := s.tick t
     (u.on .apu = true) ∧ (u.cs = none) ∧ (u.flag (Reg.APU_PORT_STATUS_SWAP_PENDING p) = false) ∧ ((u.port p).stopReq = false) ∧ (u.portState p = 4)) ∧
    (let s : State := unitOn 7 [(Reg.APU_PORT_STATUS_STATE 7, 2)]
     let t : Nat := 0
     let p : Fin 8 := 7
     let u := s.tick t
     (u.on .apu = true) ∧ (u.cs = none) ∧ (u.flag (Reg.APU_PORT_STATUS_SWAP_PENDING p) = false) ∧ ((u.port p).stopReq = false) ∧ (u.portState p = 2) ∧ (u.flag (Reg.APU_PORT_CFG_MASTER p) = false) ∧ ((u.port p).start.getD 0 ≤ u.mediaNs)) ∧
    (let s : State := { unitOn 7 [(Reg.APU_PORT_ASSOC_ASSOC 0, 1), (Reg.APU_PORT_STATUS_STATE 0, 4)] with apu := { apuOf { PortSt.reset with rx := some { frame := 5, aframe := 10, time := 0, frames := [[1]], flags := 0, labels := [0] } } with srcs := [(1, { begun := [(0, 5)], time := 0, period := 1000 })] } }
     let t : Nat := 10000000
     let p : Fin 8 := 0
     let b : SrcBoundary := { begun := [(0, 5)], time := 0, period := 1000 }
     let r : RxBlock := { frame := 5, aframe := 10, time := 0, frames := [[1]], flags := 0, labels := [0] }
     let u := s.tick t
     (u.assocBoundary p = some b) ∧ ((u.port p).rx = some r) ∧ (u.on .apu = true) ∧ (b.lapsed u.mediaNs = true) ∧ (2 * r.time < 2 * b.time + 3 * b.period)) ∧
    (let s : State := part [(Reg.APU_START_MASK_PORTS, 1), (Reg.APU_START_S_LO, 10), (Reg.APU_PORT_STATUS_STATE 0, 1), (Reg.APU_PORT_CFG_MASTER 0, 1), (Reg.APU_PORT_CFG_RATE_CLASS 0, 2), (Reg.APU_PORT_RAMP_FRAMES 0, 100)]
     let t : Nat := 0
     let u := s.tick t
     let mask := (List.range 8).filter (fun p => bitAt (u.get Reg.APU_START_MASK_PORTS) p)
     let start := u.getTime Reg.APU_START_S_HI_V Reg.APU_START_S_LO Reg.APU_START_NS
     let lead := maxN ((mask.filter (fun p => u.flag (Reg.APU_PORT_CFG_MASTER p))).map u.leadNs)
     (u.reaches .apu = true) ∧ (mask ≠ []) ∧ (∀ q ∈ mask, u.portState q = 1) ∧ (u.mediaNs + 100000 + lead ≤ start)) ∧
    (let s : State := part [(Reg.APU_START_MASK_PORTS, 1), (Reg.APU_START_S_LO, 10)]
     let t : Nat := 0
     let u := s.tick t
     let mask := (List.range 8).filter (fun p => bitAt (u.get Reg.APU_START_MASK_PORTS) p)
     let start := u.getTime Reg.APU_START_S_HI_V Reg.APU_START_S_LO Reg.APU_START_NS
     let lead := maxN ((mask.filter (fun p => u.flag (Reg.APU_PORT_CFG_MASTER p))).map u.leadNs)
     (u.reaches .apu = true) ∧ ((∃ q ∈ mask, u.portState q ≠ 1) ∨ start < u.mediaNs + 100000 + lead)) ∧
    (let s : State := { unitOn 7 [(Reg.APU_PORT_STATUS_STATE 0, 2), (Reg.APU_PORT_CFG_MASTER 0, 1)] with apu := apuOf { PortSt.reset with start := some 5 } }
     let t : Nat := 100
     let p : Fin 8 := 0
     let u := s.tick t
     (u.on .apu = true) ∧ (u.flag (Reg.APU_PORT_CFG_MASTER p) = true) ∧ (u.portState p = 2) ∧ ((u.port p).start.getD 0 ≤ u.mediaNs + u.leadNs p)) ∧
    (let s : State := part [(Reg.APU_PORT_STATUS_STATE 0, 5)]
     let t : Nat := 0
     let p : Fin 8 := 0
     let u := s.tick t
     (u.portState p = 5) ∧ ((u.port p).lead = 0)) :=
  ⟨by decide +kernel, by decide +kernel, by decide +kernel, by decide +kernel, by decide +kernel, by decide +kernel, by decide +kernel⟩

/-- The hypotheses of AudioControl, clause by clause. -/
theorem wit_audioControl :
    (let s : State := part [(Reg.APU_PORT_STATUS_STATE 0, 1), (Reg.APU_PORT_CFG_SLOTS_M1 0, 7), (Reg.APU_PORT_RAMP_FRAMES 0, 9)]
     let t : Nat := 0
     let p : Fin 8 := 0
     let u := s.tick t
     let a := u.portMap p
     let bad := (u.portSlots p (1 - a) 0 ++ u.portSlots p (1 - a) 1).any (fun i => decide (u.get (Reg.APU_PORT_CFG_SLOTS_M1 p) < i))
     (u.reaches .apu = true) ∧ (u.portState p = 1) ∧ (u.flag (Reg.APU_PORT_STATUS_SWAP_PENDING p) = false) ∧ (bad = false) ∧ (u.portQuiet p = true)) ∧
    (let s : State := part [(Reg.APU_PORT_STATUS_STATE 0, 6)]
     let t : Nat := 0
     let p : Fin 8 := 0
     let u := s.tick t
     (u.reaches .apu = true) ∧ (u.portState p = 2 ∨ u.portState p = 6)) ∧
    (let s : State := part [(Reg.APU_PORT_STATUS_STATE 0, 4), (Reg.APU_PORT_CFG_SLOTS_M1 0, 7)]
     let t : Nat := 0
     let p : Fin 8 := 0
     let u := s.tick t
     let a := u.portMap p
     let bad := (u.portSlots p (1 - a) 0 ++ u.portSlots p (1 - a) 1).any (fun i => decide (u.get (Reg.APU_PORT_CFG_SLOTS_M1 p) < i))
     (u.reaches .apu = true) ∧ (u.portState p = 3 ∨ u.portState p = 4) ∧ (u.flag (Reg.APU_PORT_STATUS_SWAP_PENDING p) = false) ∧ (bad = false) ∧ (u.portQuiet p = false)) ∧
    (let s : State := part []
     let t : Nat := 0
     let p : Fin 8 := 0
     let c : Fin 2 := 1
     let u := s.tick t
     let a := u.portMap p
     (u.reaches .apu = true) ∧ (u.flag (Reg.APU_PORT_STATUS_SWAP_PENDING p) = false) ∧ (c.val ≠ a)) ∧
    (let s : State := part []
     let t : Nat := 0
     let p : Fin 8 := 0
     let c : Fin 2 := 0
     let u := s.tick t
     let a := u.portMap p
     (u.reaches .apu = true) ∧ (u.flag (Reg.APU_PORT_STATUS_SWAP_PENDING p) = false) ∧ (c.val = a)) :=
  ⟨by decide +kernel, by decide +kernel, by decide +kernel, by decide +kernel, by decide +kernel⟩

/-- The hypotheses of AudioStreams, clause by clause. -/
theorem wit_audioStreams :
    (let s : State := unitOn 7 [(Reg.APU_PORT_STATUS_STATE 0, 4)]
     let t : Nat := 0
     let p : Fin 8 := 0
     let u := s.tick t
     (u.on .apu = true) ∧ (u.portState p = 4)) ∧
    (let s : State := unitOn 7 [(Reg.APU_PORT_STATUS_STATE 0, 1), (Reg.APU_PORT_CFG_RATE_CLASS 0, 2)]
     let t : Nat := 0
     let p : Fin 8 := 0
     let meas : Nat := 4800000
     let u := s.tick t
     (u.on .apu = true) ∧ (u.flag (Reg.APU_PORT_CFG_MASTER p) = false) ∧ (u.portState p ≠ 6) ∧ (u.flag (Reg.APU_PORT_STATUS_LOCK p) = false) ∧ (classOf (meas % 2 ^ 32) = some (u.get (Reg.APU_PORT_CFG_RATE_CLASS p)))) ∧
    (let s : State := unitOn 7 [(Reg.APU_PORT_STATUS_STATE 0, 4), (Reg.APU_PORT_STATUS_LOCK 0, 1)]
     let t : Nat := 0
     let p : Fin 8 := 0
     let u := s.tick t
     (u.on .apu = true) ∧ (u.flag (Reg.APU_PORT_CFG_MASTER p) = false) ∧ (u.flag (Reg.APU_PORT_STATUS_LOCK p) = true) ∧ (u.portState p = 4)) ∧
    (let s : State := { part [(Reg.APU_PORT_REC_REC 0, 1), (Reg.APU_PORT_REC_QUEUE 0, 9)] with plan := planOf [book 7 0 [7]], clip := clipOf reel1, paths := inFlight5, pool := poolOf 9 { QueueSt.empty with list := [[{ cell0 with data := 5#8 :: List.replicate 63 0#8 }]] } }
     let t : Nat := 0
     let p : Fin 8 := 0
     let c : PCell := { cell0 with data := 5#8 :: List.replicate 63 0#8 }
     let cells : List PCell := []
     let w : State := ((s.tick t).readItem 9 4096).2
     let b : Booking := book 7 0 [7]
     let r : Reservation := resv1
     let u := s.tick t
     let reel := u.get (Reg.APU_PORT_REC_REEL p)
     let frame := leVal (bytesAt c.data 0 6)
     (u.get (Reg.APU_PORT_REC_QUEUE p) ≠ 0) ∧ (u.flag (Reg.APU_PORT_REC_REC p) = true) ∧ ((u.readItem (u.get (Reg.APU_PORT_REC_QUEUE p)) 4096).1 = c :: cells) ∧ (w.audioPath p = some b) ∧ (itemPoison (c :: cells) = 0) ∧ (w.reservation reel b.path frame = some r)) ∧
    (let s : State := { part [] with plan := planOf [book 7 0 [7]], clip := clipOf reel1, paths := inFlight5, apu := { ApuSt.reset with srcs := [(1, { begun := [(0, 5)], time := 0, period := 1000 })] } }
     let t : Nat := 10000000
     let p : Fin 8 := 0
     let b : Booking := book 7 0 [7]
     let r : Reservation := resv1
     let u := s.tick t
     let reel := u.get (Reg.APU_PORT_REC_REEL p)
     (u.audioPath p = some b) ∧ ((u.reel reel).reservations.find? (fun (v : Reservation) => v.path == b.path) = some r) ∧ (u.recDue b r = true)) :=
  ⟨by decide +kernel, by decide +kernel, by decide +kernel, by decide +kernel, by decide +kernel⟩

/-- The hypotheses of ReferenceEdges, clause by clause. -/
theorem wit_referenceEdges :
    (let s : State := unitOn 8 [(Reg.RTU_REF_CFG_SRC, 1), (Reg.RTU_REF_RATE_NUM, 25), (Reg.RTU_REF_RATE_DEN, 1), (Reg.RTU_STATUS_STATE, 1)]
     let t : Nat := 0
     let p : Nat × Nat := (1000000000, 25)
     let u := s.tick t
     (u.on .rtu = true) ∧ (u.refPeriod = some p) ∧ (u.rtu.edge = none) ∧ (u.rtuState = 1 ∨ u.rtuState = 4)) ∧
    (let s : State := { unitOn 8 [(Reg.RTU_REF_CFG_SRC, 1), (Reg.RTU_REF_RATE_NUM, 25), (Reg.RTU_REF_RATE_DEN, 1), (Reg.RTU_STATUS_STATE, 2), (Reg.RTU_LOCK_THR_NS, 1000)] with rtu := { RtuSt.reset with edge := some 0, good := 15 } }
     let t : Nat := 16000000
     let p : Nat × Nat := (1000000000, 25)
     let b : Nat := 0
     let u := s.tick t
     let k := predNumber p (u.mediaNs - b)
     (u.on .rtu = true) ∧ (u.refPeriod = some p) ∧ (u.rtu.edge = some b) ∧ (inWindow p (u.mediaNs - b) k = true)) ∧
    (let s : State := { unitOn 8 [(Reg.RTU_REF_CFG_SRC, 1), (Reg.RTU_REF_RATE_NUM, 25), (Reg.RTU_REF_RATE_DEN, 1)] with rtu := { RtuSt.reset with edge := some 0 } }
     let t : Nat := 8000000
     let p : Nat × Nat := (1000000000, 25)
     let b : Nat := 0
     let u := s.tick t
     let k := predNumber p (u.mediaNs - b)
     (u.on .rtu = true) ∧ (u.refPeriod = some p) ∧ (u.rtu.edge = some b) ∧ (inWindow p (u.mediaNs - b) k = false) ∧ (u.rtu.outside.length < 2)) ∧
    (let s : State := { unitOn 8 [(Reg.RTU_REF_CFG_SRC, 1), (Reg.RTU_REF_RATE_NUM, 25), (Reg.RTU_REF_RATE_DEN, 1), (Reg.RTU_STATUS_STATE, 3)] with rtu := { RtuSt.reset with edge := some 0 } }
     let t : Nat := 24000000
     let p : Nat × Nat := (1000000000, 25)
     let b : Nat := 0
     let u := s.tick t
     (u.on .rtu = true) ∧ (u.refPeriod = some p) ∧ (u.rtu.edge = some b) ∧ (3 * p.1 ≤ 2 * (u.mediaNs - b) * p.2) ∧ (u.rtuState = 2 ∨ u.rtuState = 3)) :=
  ⟨by decide +kernel, by decide +kernel, by decide +kernel, by decide +kernel⟩

/-- The hypotheses of PrecisionTime, clause by clause. -/
theorem wit_precisionTime :
    (let s : State := { unitOn 8 [(Reg.RTU_PTP_CFG_EN 0, 1), (Reg.RTU_PTP_CFG_ETH0 0, 1), (Reg.RTU_REF_CFG_SYNC_LOSS, 3)] with rtu := rtuSlot }
     let t : Nat := 0
     let d : Fin 2 := 0
     let m : PtpMaster := master1
     let u := s.tick t
     let active := u.rtuSrc = 4 ∧ u.get Reg.RTU_REF_CFG_PTP_ACTIVE = d
     (u.on .rtu = true) ∧ (u.flag (Reg.RTU_PTP_CFG_EN d) = true) ∧ ((u.ptpSlot d).selected.isSome = true) ∧ (¬ active) ∧ ((if m.port = 0 then u.flag (Reg.RTU_PTP_CFG_ETH0 d) else u.flag (Reg.RTU_PTP_CFG_ETH1 d)) = true)) ∧
    (let s : State := { unitOn 8 [(Reg.RTU_PTP_CFG_EN 0, 1), (Reg.RTU_REF_CFG_SRC, 4)] with rtu := rtuSlot }
     let t : Nat := 0
     let d : Fin 2 := 0
     let u := s.tick t
     let active := u.rtuSrc = 4 ∧ u.get Reg.RTU_REF_CFG_PTP_ACTIVE = d
     (u.on .rtu = true) ∧ (u.flag (Reg.RTU_PTP_CFG_EN d) = true) ∧ ((u.ptpSlot d).selected.isSome = true) ∧ (active) ∧ (u.rtu.stepped = false)) ∧
    (let s : State := unitOn 8 []
     let t : Nat := 0
     let d : Fin 2 := 1
     let u := s.tick t
     (u.on .rtu = true) ∧ (d.val < u.variant.ethPorts) ∧ ((getN u.rtu.fifos d []).length < 16) ∧ (u.reaches .rtu = true) ∧ ((getN u.rtu.fifos d []).length ≤ 16)) ∧
    (let s : State := { unitOn 8 [] with rtu := { RtuSt.reset with fifos := RtuSt.reset.fifos.set 0 (List.replicate 16 { ns := 0, tx := false, tag := 0 }) } }
     let t : Nat := 0
     let d : Fin 2 := 0
     let u := s.tick t
     (u.on .rtu = true) ∧ (d.val < u.variant.ethPorts) ∧ (16 ≤ (getN u.rtu.fifos d []).length)) :=
  ⟨by decide +kernel, by decide +kernel, by decide +kernel, by decide +kernel⟩

/-- The hypotheses of the second part of PrecisionTime, clause by clause. -/
theorem wit_precisionTime2 :
    (let s : State := part []
     let t : Nat := 0
     let w : Word := 0x0A120001#32
     let c : Instr := .refSrcWrite 0 0x0A120001#32
     let u := s.tick t
     (c = .refSrcWrite t w ∨ c = .ptpActiveSwitch t w) ∧ (u.reaches .rtu = true) ∧ (u.refCfgRefusal w.toNat = none)) ∧
    (let s : State := part []
     let t : Nat := 0
     let w : Word := 0x0A120005#32
     let c : Instr := .ptpActiveSwitch 0 0x0A120005#32
     let u := s.tick t
     let code := 0x0801
     (c = .refSrcWrite t w ∨ c = .ptpActiveSwitch t w) ∧ (u.reaches .rtu = true) ∧ (u.refCfgRefusal w.toNat = some code)) :=
  ⟨by decide +kernel, by decide +kernel⟩

/-- The hypotheses of TimeOfDay, clause by clause. -/
theorem wit_timeOfDay :
    (let s : State := part [(Reg.RTU_TIME_SET_NS, 5), (Reg.RTU_TIME_SET_S_LO, 1)]
     let t : Nat := 100
     let u := s.tick t
     (u.reaches .rtu = true) ∧ (u.get Reg.RTU_TIME_SET_NS < 1000000000) ∧ (u.timeUsers = false)) ∧
    (let s : State := part [(Reg.UNIT_STATUS_ENABLED 6, 1), (Reg.ORE_TG_CFG_EN 0, 1)]
     let t : Nat := 0
     let u := s.tick t
     (u.reaches .rtu = true) ∧ (u.get Reg.RTU_TIME_SET_NS < 1000000000) ∧ (u.timeUsers = true)) ∧
    (let s : State := unitOn 8 [(Reg.RTU_LTC_OUT_CFG_EN, 1), (Reg.RTU_STATUS_ESTABLISHED, 1), (Reg.DEV_GPIO_FN_FN 4, 3)]
     let t : Nat := 0
     let u := s.tick t
     (u.on .rtu = true) ∧ (u.flag Reg.RTU_REF_CFG_LTC_JAM = false) ∧ (u.flag Reg.RTU_LTC_OUT_CFG_EN = true) ∧ (u.established = true)) :=
  ⟨by decide +kernel, by decide +kernel, by decide +kernel⟩

/-- The hypotheses of DramUpkeep, clause by clause. -/
theorem wit_dramUpkeep :
    (let s : State := part [(Reg.MSS_CH_STATUS_TRAIN 0, 1)]
     let t : Nat := 0
     let c : Fin 16 := 0
     let u := s.tick t
     (u.get (Reg.MSS_CH_STATUS_TRAIN c) = 1) ∧ ((u.chan c).retriedTraining = false)) ∧
    (let s : State := { part [(Reg.MSS_CH_STATUS_TRAIN 0, 1)] with mss := { State.reset.mss with ch := State.reset.mss.ch.set 0 { ChSt.reset with retriedTraining := true } } }
     let t : Nat := 0
     let c : Fin 16 := 0
     let u := s.tick t
     (u.get (Reg.MSS_CH_STATUS_TRAIN c) = 1) ∧ ((u.chan c).retriedTraining = true)) ∧
    (let s : State := part [(Reg.MSS_REF_STATUS_FAST, 1)]
     let t : Nat := 400000000
     let u := s.tick t
     (u.flag Reg.MSS_REF_STATUS_FAST = true) ∧ (u.flag Reg.MSS_REF_STATUS_DDR_HOT = false) ∧ (u.mss.hotLowSince + 1000000000 ≤ u.mediaNs)) :=
  ⟨by decide +kernel, by decide +kernel, by decide +kernel⟩

/-- The hypotheses of DramAccess, clause by clause. -/
theorem wit_dramAccess :
    (let s : State := { part [(Reg.MSS_SLOT_STATUS_PENDING 2, 1)] with mss := mssGiB }
     let t : Nat := 0
     let l : List MemReq := [req1]
     let port : Fin 64 := 0
     let addr : Nat := 0x1234
     let u := s.tick t
     let a := addr / 64 * 64
     (u.mss.slotsWait = none) ∧ (∀ r ∈ l, r.addr < s.mss.capacity) ∧ (addr < s.mss.capacity) ∧ (u.inScratch a = false) ∧ (u.replyDropped port = false) ∧ (u.burstPoisoned a = false)) ∧
    (let s : State := part []
     let l : List MemReq := [req1]
     let r : MemReq := req1
     (l.find? (fun r => decide (s.mss.capacity ≤ r.addr)) = some r)) ∧
    (let s : State := { part [] with mss := mssGiB }
     let addr : Nat := 0x40000000
     (s.mss.capacity ≤ addr)) ∧
    (let s : State := { part [] with mss := { mssGiB with coppice := [cop1] }, plan := { Plan.empty with bufs := [buf1] } }
     let t : Nat := 0
     let unit : Nat := 2
     let inst : Nat := 0
     let q : CopReq := cop1
     let b : PlanBuf := buf1
     let u := s.tick t
     (u.mss.coppice.find? (fun q => q.unit == unit && q.inst == inst) = some q) ∧ (u.plan.bufs.find? (fun b => b.base == q.buf) = some b) ∧ (b.kind ≠ .packed)) :=
  ⟨by decide +kernel, by decide +kernel, by decide +kernel, by decide +kernel⟩

/-- The hypotheses of the second part of DramUpkeep, clause by clause. -/
theorem wit_dramUpkeep2 :
    (let s : State := part [(Reg.MSS_ARB_CFG_MANUAL, 1)]
     let t : Nat := 0
     let c : Fin 16 := 15
     let u := s.tick t
     (u.reaches .mss = true) ∧ (c.val < u.variant.channels) ∧ (u.flag Reg.MSS_ARB_CFG_MANUAL = true)) ∧
    (let s : State := part [(Reg.MSS_ARB_CFG_MANUAL, 0)]
     let t : Nat := 0
     let c : Fin 16 := 0
     let u := s.tick t
     (u.reaches .mss = true) ∧ (c.val < u.variant.channels) ∧ (u.flag Reg.MSS_ARB_CFG_MANUAL = false)) :=
  ⟨by decide +kernel, by decide +kernel⟩

/-- The hypotheses of Takes, clause by clause. -/
theorem wit_takes :
    (let s : State := { part [] with clip := clipOf { ReelSt.reset with dataBlocks := 64, indexEntries := 64, nextTake := 1 } }
     let t : Nat := 0
     let r : Fin 8 := 0
     let u := s.tick t
     let x := u.reel r
     (u.reaches .mss = true) ∧ (x.dataBlocks ≠ 0) ∧ (x.openTake = 0) ∧ (x.requested = false)) ∧
    (let s : State := part []
     let t : Nat := 0
     let r : Fin 8 := 0
     let u := s.tick t
     let x := u.reel r
     (u.reaches .mss = true) ∧ (x.dataBlocks = 0)) ∧
    (let s : State := { part [] with clip := clipOf { ReelSt.reset with dataBlocks := 64, indexEntries := 64, openTake := 3 } }
     let t : Nat := 0
     let r : Fin 8 := 0
     let u := s.tick t
     let x := u.reel r
     (u.reaches .mss = true) ∧ (x.openTake ≠ 0)) ∧
    (let s : State := { part [] with clip := clipOf { ReelSt.reset with dataBlocks := 64, indexEntries := 64, requested := true } }
     let t : Nat := 0
     let r : Fin 8 := 0
     let take : Nat := 1
     let c : Instr := .takeOpen t r
     let u := s.tick t
     let x := u.reel r
     let freed := match SMap.lookup x.takes ((take - 1) % 1024) with
      | some old => u.eraseTake r old.take
      | none => u
     (c = .takeOpen t r ∨ c = .takeOpenRetry t r) ∧ (x.requested = true) ∧ (x.openTake = 0) ∧ (x.freeTake x.nextTake 1024 = some take) ∧ ((freed.reserve r take 0xFF ((u.packedPaths r).map (fun _ => 1)) ((u.packedPaths r).length + 2)).isSome = true)) ∧
    (let s : State := { part [] with clip := clipOf { ReelSt.reset with dataBlocks := 64, indexEntries := 64, closing := [{ take := 1, timeNs := 5, slot := 2, countsAt := some 3 }] } }
     let t : Nat := 0
     let r : Fin 8 := 0
     let k : Closing := { take := 1, timeNs := 5, slot := 2, countsAt := some 3 }
     let rest : List Closing := []
     let u := s.tick t
     let x := u.reel r
     (x.closing = k :: rest) ∧ (x.reservations.any (fun v => v.take == k.take) = false) ∧ (k.countsAt ≠ some u.now)) :=
  ⟨by decide +kernel, by decide +kernel, by decide +kernel, by decide +kernel, by decide +kernel⟩

/-- The hypotheses of PoolQueues, clause by clause. -/
theorem wit_poolQueues :
    (let s : State := part [(Reg.SCC_CP_WR_CFG_EN 0, 1), (Reg.SCC_CP_WR_CFG_QUEUE 0, 5), (Reg.SCC_CP_RD_CFG_EN 1, 1), (Reg.SCC_CP_RD_CFG_QUEUE 1, 5), (Reg.UNIT_STATUS_ENABLED 11, 1), (Reg.SCC_CPQ_LIM_MAX 5, 8)]
     let t : Nat := 0
     let q : Fin 1024 := 5
     let cells : List (List Byte) := [[1#8, 2#8], []]
     let u := s.tick t
     let x := u.queue q
     let fits := cells ≠ [] ∧ cells.length ≤ 4096 ∧ u.postFits q cells.length = true
     (u.queuesInUse.contains q.val = true) ∧ (x.mode = .pool) ∧ (fits) ∧ (cells.length + u.pool.hidden ≤ 65536 - u.poolCells)) ∧
    (let s : State := part [(Reg.SCC_CP_WR_CFG_EN 0, 1), (Reg.SCC_CP_WR_CFG_QUEUE 0, 5), (Reg.SCC_CP_RD_CFG_EN 1, 1), (Reg.SCC_CP_RD_CFG_QUEUE 1, 5), (Reg.UNIT_STATUS_ENABLED 11, 1), (Reg.SCC_CPQ_LIM_MAX 5, 1)]
     let t : Nat := 0
     let q : Fin 1024 := 5
     let cells : List (List Byte) := [[1#8, 2#8], []]
     let u := s.tick t
     let x := u.queue q
     let fits := cells ≠ [] ∧ cells.length ≤ 4096 ∧ u.postFits q cells.length = true
     (u.queuesInUse.contains q.val = true) ∧ (x.mode = .pool) ∧ (¬ fits)) ∧
    (let s : State := { part [(Reg.SCC_CP_WR_CFG_EN 0, 1), (Reg.SCC_CP_WR_CFG_QUEUE 0, 5), (Reg.SCC_CP_RD_CFG_EN 1, 1), (Reg.SCC_CP_RD_CFG_QUEUE 1, 5), (Reg.UNIT_STATUS_ENABLED 11, 1)] with pool := poolOf 5 { QueueSt.empty with list := [[cell0]] } }
     let t : Nat := 0
     let q : Fin 1024 := 5
     let h : Head := { cell := cell0, first := true, last := true }
     let u := s.tick t
     let x := u.queue q
     (x.mode = .pool) ∧ (x.head = some h)) :=
  ⟨by decide +kernel, by decide +kernel, by decide +kernel⟩

/-- The hypotheses of PoolRecovery, clause by clause. -/
theorem wit_poolRecovery :
    (let s : State := { part [(Reg.SCC_CPQ_TIMEOUT_NS 5, 1000)] with pool := poolOf 5 { QueueSt.empty with list := [[cell0]] } }
     let t : Nat := 400
     let q : Fin 1024 := 5
     let u := s.tick t
     let x := u.queue q
     (u.get (Reg.SCC_CPQ_TIMEOUT_NS q) ≠ 0) ∧ (x.items ≠ []) ∧ (x.idleFired = false) ∧ (x.idleFrom + u.get (Reg.SCC_CPQ_TIMEOUT_NS q) ≤ u.mediaNs)) ∧
    (let s : State := { part [(Reg.SCC_CP_WR_CFG_EN 0, 1), (Reg.SCC_CP_WR_CFG_QUEUE 0, 5), (Reg.SCC_CP_RD_CFG_EN 1, 1), (Reg.SCC_CP_RD_CFG_QUEUE 1, 5), (Reg.UNIT_STATUS_ENABLED 11, 1)] with pool := poolOf 5 { QueueSt.empty with mode := .sweeping, list := [[cell0]] } }
     let t : Nat := 0
     let q : Fin 1024 := 5
     let u := s.tick t
     let x := u.queue q
     (x.mode = .sweeping) ∧ (u.reaches .scc = true) ∧ (x.mode ≠ .fallback)) ∧
    (let s : State := { part [(Reg.SCC_CP_WR_CFG_EN 0, 1), (Reg.SCC_CP_WR_CFG_QUEUE 0, 5), (Reg.SCC_CP_RD_CFG_EN 1, 1), (Reg.SCC_CP_RD_CFG_QUEUE 1, 5), (Reg.UNIT_STATUS_ENABLED 11, 1)] with pool := poolOf 5 { QueueSt.empty with mode := .fallback, fill := [[cell0]] } }
     let t : Nat := 0
     let q : Fin 1024 := 5
     let u := s.tick t
     let x := u.queue q
     (u.reaches .scc = true) ∧ (x.mode ≠ .sweeping) ∧ (x.mode = .fallback)) :=
  ⟨by decide +kernel, by decide +kernel, by decide +kernel⟩

/-- The hypotheses of PoolPorts, clause by clause. -/
theorem wit_poolPorts :
    (let s : State := part []
     let t : Nat := 0
     let w : Word := 0x7FFFFFFF#32
     let u := s.tick t
     (u.reaches .scc = true) ∧ (u.checks = []) ∧ (bitAt w.toNat 31 = false)) ∧
    (let s : State := part [(Reg.SCC_CP_WR_CFG_EN 0, 1), (Reg.SCC_CP_WR_CFG_QUEUE 0, 5), (Reg.SCC_CP_RD_CFG_EN 1, 1), (Reg.SCC_CP_RD_CFG_QUEUE 1, 5), (Reg.UNIT_STATUS_ENABLED 11, 1), (Reg.SCC_CPQ_LIM_MAX 5, 8)]
     let t : Nat := 0
     let k : Fin 8 := 0
     let n : Fin 4 := 3
     let u := s.tick t
     let q := u.get (Reg.SCC_CP_WR_CFG_QUEUE k)
     (u.reaches .scc = true) ∧ (u.flag (Reg.SCC_CP_WR_STATUS_BUSY k) = false) ∧ (u.flag (Reg.SCC_CP_WR_CFG_EN k) = true) ∧ ((u.queue q).mode = .pool) ∧ (u.postFits q (n.val + 1) = true) ∧ (n.val + 1 + u.pool.hidden ≤ 65536 - u.poolCells)) ∧
    (let s : State := { part [(Reg.SCC_CP_WR_CFG_EN 0, 1), (Reg.SCC_CP_WR_CFG_QUEUE 0, 5), (Reg.SCC_CP_RD_CFG_EN 1, 1), (Reg.SCC_CP_RD_CFG_QUEUE 1, 5), (Reg.UNIT_STATUS_ENABLED 11, 1)] with pool := poolOf 5 { QueueSt.empty with list := [[cell0]] } }
     let t : Nat := 0
     let k : Fin 8 := 1
     let h : Head := { cell := cell0, first := true, last := true }
     let u := s.tick t
     let r := u.get (Reg.SCC_CP_RD_CFG_QUEUE k)
     (u.reaches .scc = true) ∧ (u.flag (Reg.SCC_CP_RD_CFG_EN k) = true) ∧ ((u.queue r).mode = .pool) ∧ ((u.queue r).head = some h)) :=
  ⟨by decide +kernel, by decide +kernel, by decide +kernel⟩

/-- The hypotheses of LockAcquire, clause by clause. -/
theorem wit_lockAcquire :
    (let s : State := { part [] with locks := locks3 }
     let t : Nat := 0
     let u := s.tick t
     (u.reaches .scc = true)) := by decide +kernel

/-- The hypotheses of LockRelease, clause by clause. -/
theorem wit_lockRelease :
    (let s : State := { part [] with locks := locks3 }
     let t : Nat := 0
     let r : Requester := .host
     let n : Fin 256 := 3
     let u := s.tick t
     let l := u.locks[n]
     (u.reaches .scc = true) ∧ (l.st = .held) ∧ (l.owner = r.code)) ∧
    (let s : State := { part [] with locks := locks3 }
     let t : Nat := 0
     let r : Requester := .mgmt
     let n : Fin 256 := 3
     let u := s.tick t
     let l := u.locks[n]
     (u.reaches .scc = true) ∧ (¬ (l.st = .held ∧ l.owner = r.code))) ∧
    (let s : State := part []
     let t : Nat := 0
     let n : Fin 256 := 255
     let u := s.tick t
     let l := u.locks[n]
     (u.reaches .scc = true) ∧ (l.st ≠ .held)) :=
  ⟨by decide +kernel, by decide +kernel, by decide +kernel⟩

/-- The hypotheses of Enables, clause by clause. -/
theorem wit_enables :
    (let s : State := part []
     let t : Nat := 0
     let x : UnitId := .cse
     let u := s.tick t
     (u.boot.busOpen = true) ∧ (u.flag Reg.HTP_SHUTDOWN_STATUS_SHUTDOWN = false) ∧ (u.variant.has x = true) ∧ (u.flag (Reg.UNIT_CTL_ENABLE x.id) = false)) ∧
    (let s : State := part [(Reg.UNIT_CTL_ENABLE 3, 1), (Reg.UNIT_STATUS_ENABLED 3, 1)]
     let t : Nat := 0
     let x : UnitId := .cse
     let u := s.tick t
     (u.boot.busOpen = true) ∧ (u.flag Reg.HTP_SHUTDOWN_STATUS_SHUTDOWN = false) ∧ (u.variant.has x = true) ∧ (u.flag (Reg.UNIT_CTL_ENABLE x.id) = true) ∧ (x.heartwood = false) ∧ (u.checks.contains (.enable x) = false) ∧ (u.cs = none) ∧ (u.plan.bookings = [])) ∧
    (let s : State := part []
     let t : Nat := 0
     let x : UnitId := .scc
     let u := s.tick t
     (u.boot.busOpen = true) ∧ (u.flag Reg.HTP_SHUTDOWN_STATUS_SHUTDOWN = false) ∧ (u.variant.has x = true) ∧ (x.heartwood = true)) ∧
    (let s : State := { part [(Reg.UNIT_CTL_ENABLE 3, 1)] with checks := [.enable .cse] }
     let t : Nat := 0
     let x : UnitId := .cse
     let u := s.tick t
     (u.boot.busOpen = true) ∧ (u.flag Reg.HTP_SHUTDOWN_STATUS_SHUTDOWN = false) ∧ (u.variant.has x = true) ∧ (x.heartwood = false) ∧ (u.checks.contains (.enable x) = true)) ∧
    (let s : State := { part [(Reg.UNIT_CTL_ENABLE 2, 1), (Reg.UNIT_STATE_PHASE 2, 1)] with checks := [.enable .rfe] }
     let t : Nat := 0
     let x : UnitId := .rfe
     let n : NoGo := refusal (({ s.tick t with checks := [] } : State).enableVerdict .rfe)
     let u := s.tick t
     let now := { u with checks := [] }
     (u.checks = [.enable x]) ∧ (now.enableVerdict x = .inl n)) ∧
    (let s : State := { part [(Reg.UNIT_CTL_ENABLE 8, 1)] with mss := mssGiB, checks := [.enable .rtu] }
     let t : Nat := 0
     let x : UnitId := .rtu
     let b : Booked := booking (({ s.tick t with checks := [] } : State).enableVerdict .rtu)
     let u := s.tick t
     let now := { u with checks := [] }
     (u.checks = [.enable x]) ∧ (u.cs = none) ∧ (now.enableVerdict x = .inr b)) :=
  ⟨by decide +kernel, by decide +kernel, by decide +kernel, by decide +kernel, by decide +kernel, by decide +kernel⟩

/-- The hypotheses of ChangeSets, clause by clause. -/
theorem wit_changeSets :
    (let s : State := part [(Reg.CS_STATUS_STATE, 2)]
     let t : Nat := 0
     let u := s.tick t
     let there := u.boot.busOpen = true ∧ u.flag Reg.HTP_SHUTDOWN_STATUS_SHUTDOWN = false
     (there) ∧ (u.csBusy = true)) ∧
    (let s : State := part []
     let t : Nat := 0
     let u := s.tick t
     let there := u.boot.busOpen = true ∧ u.flag Reg.HTP_SHUTDOWN_STATUS_SHUTDOWN = false
     (there) ∧ (u.csBusy = false)) ∧
    (let s : State := { part [(Reg.CS_MASK, 4)] with checks := [.commit] }
     let t : Nat := 0
     let n : NoGo := refusal (({ s.tick t with checks := [] } : State).commitVerdict)
     let u := s.tick t
     let now := { u with checks := [] }
     (u.checks = [.commit]) ∧ (now.commitVerdict = .inl n)) ∧
    (let s : State := { part [(Reg.CS_MASK, 4)] with mss := mssGiB, checks := [.commit] }
     let t : Nat := 0
     let b : Booked := booking (({ s.tick t with checks := [] } : State).commitVerdict)
     let u := s.tick t
     let now := { u with checks := [] }
     (u.checks = [.commit]) ∧ (now.commitVerdict = .inr b)) ∧
    (let s : State := unitOn 1 [(Reg.SLR_LINK_STATUS_STATE 0, 3), (Reg.SLR_LINK_STATUS_ARMED 0, 1)]
     let t : Nat := 0
     let o : Bnd := .link 0
     let u := s.tick t
     (u.cs = none) ∧ (u.bndBusy o = false) ∧ (u.bndIdle o = false)) ∧
    (let s : State := { part [] with checks := [.commit] }
     let t : Nat := 0
     let u := s.tick t
     let there := u.boot.busOpen = true ∧ u.flag Reg.HTP_SHUTDOWN_STATUS_SHUTDOWN = false
     (there) ∧ (u.checks ≠ [])) ∧
    (let s : State := part []
     let t : Nat := 0
     let w : Word := 0x70000000#32
     let u := s.tick t
     let fn := bits w.toNat 31 28
     let top := ([15, 7, 1, 15, 7, 15, 1] : List Nat).getD fn 0
     let there := u.boot.busOpen = true ∧ u.flag Reg.HTP_SHUTDOWN_STATUS_SHUTDOWN = false
     (there) ∧ (u.checks = []) ∧ (6 < fn ∨ top < bits w.toNat 27 24)) ∧
    (let s : State := part []
     let t : Nat := 0
     let g : Fin 32 := 0
     let w : Word := 0x33000003#32
     let u := s.tick t
     let fn := bits w.toNat 31 28
     let top := ([15, 7, 1, 15, 7, 15, 1] : List Nat).getD fn 0
     let there := u.boot.busOpen = true ∧ u.flag Reg.HTP_SHUTDOWN_STATUS_SHUTDOWN = false
     (there) ∧ (u.checks = []) ∧ (fn ≤ 6) ∧ (bits w.toNat 27 24 ≤ top) ∧ (gpioOwner (u.get (Reg.DEV_GPIO_FN_FN g)) = none)) :=
  ⟨by decide +kernel, by decide +kernel, by decide +kernel, by decide +kernel, by decide +kernel, by decide +kernel, by decide +kernel, by decide +kernel⟩

/-- The hypotheses of UnitRemoval, clause by clause. -/
theorem wit_unitRemoval :
    (let s : State := part []
     let t : Nat := 0
     let x : UnitId := .rfe
     let u := s.tick t
     let there := u.boot.busOpen = true ∧ u.flag Reg.HTP_SHUTDOWN_STATUS_SHUTDOWN = false ∧ u.variant.has x = true
     (there) ∧ ((u.unit x).removal = none) ∧ ((u.unit x).reqReset = false) ∧ (u.checks = [])) ∧
    (let s : State := (part []).setUnit .rfe (fun y => { y with reqReset := true })
     let t : Nat := 0
     let x : UnitId := .rfe
     let u := s.tick t
     let there := u.boot.busOpen = true ∧ u.flag Reg.HTP_SHUTDOWN_STATUS_SHUTDOWN = false ∧ u.variant.has x = true
     (there) ∧ ((u.unit x).reqReset = true)) ∧
    (let s : State := (part []).setUnit .rfe (fun y => { y with reqReset := true })
     let t : Nat := 0
     let x : UnitId := .rfe
     let c : Cause := .reset
     let u := s.tick t
     (u.variant.has x = true) ∧ (u.removalCause x = some c) ∧ ((u.unit x).removal = none) ∧ (u.plan.bookings = []) ∧ (u.mss.coppice = [])) ∧
    (let s : State := removing .rfe .graft false .removed [(Reg.UNIT_DRAIN_TIME_DRAIN_US 2, 20)]
     let t : Nat := 8000
     let x : UnitId := .rfe
     let r : Removal := { cause := .graft, since := 0, drained := false }
     let u := s.tick t
     ((u.unit x).removal = some r) ∧ (r.drained = false) ∧ (r.since + u.get (Reg.UNIT_DRAIN_TIME_DRAIN_US x.id) * 400 ≤ u.now) ∧ (r.cause = .graft)) ∧
    (let s : State := removing .rfe .power false .idle [(Reg.UNIT_DRAIN_TIME_DRAIN_US 2, 20)]
     let t : Nat := 8000
     let x : UnitId := .rfe
     let r : Removal := { cause := .power, since := 0, drained := false }
     let u := s.tick t
     ((u.unit x).removal = some r) ∧ (r.drained = false) ∧ (r.since + u.get (Reg.UNIT_DRAIN_TIME_DRAIN_US x.id) * 400 ≤ u.now) ∧ (r.cause = .power)) ∧
    (let s : State := removing .mss .reset false .idle [(Reg.UNIT_DRAIN_TIME_DRAIN_US 9, 20)]
     let t : Nat := 8000
     let x : UnitId := .mss
     let r : Removal := { cause := .reset, since := 0, drained := false }
     let u := s.tick t
     ((u.unit x).removal = some r) ∧ (r.drained = false) ∧ (r.since + u.get (Reg.UNIT_DRAIN_TIME_DRAIN_US x.id) * 400 ≤ u.now) ∧ (r.cause = .reset)) ∧
    (let s : State := part []
     let t : Nat := 0
     let x : UnitId := .rfe
     let u := s.tick t
     let there := u.boot.busOpen = true ∧ u.flag Reg.HTP_SHUTDOWN_STATUS_SHUTDOWN = false ∧ u.variant.has x = true
     let may := x.pixel = true ∧ ∀ b ∈ u.unitPaths x, b.leaving = false → u.get (Reg.DEV_PATH_CFG_SHED_RANK b.path) ≠ 0
     (there) ∧ ((u.unit x).graft = .idle) ∧ ((u.unit x).removal = none) ∧ (may)) ∧
    (let s : State := part []
     let t : Nat := 0
     let x : UnitId := .rtu
     let u := s.tick t
     let there := u.boot.busOpen = true ∧ u.flag Reg.HTP_SHUTDOWN_STATUS_SHUTDOWN = false ∧ u.variant.has x = true
     let may := x.pixel = true ∧ ∀ b ∈ u.unitPaths x, b.leaving = false → u.get (Reg.DEV_PATH_CFG_SHED_RANK b.path) ≠ 0
     (there) ∧ ((u.unit x).graft = .idle) ∧ ((u.unit x).removal = none) ∧ (¬ may)) ∧
    (let s : State := (part []).setUnit .rfe (fun y => { y with graft := .shedding })
     let t : Nat := 0
     let x : UnitId := .rfe
     let u := s.tick t
     ((u.unit x).graft = .shedding) ∧ ((u.unit x).removal = none) ∧ (∀ b ∈ u.unitPaths x, (u.path b.path).graftPassed = true ∧ u.heldFrames x b = [])) ∧
    (let s : State := removing .rfe .graft true .removed []
     let t : Nat := 0
     let x : UnitId := .rfe
     let r : Removal := { cause := .graft, since := 0, drained := true }
     let u := s.tick t
     ((u.unit x).removal = some r) ∧ (r.cause = .graft) ∧ (r.drained = true)) ∧
    (let s : State := part []
     let t : Nat := 0
     let x : UnitId := .rfe
     let on : Bool := true
     let u := s.tick t
     let there := u.boot.busOpen = true ∧ u.flag Reg.HTP_SHUTDOWN_STATUS_SHUTDOWN = false ∧ u.variant.has x = true
     (there) ∧ (on = false ∨ ∀ b ∈ u.unitPaths x, b.leaving = true)) ∧
    (let s : State := { part [] with plan := planOf [book 1 0 [1, 2, 3, 6]] }
     let t : Nat := 0
     let x : UnitId := .rfe
     let on : Bool := true
     let u := s.tick t
     let there := u.boot.busOpen = true ∧ u.flag Reg.HTP_SHUTDOWN_STATUS_SHUTDOWN = false ∧ u.variant.has x = true
     (there) ∧ (on = true) ∧ (∃ b ∈ u.unitPaths x, b.leaving = false)) :=
  ⟨by decide +kernel, by decide +kernel, by decide +kernel, by decide +kernel, by decide +kernel, by decide +kernel, by decide +kernel, by decide +kernel, by decide +kernel, by decide +kernel, by decide +kernel, by decide +kernel⟩

/-- The hypotheses of EventsAndSnapshots, clause by clause. -/
theorem wit_eventsAndSnapshots :
    (let s : State := { part [] with evt := { queue := [msg1], lost := true }, mss := mssGiB }
     let t : Nat := 0
     let m : EvtMsg := msg1
     let rest : List EvtMsg := []
     let u := s.tick t
     (u.evt.queue = m :: rest)) ∧
    (let s : State := part [(⟨(intReg 2).ofs, 31, 0⟩, 0x33)]
     let t : Nat := 0
     let k : Fin 13 := 2
     let u := s.tick t
     let there := u.boot.busOpen = true ∧ u.flag Reg.HTP_SHUTDOWN_STATUS_SHUTDOWN = false ∧
      (k.val = 0 ∨ (UnitId.ofId k).any (fun x => u.variant.has x) = true)
     (there)) ∧
    (let s : State := part []
     let t : Nat := 0
     let k : Fin 13 := 0
     let r : Requester := .sapwood 1
     let u := s.tick t
     let there := u.boot.busOpen = true ∧ u.flag Reg.HTP_SHUTDOWN_STATUS_SHUTDOWN = false ∧
      (k.val = 0 ∨ (UnitId.ofId k).any (fun x => u.variant.has x) = true)
     (there) ∧ (r.hasView = true)) ∧
    (let s : State := part []
     let t : Nat := 0
     let u := s.tick t
     (u.boot.busOpen = true) ∧ (u.flag Reg.HTP_SHUTDOWN_STATUS_SHUTDOWN = false)) ∧
    (let s : State := { part [] with mss := mssGiB, snap := { writing := some (.dram 0x1000, [1#8, 2#8]), waiting := [] } }
     let t : Nat := 0
     let a : Nat := 0x1000
     let d : List Byte := [1#8, 2#8]
     let u := s.tick t
     (u.snap.writing = some (.dram a, d)) ∧ (a + d.length ≤ u.mss.capacity)) ∧
    (let s : State := { part [] with snap := { writing := some (.dram 0x1000, [1#8, 2#8]), waiting := [] } }
     let t : Nat := 0
     let a : Nat := 0x1000
     let d : List Byte := [1#8, 2#8]
     let u := s.tick t
     (u.snap.writing = some (.dram a, d)) ∧ (u.mss.capacity < a + d.length)) :=
  ⟨by decide +kernel, by decide +kernel, by decide +kernel, by decide +kernel, by decide +kernel, by decide +kernel⟩

/-- The hypotheses of RegisterBus, clause by clause. -/
theorem wit_registerBus :
    (let s : State := { part [] with boot := { BootSt.reset with stage := .recovery, busOpen := true } }
     let t : Nat := 0
     let r : Requester := .host
     let u := s.tick t
     (u.busFor r = false)) ∧
    (let s : State := part []
     let t : Nat := 0
     let r : Requester := .host
     let ofs : Nat := 2
     let u := s.tick t
     let open' := u.busFor r = true
     let up := u.flag Reg.HTP_SHUTDOWN_STATUS_SHUTDOWN = false
     (open') ∧ (up) ∧ (ofs % 4 ≠ 0 ∨ u.variant.hasReg ofs = false)) ∧
    (let s : State := part [(Reg.HTP_SHUTDOWN_STATUS_SHUTDOWN, 1)]
     let t : Nat := 0
     let r : Requester := .host
     let u := s.tick t
     let open' := u.busFor r = true
     let up := u.flag Reg.HTP_SHUTDOWN_STATUS_SHUTDOWN = false
     (open') ∧ (¬ up)) ∧
    (let s : State := part [(Reg.UNIT_STATE_PHASE 1, 1)]
     let t : Nat := 0
     let r : Requester := .host
     let ofs : Nat := 0x100100
     let x : UnitId := .slr
     let u := s.tick t
     let open' := u.busFor r = true
     let up := u.flag Reg.HTP_SHUTDOWN_STATUS_SHUTDOWN = false
     (open') ∧ (up) ∧ (ofs % 4 = 0) ∧ (ofs / 0x100000 = x.id) ∧ (u.variant.hasReg ofs = true) ∧ (0x100 ≤ ofs % 0x100000) ∧ (u.removed x = true)) ∧
    (let s : State := part []
     let t : Nat := 0
     let r : Requester := .host
     let u := s.tick t
     let open' := u.busFor r = true
     let up := u.flag Reg.HTP_SHUTDOWN_STATUS_SHUTDOWN = false
     (open') ∧ (up) ∧ (u.removed .slr = false) ∧ ((u.csBusy && bitAt (u.get Reg.CS_MASK) 1) = false)) ∧
    (let s : State := part [(Reg.CS_STATUS_STATE, 2), (Reg.CS_MASK, 2)]
     let t : Nat := 0
     let r : Requester := .host
     let u := s.tick t
     let open' := u.busFor r = true
     let up := u.flag Reg.HTP_SHUTDOWN_STATUS_SHUTDOWN = false
     (open') ∧ (up) ∧ (u.removed .slr = false) ∧ ((u.csBusy && bitAt (u.get Reg.CS_MASK) 1) = true)) ∧
    (let s : State := { part [] with boot := { BootSt.reset with stage := .training } }
     let t : Nat := 0
     let u := s.tick t
     (u.clocked = true) ∧ (u.boot.busOpen = false)) ∧
    (let s : State := part []
     let t : Nat := 0
     let addr : Word := 0x100100#32
     let u := s.tick t
     (u.clocked = true) ∧ (u.boot.busOpen = true) ∧ (addr.toNat < 0x4000000) ∧ (addr.toNat % 4 = 0) ∧ (addr.toNat / 0x100000 ≠ 11)) ∧
    (let s : State := part []
     let t : Nat := 0
     let addr : Word := 0x4000000#32
     let u := s.tick t
     (u.clocked = true) ∧ (u.boot.busOpen = true) ∧ (0x4000000 ≤ addr.toNat)) ∧
    (let s : State := { hostOn QpSt.reset [] with mss := mssGiB }
     let t : Nat := 0
     let p : Fin 0x800000 := 0x40
     let d : List Byte := [1#8, 2#8]
     let u := s.tick t
     let a := u.addr40 Reg.HIF_APT_BASE_LO Reg.HIF_APT_BASE_HI + p
     (u.hostUp = true) ∧ (d ≠ []) ∧ (d.length ≤ 512) ∧ (u.inDram a d.length = true) ∧ (u.inScratch a = false) ∧ (u.inScratch (a + d.length - 1) = false)) ∧
    (let s : State := { hostOn QpSt.reset [] with mss := mssGiB }
     let t : Nat := 0
     let p : Fin 0x800000 := 0x40
     let n : Fin 512 := 511
     let u := s.tick t
     let a := u.addr40 Reg.HIF_APT_BASE_LO Reg.HIF_APT_BASE_HI + p
     (u.hostUp = true) ∧ (u.inDram a (n + 1) = true) ∧ (u.inScratch a = false) ∧ (u.inScratch (a + (n.val + 1) - 1) = false) ∧ (u.mss.poisoned = [])) ∧
    (let s : State := hostOn QpSt.reset []
     let t : Nat := 0
     let p : Fin 0x800000 := 0x40
     let d : List Byte := [1#8, 2#8]
     let u := s.tick t
     let a := u.addr40 Reg.HIF_APT_BASE_LO Reg.HIF_APT_BASE_HI + p
     (u.hostUp = true) ∧ (d ≠ []) ∧ (d.length ≤ 512) ∧ (u.inDram a d.length = false)) :=
  ⟨by decide +kernel, by decide +kernel, by decide +kernel, by decide +kernel, by decide +kernel, by decide +kernel, by decide +kernel, by decide +kernel, by decide +kernel, by decide +kernel, by decide +kernel, by decide +kernel⟩

/-- The hypotheses of VariantShown, clause by clause. -/
theorem wit_variantShown :
    (let s : State := { part [] with variant := .el9620 }
     let t : Nat := 0
     let ofs : Nat := 0x500100
     let x : UnitId := .rpk
     (s.variant.has x = false) ∧ (ofs / 0x100000 = x.id) ∧ ((s.tick t).flag Reg.HTP_SHUTDOWN_STATUS_SHUTDOWN = false)) := by decide +kernel

/-- The hypotheses of QueuePairs, clause by clause. -/
theorem wit_queuePairs :
    (let s : State := part []
     let t : Nat := 0
     let q : Fin 64 := 0
     let w : Word := 0x80070000#32
     let u := s.tick t
     let good := u.get (Reg.HIF_SQ_BASE_LO q) % 4096 = 0 ∧ u.get (Reg.HIF_CQ_BASE_LO q) % 4096 = 0 ∧ bits w.toNat 27 16 ≠ 0
     (u.reaches .hif = true) ∧ (u.flag (Reg.HIF_QP_CFG_EN q) = false) ∧ (bitAt w.toNat 31 = true) ∧ (good) ∧ (q.val = 0 ∨ u.flag (Reg.HIF_QP_CFG_EN 0) = true)) ∧
    (let s : State := part [(Reg.HIF_SQ_BASE_LO 0, 4)]
     let t : Nat := 0
     let q : Fin 64 := 0
     let w : Word := 0x80070000#32
     let u := s.tick t
     let good := u.get (Reg.HIF_SQ_BASE_LO q) % 4096 = 0 ∧ u.get (Reg.HIF_CQ_BASE_LO q) % 4096 = 0 ∧ bits w.toNat 27 16 ≠ 0
     (u.reaches .hif = true) ∧ (u.flag (Reg.HIF_QP_CFG_EN q) = false) ∧ (bitAt w.toNat 31 = true) ∧ (¬ good)) ∧
    (let s : State := part []
     let t : Nat := 0
     let q : Fin 64 := 63
     let w : Word := 0x80070000#32
     let u := s.tick t
     let good := u.get (Reg.HIF_SQ_BASE_LO q) % 4096 = 0 ∧ u.get (Reg.HIF_CQ_BASE_LO q) % 4096 = 0 ∧ bits w.toNat 27 16 ≠ 0
     (u.reaches .hif = true) ∧ (u.flag (Reg.HIF_QP_CFG_EN q) = false) ∧ (bitAt w.toNat 31 = true) ∧ (good) ∧ (q.val ≠ 0) ∧ (u.flag (Reg.HIF_QP_CFG_EN 0) = false)) ∧
    (let s : State := part [(Reg.HIF_QP_CFG_EN 0, 1)]
     let t : Nat := 0
     let q : Fin 64 := 0
     let w : Word := 0x80070000#32
     let u := s.tick t
     (u.reaches .hif = true) ∧ (u.flag (Reg.HIF_QP_CFG_EN q) = true) ∧ (bitAt w.toNat 31 = true)) ∧
    (let s : State := hostOn QpSt.reset []
     let t : Nat := 0
     let q : Fin 64 := 0
     let w : Word := 7#32
     let u := s.tick t
     (u.hostUp = true) ∧ (u.qpState q = 1) ∧ (w.toNat < u.qpDepth q)) ∧
    (let s : State := hostOn QpSt.reset []
     let t : Nat := 0
     let q : Fin 64 := 0
     let w : Word := 8#32
     let u := s.tick t
     (u.hostUp = true) ∧ (u.qpState q = 1) ∧ (u.qpDepth q ≤ w.toNat)) ∧
    (let s : State := hostOn QpSt.reset [(Reg.HIF_CQ_TAIL_TAIL 0, 2)]
     let t : Nat := 0
     let q : Fin 64 := 0
     let w : Word := 2#32
     let u := s.tick t
     let tail := u.get (Reg.HIF_CQ_TAIL_TAIL q)
     (u.hostUp = true) ∧ (u.qpState q = 1) ∧ (w.toNat = tail) ∧ (tail < u.qpDepth q)) ∧
    (let s : State := hostOn QpSt.reset [(Reg.HIF_SQ_TAIL 0, 1)]
     let t : Nat := 0
     let q : Fin 64 := 0
     let entry : List Byte := 0x81#8 :: 0#8 :: 7#8 :: 0#8 :: 0#8 :: 0#8 :: 0#8 :: 0#8 :: 0#8 :: 0x10#8 :: List.replicate 54 0#8
     let u := s.tick t
     let head := (u.get (Reg.HIF_QP_STATUS_SQ_HEAD q) + 1) % u.qpDepth q
     let cmd := HostCmd.ofEntry entry head u.hif.order
     (u.hostUp = true) ∧ (u.flag Reg.HTP_SHUTDOWN_STATUS_SHUTDOWN = false) ∧ (u.nextPair = some q) ∧ (u.entryStatus q cmd entry = 0)) ∧
    (let s : State := hostOn QpSt.reset [(Reg.HIF_SQ_TAIL 0, 1)]
     let t : Nat := 0
     let q : Fin 64 := 0
     let entry : List Byte := List.replicate 64 0xFF#8
     let u := s.tick t
     let head := (u.get (Reg.HIF_QP_STATUS_SQ_HEAD q) + 1) % u.qpDepth q
     let cmd := HostCmd.ofEntry entry head u.hif.order
     (u.hostUp = true) ∧ (u.flag Reg.HTP_SHUTDOWN_STATUS_SHUTDOWN = false) ∧ (u.nextPair = some q) ∧ (u.entryStatus q cmd entry ≠ 0)) ∧
    (let s : State := hostOn { QpSt.reset with ready := [{ cid := 7, sqHead := 1, status := 0, result := 5, after := none }] } [(Reg.HIF_CQ_TAIL_TAIL 0, 7), (Reg.HIF_CQ_HEAD 0, 3)]
     let t : Nat := 0
     let q : Fin 64 := 0
     let c : Completion := { cid := 7, sqHead := 1, status := 0, result := 5, after := none }
     let u := s.tick t
     (u.hostUp = true) ∧ (u.cqRoom q = true) ∧ ((u.qp q).ready = [c]) ∧ (c.after = none)) ∧
    (let s : State := hostOn { QpSt.reset with coalesced := 2 } []
     let t : Nat := 0
     let q : Fin 64 := 0
     let u := s.tick t
     (u.hostUp = true) ∧ ((u.qp q).coalesced ≠ 0) ∧ (u.hif.feature1 = 0)) ∧
    (let s : State := part []
     let t : Nat := 0
     let u := s.tick t
     (u.reaches .hif = true)) :=
  ⟨by decide +kernel, by decide +kernel, by decide +kernel, by decide +kernel, by decide +kernel, by decide +kernel, by decide +kernel, by decide +kernel, by decide +kernel, by decide +kernel, by decide +kernel, by decide +kernel⟩

/-- The hypotheses of StoreCommands, clause by clause. -/
theorem wit_storeCommands :
    (let s : State := hostCmdOn (cmd1 1)
     let t : Nat := 0
     let q : Fin 64 := 0
     let cid : Nat := 7
     let c : HostCmd := cmd1 1
     let pages : List Nat := []
     let u := s.tick t
     (u.running q cid 1 = some c) ∧ (c.further pages ≠ none) ∧ (u.get Reg.HIF_WBUF_USED + 4096 * c.nblk ≤ u.get Reg.HIF_WBUF_BYTES)) ∧
    (let s : State := hostOn { QpSt.reset with outstanding := [cmd1 1] } [(Reg.HIF_WBUF_BYTES, 4096), (Reg.HIF_WBUF_USED, 4096)]
     let t : Nat := 0
     let q : Fin 64 := 0
     let cid : Nat := 7
     let c : HostCmd := cmd1 1
     let pages : List Nat := []
     let u := s.tick t
     (u.running q cid 1 = some c) ∧ (c.further pages ≠ none) ∧ (u.get Reg.HIF_WBUF_BYTES < u.get Reg.HIF_WBUF_USED + 4096 * c.nblk)) ∧
    (let s : State := hostCmdOn (cmd1 2)
     let t : Nat := 0
     let q : Fin 64 := 0
     let cid : Nat := 7
     let c : HostCmd := cmd1 2
     let pages : List Nat := []
     let u := s.tick t
     (u.running q cid 2 = some c) ∧ (c.further pages ≠ none) ∧ (u.hif.wbuf = []) ∧ (u.mss.poisoned = [])) ∧
    (let s : State := hostCmdOn (cmd1 4)
     let t : Nat := 0
     let q : Fin 64 := 0
     let cid : Nat := 7
     let c : HostCmd := cmd1 4
     let u := s.tick t
     (u.running q cid 4 = some c) ∧ (c.takeForm = false)) ∧
    (let s : State := hostCmdOn { cmd1 4 with flags := 1 }
     let t : Nat := 0
     let q : Fin 64 := 0
     let cid : Nat := 7
     let c : HostCmd := { cmd1 4 with flags := 1 }
     let u := s.tick t
     let p : ReelDesc := { q := 0, cid := 7, op := 4, reel := 0, take := 0 }
     (p = { q := q, cid := c.cid, op := c.op, reel := c.arg0 % 8, take := c.arg1 % 65536 }) ∧ (p ∉ u.hif.descs) ∧ (u.running q cid 4 = some c) ∧ (c.takeForm = true)) ∧
    (let s : State := hostCmdOn (cmd1 5)
     let t : Nat := 0
     let q : Fin 64 := 0
     let cid : Nat := 7
     let c : HostCmd := cmd1 5
     let u := s.tick t
     let p : ReelDesc := { q := 0, cid := 7, op := 5, reel := 0, take := 0 }
     (p = { q := q, cid := c.cid, op := c.op, reel := c.arg0 % 8, take := c.arg1 % 65536 }) ∧ (p ∉ u.hif.descs) ∧ (u.running q cid 5 = some c)) ∧
    (let s : State := hostCmdOn (cmd1 6)
     let t : Nat := 0
     let q : Fin 64 := 0
     let cid : Nat := 7
     let c : HostCmd := cmd1 6
     let u := s.tick t
     let p : ReelDesc := { q := 0, cid := 7, op := 6, reel := 0, take := 0 }
     (p = { q := q, cid := c.cid, op := c.op, reel := c.arg0 % 8, take := c.arg1 % 65536 }) ∧ (p ∉ u.hif.descs) ∧ (u.running q cid 6 = some c)) ∧
    (let s : State := let h := hostCmdOn (cmd1 5); { h with hif := { h.hif with descs := [{ q := 0, cid := 7, op := 5, reel := 0, take := 1 }] }, clip := ClipSt.reset }
     let t : Nat := 0
     let d : ReelDesc := { q := 0, cid := 7, op := 5, reel := 0, take := 1 }
     let rest : List ReelDesc := []
     let poison : Nat := 1
     let x : HostCmd := cmd1 5
     let u := s.tick t
     (u.hif.descs = d :: rest) ∧ (u.hostCmd d.q d.cid = some x) ∧ (poison % 256 ≠ 0)) ∧
    (let s : State := let h := hostCmdOn (cmd1 4); { h with hif := { h.hif with descs := [{ q := 0, cid := 7, op := 4, reel := 0, take := 1 }] }, clip := ClipSt.reset }
     let t : Nat := 0
     let d : ReelDesc := { q := 0, cid := 7, op := 4, reel := 0, take := 1 }
     let rest : List ReelDesc := []
     let poison : Nat := 0
     let x : HostCmd := cmd1 4
     let u := s.tick t
     let reel := u.reel d.reel
     (u.hif.descs = d :: rest) ∧ (u.hostCmd d.q d.cid = some x) ∧ (poison % 256 = 0) ∧ (d.op = 4) ∧ (reel.takeSlot d.take = none)) ∧
    (let s : State := let h := hostCmdOn (cmd1 4); { h with hif := { h.hif with descs := [{ q := 0, cid := 7, op := 4, reel := 0, take := 1 }] }, clip := clipOf { reelClosed with openTake := 1 } }
     let t : Nat := 0
     let d : ReelDesc := { q := 0, cid := 7, op := 4, reel := 0, take := 1 }
     let rest : List ReelDesc := []
     let poison : Nat := 0
     let x : HostCmd := cmd1 4
     let u := s.tick t
     let reel := u.reel d.reel
     (u.hif.descs = d :: rest) ∧ (u.hostCmd d.q d.cid = some x) ∧ (poison % 256 = 0) ∧ (d.op = 4) ∧ (reel.takeSlot d.take ≠ none) ∧ (reel.erasable d.take = false)) ∧
    (let s : State := let h := hostCmdOn (cmd1 4); { h with hif := { h.hif with descs := [{ q := 0, cid := 7, op := 4, reel := 0, take := 1 }] }, clip := clipOf reelClosed }
     let t : Nat := 0
     let d : ReelDesc := { q := 0, cid := 7, op := 4, reel := 0, take := 1 }
     let rest : List ReelDesc := []
     let poison : Nat := 0
     let x : HostCmd := cmd1 4
     let u := s.tick t
     let reel := u.reel d.reel
     (u.hif.descs = d :: rest) ∧ (u.hostCmd d.q d.cid = some x) ∧ (poison % 256 = 0) ∧ (d.op = 4) ∧ (reel.takeSlot d.take ≠ none) ∧ (reel.erasable d.take = true)) ∧
    (let s : State := let h := hostCmdOn (cmd1 5); { h with hif := { h.hif with descs := [{ q := 0, cid := 7, op := 5, reel := 0, take := 1 }] }, clip := clipOf reelClosed }
     let t : Nat := 0
     let d : ReelDesc := { q := 0, cid := 7, op := 5, reel := 0, take := 1 }
     let rest : List ReelDesc := []
     let poison : Nat := 0
     let x : HostCmd := cmd1 5
     let u := s.tick t
     (u.hif.descs = d :: rest) ∧ (u.hostCmd d.q d.cid = some x) ∧ (poison % 256 = 0) ∧ (d.op = 5) ∧ ((u.pinTake d.reel d.take true).1.1 = true)) ∧
    (let s : State := let h := hostCmdOn (cmd1 6); { h with hif := { h.hif with descs := [{ q := 0, cid := 7, op := 6, reel := 0, take := 1 }] }, clip := clipOf reelClosed }
     let t : Nat := 0
     let d : ReelDesc := { q := 0, cid := 7, op := 6, reel := 0, take := 1 }
     let rest : List ReelDesc := []
     let poison : Nat := 0
     let x : HostCmd := cmd1 6
     let u := s.tick t
     (u.hif.descs = d :: rest) ∧ (u.hostCmd d.q d.cid = some x) ∧ (poison % 256 = 0) ∧ (d.op = 6) ∧ ((u.pinTake d.reel d.take false).1.1 = true)) :=
  ⟨by decide +kernel, by decide +kernel, by decide +kernel, by decide +kernel, by decide +kernel, by decide +kernel, by decide +kernel, by decide +kernel, by decide +kernel, by decide +kernel, by decide +kernel, by decide +kernel, by decide +kernel⟩

/-- The hypotheses of FlushWaitsForCopies, clause by clause. -/
theorem wit_flushWaitsForCopies :
    (let s : State := let h := hostCmdOn (cmd1 3); { h with hif := { h.hif with wbuf := [{ q := 1, cid := 5, slba := 2, nblk := 1, data := [1#8, 2#8], order := 2 }], failed := [] } }
     let t : Nat := 0
     let q : Fin 64 := 0
     let cid : Nat := 7
     let c : HostCmd := cmd1 3
     let u := s.tick t
     (u.running q cid 3 = some c) ∧ (∃ x ∈ u.hif.wbuf, x.order < c.order)) ∧
    (let s : State := let h := hostCmdOn (cmd1 3); { h with hif := { h.hif with wbuf := [{ q := 1, cid := 5, slba := 2, nblk := 1, data := [1#8, 2#8], order := 5 }], failed := [] } }
     let t : Nat := 0
     let q : Fin 64 := 0
     let cid : Nat := 7
     let c : HostCmd := cmd1 3
     let u := s.tick t
     (u.running q cid 3 = some c) ∧ (∀ x ∈ u.hif.wbuf, c.order ≤ x.order) ∧ (∀ o ∈ u.hif.failed, c.order ≤ o)) ∧
    (let s : State := let h := hostCmdOn (cmd1 3); { h with hif := { h.hif with wbuf := [{ q := 1, cid := 5, slba := 2, nblk := 1, data := [1#8, 2#8], order := 5 }], failed := [2] } }
     let t : Nat := 0
     let q : Fin 64 := 0
     let cid : Nat := 7
     let c : HostCmd := cmd1 3
     let u := s.tick t
     (u.running q cid 3 = some c) ∧ (∀ x ∈ u.hif.wbuf, c.order ≤ x.order) ∧ (∃ o ∈ u.hif.failed, o < c.order)) ∧
    (let s : State := let h := hostCmdOn (cmd1 3); { h with hif := { h.hif with wbuf := [{ q := 1, cid := 5, slba := 2, nblk := 1, data := [1#8, 2#8], order := 2 }], failed := [] } }
     let t : Nat := 0
     let e : WbufEntry := { q := 1, cid := 5, slba := 2, nblk := 1, data := [1#8, 2#8], order := 2 }
     let rest : List WbufEntry := []
     let bad : List Nat := [63]
     let u := s.tick t
     (u.hif.wbuf = e :: rest) ∧ (∃ b ∈ bad, b < 64 * e.nblk)) :=
  ⟨by decide +kernel, by decide +kernel, by decide +kernel, by decide +kernel⟩

/-- The hypotheses of AdminCommands, clause by clause. -/
theorem wit_adminCommands :
    (let s : State := hostCmdOn (cmd1 0x81)
     let t : Nat := 0
     let cid : Nat := 7
     let c : HostCmd := cmd1 0x81
     let pages : List Nat := []
     let u := s.tick t
     (u.running 0 cid 0x81 = some c) ∧ (c.further pages ≠ none)) ∧
    (let s : State := hostCmdOn { cmd1 0x82 with arg0 := 3 }
     let t : Nat := 0
     let cid : Nat := 7
     let c : HostCmd := { cmd1 0x82 with arg0 := 3 }
     let pages : List Nat := []
     let nonce : List Byte := []
     let b : List Byte := ((s.tick t).logPage 3 []).getD []
     let u := s.tick t
     (u.running 0 cid 0x82 = some c) ∧ (c.further pages ≠ none) ∧ (u.logPage (c.arg0 % 256) nonce = some b)) ∧
    (let s : State := hostCmdOn (cmd1 0x83)
     let t : Nat := 0
     let cid : Nat := 7
     let c : HostCmd := cmd1 0x83
     let u := s.tick t
     (u.running 0 cid 0x83 = some c)) ∧
    (let s : State := hostCmdOn { cmd1 0x84 with arg0 := 1, arg1 := 0x105 }
     let t : Nat := 0
     let cid : Nat := 7
     let c : HostCmd := { cmd1 0x84 with arg0 := 1, arg1 := 0x105 }
     let u := s.tick t
     (u.running 0 cid 0x84 = some c)) ∧
    (let s : State := hostCmdOn { cmd1 0x85 with arg0 := 2 }
     let t : Nat := 0
     let cid : Nat := 7
     let c : HostCmd := { cmd1 0x85 with arg0 := 2 }
     let u := s.tick t
     let target := c.arg0 % 8
     let st := u.get Reg.HTP_PWR_STATUS_STATE
     let may := u.flag Reg.HTP_PWR_STATUS_BUSY = false ∧ powerListed st target = true ∧
      (st = 0 → ∀ y ∈ UnitId.all, y.pixel = true → u.enabled y = false)
     (u.running 0 cid 0x85 = some c) ∧ (u.checks = []) ∧ (u.htp.hostCmd ≠ some cid) ∧ (may)) ∧
    (let s : State := hostCmdOn (cmd1 0x85)
     let t : Nat := 0
     let cid : Nat := 7
     let c : HostCmd := cmd1 0x85
     let u := s.tick t
     let target := c.arg0 % 8
     let st := u.get Reg.HTP_PWR_STATUS_STATE
     let may := u.flag Reg.HTP_PWR_STATUS_BUSY = false ∧ powerListed st target = true ∧
      (st = 0 → ∀ y ∈ UnitId.all, y.pixel = true → u.enabled y = false)
     (u.running 0 cid 0x85 = some c) ∧ (u.checks = []) ∧ (u.htp.hostCmd ≠ some cid) ∧ (¬ may)) ∧
    (let s : State := let h := hostCmdOn { cmd1 0x86 with arg0 := 3, arg1 := 9 }; { h with hif := { h.hif with qps := h.hif.qps.set 3 { QpSt.reset with outstanding := [{ cmd1 1 with cid := 9 }] } } }
     let t : Nat := 0
     let cid : Nat := 7
     let c : HostCmd := { cmd1 0x86 with arg0 := 3, arg1 := 9 }
     let x : HostCmd := { cmd1 1 with cid := 9 }
     let q : Fin 64 := 3
     let u := s.tick t
     let k := c.arg1 % 65536
     (u.running 0 cid 0x86 = some c) ∧ (c.arg0 % 64 = q.val) ∧ (q.val ≠ 0) ∧ (u.hostCmd q k = some x) ∧ (x.op ≠ 0x85)) ∧
    (let s : State := hostCmdOn { cmd1 0x86 with arg0 := 3, arg1 := 9 }
     let t : Nat := 0
     let cid : Nat := 7
     let c : HostCmd := { cmd1 0x86 with arg0 := 3, arg1 := 9 }
     let q : Fin 64 := 3
     let u := s.tick t
     let k := c.arg1 % 65536
     (u.running 0 cid 0x86 = some c) ∧ (c.arg0 % 64 = q.val) ∧ (q.val ≠ 0) ∧ (u.hostCmd q k = none)) ∧
    (let s : State := hostCmdOn { cmd1 0x87 with nblk := 2, dptr2 := 0x2000 }
     let t : Nat := 0
     let cid : Nat := 7
     let c : HostCmd := { cmd1 0x87 with nblk := 2, dptr2 := 0x2000 }
     let pages : List Nat := [0x2000]
     let u := s.tick t
     (u.running 0 cid 0x87 = some c) ∧ (c.further pages = some pages) ∧ (u.snap.writing = none) ∧ (u.snap.waiting = [])) :=
  ⟨by decide +kernel, by decide +kernel, by decide +kernel, by decide +kernel, by decide +kernel, by decide +kernel, by decide +kernel, by decide +kernel, by decide +kernel⟩

/-- The hypotheses of HostLink, clause by clause. -/
theorem wit_hostLink :
    (let s : State := { hostCmdOn (cmd1 1) with locks := locks3 }
     let t : Nat := 0
     let u := s.tick t
     (u.clocked = true)) ∧
    (let s : State := { hostCmdOn (cmd1 1) with boot := { (part []).boot with pcieIds := [1#8] } }
     let t : Nat := 0
     let st : Fin 6 := 5
     let u := s.tick t
     (u.clocked = true) ∧ (st.val = 0 ∨ u.linkAllowed = true)) ∧
    (let s : State := hostCmdOn (cmd1 1)
     let t : Nat := 0
     let st : Fin 6 := 5
     let u := s.tick t
     (u.clocked = true) ∧ (st.val ≠ 0) ∧ (u.linkAllowed = false)) :=
  ⟨by decide +kernel, by decide +kernel, by decide +kernel⟩

/-- The hypotheses of BootAndRetention, clause by clause. -/
theorem wit_bootAndRetention :
    (let s : State := State.reset
     let t : Nat := 0
     let u := s.tick t
     (u.boot.stage = .held)) ∧
    (let s : State := { part ((List.range 16).map (fun c => (Reg.MSS_CH_STATUS_TRAIN c, if c = 3 then 3 else 2))) with boot := { BootSt.reset with stage := .training } }
     let t : Nat := 0
     let u := s.tick t
     (u.trained = true)) ∧
    (let s : State := { part [] with boot := { BootSt.reset with stage := .running, busOpen := true, kprHold := true } }
     let t : Nat := 0
     let u := s.tick t
     (u.reaches .scc = true) ∧ (u.boot.rails = true)) ∧
    (let s : State := { part [] with boot := { BootSt.reset with stage := .running, busOpen := true, retaining := some 4 } }
     let t : Nat := 0
     let u := s.tick t
     (u.boot.retaining = some 4)) ∧
    (let s : State := { part [] with boot := { BootSt.reset with stage := .running, busOpen := true, retaining := some 3 } }
     let t : Nat := 0
     let u := s.tick t
     (u.boot.retaining = some 3)) ∧
    (let s : State := { part [] with boot := { BootSt.reset with stage := .running, busOpen := true, rails := false } }
     let t : Nat := 0
     let u := s.tick t
     (u.boot.rails = false)) :=
  ⟨by decide +kernel, by decide +kernel, by decide +kernel, by decide +kernel, by decide +kernel, by decide +kernel⟩

/-- The hypotheses of FlashAndFuses, clause by clause. -/
theorem wit_flashAndFuses :
    (let s : State := { part [] with htp := { HtpSt.reset with zones := Vector.replicate 9 { dev := 0, broken := false, temp := 1361 } } }
     let t : Nat := 0
     let u := s.tick t
     (u.reaches .scc = true) ∧ (u.flag Reg.SCC_FLASH_STATUS_BUSY = false) ∧ (u.writeTemp = true)) ∧
    (let s : State := { part [] with boot := { BootSt.reset with stage := .running, busOpen := true, flashOp := some (.erase 0x10000) } }
     let t : Nat := 0
     let a : Nat := 0x10000
     let u := s.tick t
     (u.boot.flashOp = some (.erase a))) ∧
    (let s : State := { part [] with boot := { BootSt.reset with stage := .running, busOpen := true, flashOp := some (.program 0x100 [1#8, 2#8]) } }
     let t : Nat := 0
     let a : Nat := 0x100
     let d : List Byte := [1#8, 2#8]
     let u := s.tick t
     (u.boot.flashOp = some (.program a d))) ∧
    (let s : State := coldPart [(Reg.SCC_FUSE_DATA 0, 5)]
     let t : Nat := 0
     let u := s.tick t
     let cold := u.writeTemp = false
     (u.reaches .scc = true) ∧ (u.boot.fuseOp = none) ∧ (cold)) ∧
    (let s : State := { part [] with boot := { BootSt.reset with stage := .running, busOpen := true, fuseOp := some { bits := [2048] } } }
     let t : Nat := 0
     let op : FuseOp := { bits := [2048] }
     let u := s.tick t
     (u.boot.fuseOp = some op)) :=
  ⟨by decide +kernel, by decide +kernel, by decide +kernel, by decide +kernel, by decide +kernel⟩

/-- The hypotheses of ZonesAndMonitors, clause by clause. -/
theorem wit_zonesAndMonitors :
    (let s : State := { coldPart [(Reg.HTP_THR_CRIT_CRITICAL, 1600)] with htp := { HtpSt.reset with zones := Vector.replicate 9 { dev := 0, broken := false, temp := 480 }, critical := 1 } }
     let t : Nat := 0
     let raw : List Int := List.replicate 9 480
     let u := s.tick t
     (u.live .htp = true) ∧ (u.plan.bookings = []) ∧ (∀ x ∈ raw, -32768 ≤ x ∧ x < 32768) ∧ (raw.length = 9) ∧ (∀ y : Fin 9, (u.zone y).broken = false ∧ u.zoneDev raw y = 0)) ∧
    (let s : State := part [(Reg.HTP_SHUTDOWN_STATUS_SHUTDOWN, 1)]
     let t : Nat := 0
     let u := s.tick t
     (u.flag Reg.HTP_SHUTDOWN_STATUS_SHUTDOWN = true) ∧ (u.boot.stage ≠ .stopped) ∧ (u.htp.windowEnd ≤ u.now)) ∧
    (let s : State := coldPart []
     let t : Nat := 0
     let change : Int := -300
     let u := s.tick t
     (u.reaches .htp = true) ∧ (u.live .htp = true) ∧ (-32768 ≤ change) ∧ (change < 32768)) :=
  ⟨by decide +kernel, by decide +kernel, by decide +kernel⟩

/-- The hypotheses of PowerAndGauges, clause by clause. -/
theorem wit_powerAndGauges :
    (let s : State := part []
     let t : Nat := 0
     let w : Word := 7#32
     let u := s.tick t
     let target := w.toNat % 8
     (u.reaches .htp = true) ∧ (u.checks = []) ∧ (4 < target)) ∧
    (let s : State := part []
     let t : Nat := 0
     let w : Word := 0x80000002#32
     let u := s.tick t
     let target := w.toNat % 8
     let st := u.get Reg.HTP_PWR_STATUS_STATE
     let may := u.flag Reg.HTP_PWR_STATUS_BUSY = false ∧ powerListed st target = true ∧ (st = 0 → ∀ y ∈ UnitId.all, y.pixel = true → u.enabled y = false)
     (u.reaches .htp = true) ∧ (u.checks = []) ∧ (target ≤ 4) ∧ (bitAt w.toNat 31 = true) ∧ (may)) ∧
    (let s : State := part []
     let t : Nat := 0
     let w : Word := 0x80000000#32
     let u := s.tick t
     let target := w.toNat % 8
     let st := u.get Reg.HTP_PWR_STATUS_STATE
     let may := u.flag Reg.HTP_PWR_STATUS_BUSY = false ∧ powerListed st target = true ∧ (st = 0 → ∀ y ∈ UnitId.all, y.pixel = true → u.enabled y = false)
     (u.reaches .htp = true) ∧ (u.checks = []) ∧ (target ≤ 4) ∧ (bitAt w.toNat 31 = true) ∧ (¬ may)) ∧
    (let s : State := part [(Reg.HTP_PWR_STATUS_BUSY, 1), (Reg.HTP_PWR_STATUS_TARGET, 2)]
     let t : Nat := 0
     let u := s.tick t
     let goal := u.get Reg.HTP_PWR_STATUS_TARGET
     (u.live .htp = true) ∧ (u.flag Reg.HTP_PWR_STATUS_BUSY = true) ∧ (u.flag Reg.HTP_SHUTDOWN_STATUS_SHUTDOWN = false) ∧ (u.powerWaits goal = false)) ∧
    (let s : State := part [(Reg.HTP_GAUGE_MASK, 1)]
     let t : Nat := 0
     let w : Word := 4#32
     let g : Fin 32 := 0
     let which : Fin 3 := 2
     let u := s.tick t
     let f := if which.val = 0 then Reg.HTP_GAUGE_CFG g else if which.val = 1 then Reg.HTP_GAUGE_ORIGIN g else Reg.HTP_GAUGE_WIDTH g
     let val := if which.val = 0 then w &&& 0xF3FF8000#32 else w
     let cfg := u.setReg f.ofs val
     let legal := u.variant.gaugeSource (cfg.get (Reg.HTP_GAUGE_CFG_SRC_KIND g)) (cfg.get (Reg.HTP_GAUGE_CFG_INDEX g)) = true ∧
      (cfg.get (Reg.HTP_GAUGE_CFG_SRC_KIND g) = 0 ∨ cfg.flag (Reg.HTP_GAUGE_CFG_LOG2 g) = true ∨ cfg.get (Reg.HTP_GAUGE_WIDTH g) ≠ 0)
     (u.reaches .htp = true) ∧ (legal) ∧ (u.reg f.ofs ≠ val)) ∧
    (let s : State := part []
     let t : Nat := 0
     let w : Word := 0#32
     let g : Fin 32 := 0
     let which : Fin 3 := 0
     let u := s.tick t
     let f := if which.val = 0 then Reg.HTP_GAUGE_CFG g else if which.val = 1 then Reg.HTP_GAUGE_ORIGIN g else Reg.HTP_GAUGE_WIDTH g
     let val := if which.val = 0 then w &&& 0xF3FF8000#32 else w
     let cfg := u.setReg f.ofs val
     let legal := u.variant.gaugeSource (cfg.get (Reg.HTP_GAUGE_CFG_SRC_KIND g)) (cfg.get (Reg.HTP_GAUGE_CFG_INDEX g)) = true ∧
      (cfg.get (Reg.HTP_GAUGE_CFG_SRC_KIND g) = 0 ∨ cfg.flag (Reg.HTP_GAUGE_CFG_LOG2 g) = true ∨ cfg.get (Reg.HTP_GAUGE_WIDTH g) ≠ 0)
     (u.reaches .htp = true) ∧ (legal) ∧ (u.reg f.ofs = val)) ∧
    (let s : State := part []
     let t : Nat := 0
     let w : Word := 0xF0000000#32
     let g : Fin 32 := 0
     let which : Fin 3 := 0
     let u := s.tick t
     let f := if which.val = 0 then Reg.HTP_GAUGE_CFG g else if which.val = 1 then Reg.HTP_GAUGE_ORIGIN g else Reg.HTP_GAUGE_WIDTH g
     let val := if which.val = 0 then w &&& 0xF3FF8000#32 else w
     let cfg := u.setReg f.ofs val
     let legal := u.variant.gaugeSource (cfg.get (Reg.HTP_GAUGE_CFG_SRC_KIND g)) (cfg.get (Reg.HTP_GAUGE_CFG_INDEX g)) = true ∧
      (cfg.get (Reg.HTP_GAUGE_CFG_SRC_KIND g) = 0 ∨ cfg.flag (Reg.HTP_GAUGE_CFG_LOG2 g) = true ∨ cfg.get (Reg.HTP_GAUGE_WIDTH g) ≠ 0)
     (u.reaches .htp = true) ∧ (¬ legal)) ∧
    (let s : State := part [(Reg.HTP_GAUGE_CFG_SRC_KIND 0, 3), (Reg.HTP_GAUGE_CFG_INDEX 0, 5), (Reg.HTP_GAUGE_WIDTH 0, 4)]
     let t : Nat := 0
     let g : Fin 32 := 0
     let u := s.tick t
     (u.live .htp = true) ∧ (u.get (Reg.HTP_GAUGE_CFG_SRC_KIND g) = 3)) :=
  ⟨by decide +kernel, by decide +kernel, by decide +kernel, by decide +kernel, by decide +kernel, by decide +kernel, by decide +kernel, by decide +kernel⟩

/-- The hypotheses of StepRunsFront, clause by clause. -/
theorem wit_stepRunsFront :
    (let s : State := part []
     (s.pending = [])) := by decide +kernel

/-- Whether a command answers a next state. -/
def answers (c : Instr) (s : State) : Bool :=
  match exec c s with
  | .next _ => true
  | _ => false

/-- SensorAndCorrectionFrame: every command it names answers a next state. -/
theorem wit_sensorAndCorrectionFrame :
    ([.marker 0 0 [] 0, .cdrLock 0 0, .cdrLockLost 0 0, .adaptDone 0 0 [] 0, .ctleTrack 0 0 0 0 0 0, .fs 0 0 [], .fe 0 0 [], .ls 0 0 [],
      .emb 0 0 [], .stat 0 0 [], .statTempExpire 0 0, .headerError 0 0 [], .lineDeadline 0 0, .prbsCheckLock 0 0 [],
      .prbsCheckUnlock 0 0 [], .prbsGo 0 0, .prbsInjectPeriod 0 0, .prbsClr 0 0, .sctlPush 0 0 [], .sctlLaunch 0 0,
      .sctlEntryDone 0 0 0 [], .sctlTimeout 0 0, .trigLeadingEdge 0 0, .trigTrailingEdge 0 0, .linkRun 0 0 0, .linkStop 0 0 0,
      .linkRelock 0 0 0, .linkClr 0 0 0, .runoutTimeout 0 0, .patternFs 0 0, .patternFrameClose 0 0, .rfeRowComplete 0,
      .rfeTableWrite 0 0 0#32, .swapBlack 0, .swapCol 0, .swapGain 0, .tableCopyDone 0, .rfeTableParity 0 0 0 0 false,
      .calModeWrite 0 0#32, .calRunWrite 0, .calRun 0, .stepDark 0, .stepFlat 0, .calStepComputeDone 0, .calAccept 0,
      .calDiscard 0, .calClr 0] :
      List Instr).all (fun c => answers c (part [])) = true := by decide +kernel

/-- SceneAndCodecFrame: every command it names answers a next state. -/
theorem wit_sceneAndCodecFrame :
    ([.sceneSof 0, .sceneRow 0, .mfDescriptorReceive 0, .histReset 0, .cseClr 0, .cseParity 0 .demosaic, .lutLoad 0 0,
      .lutFetchDone 0 0, .rpTableSwap 0 0, .rpHeldLoadStart 0 0, .rpParity 0 0, .pictureStart 0 0,
      .pictureEnd 0 0 { rows := [], guard := none, au := [], vectors := [], recon := [] }, .forceIrap 0 0, .pcdSesClr 0 0,
      .decGridInstant 0 0 .nothing, .decOutputPost 0 0 dec1, .pcdParity 0 0 .band, .jobStart 0 0, .jobEnd 0 0,
      .rpkRingTailWrite 0 0 0#32, .rpkCplHeadWrite 0 0 0#32, .swJobStart 0 0, .swJobComplete 0 0 [], .rpkEngClr 0 0,
      .rpkParity 0 0] :
      List Instr).all (fun c => answers c (part [])) = true := by decide +kernel

/-- DisplayAndTimeFrame: every command it names answers a next state. -/
theorem wit_displayAndTimeFrame :
    ([.tgVblank 0 0, .tgActiveStart 0 0, .tgActiveEnd 0 0, .underrun 0 0 0 0 0, .tgClr 0 0, .paletteSwap 0 0,
      .riFrame 0 0 0 false false 0 0, .riFrameWritten 0 0 { y := [], cb := [], cr := [] } [] [],
      .riLockLost 0 0 { y := [], cb := [], cr := [] }, .psrEnter 0 0, .psrEntryDone 0 0, .psrExit 0 0, .retrain 0 0,
      .panelTrainDone 0 0 false false, .hpdChange 0 0 false false, .auxCmd 0 0 0#32 [], .st2110VideoPacket 0 0,
      .st2110AudioPacket 0 0, .ethLinkChange 0 0 false, .audioFrameBoundary 0 0 [], .noBoundary 0 0, .audioGo 0, .leadInStart 0 0,
      .audioStart 0 0 [], .audioArm 0 0, .apuStop 0 0, .audioSwap 0 0, .apuClr 0 0, .slotMapWrite 0 0 0 0 0#32, .trailEnd 0 0,
      .txBlockArrive 0 0, .rateWindow 0 0 0, .fsyncLoss 0 0, .recBlockWrite 0 0, .recBlockMissing 0 0, .refEdge 0 0,
      .refEdgeTimeout 0, .ptpSync 0 0 0 0 0 0, .ptpAnnounce 0 0 { rank := [], identity := 0, port := 0 }, .ptpSyncLoss 0 0 false,
      .refSrcWrite 0 0#32, .ptpActiveSwitch 0 0#32, .setTime 0 false, .snapTime 0, .ptpEventStamp 0 0 false 0, .tsPop 0 0,
      .ltcInFrame 0 false 0 0 0 0 false 0 0, .ltcOutFrame 0, .riLock 0 0 0 0#32] :
      List Instr).all (fun c => answers c (part [])) = true := by decide +kernel

/-- MemoryAndPoolFrame: every command it names answers a next state. -/
theorem wit_memoryAndPoolFrame :
    ([.slotTableWrap 0, .trainingDone 0 0 false, .zqcs 0 0, .refreshDue 0 0, .ddrHotChange 0 false, .ddrHotCool 0, .arbTurn 0 0 [],
      .dramReadReturn 0 0 0 .good false false 0, .coppiceRecompute 0 0 0 false .good, .slotSwap 0 0, .slotClr 0 0, .crcTest 0,
      .recWrite 0 0 false, .takeOpen 0 0, .takeOpenRetry 0 0, .takeClose 0 0, .reelDescriptor 0 0, .cpPost 0 0 [] .ok,
      .cpRead 0 0 .ok 0, .cpIdleTimeout 0 0, .sweepDone 0 0, .queueReset 0 0, .queueReinstate 0 0, .cpqClr 0 0,
      .freeRebuildDone 0, .cpWrCfgWrite 0 0 0#32, .portPush 0 0 0 .ok, .cpRdCfgWrite 0 0 0#32, .portPop 0 0 .ok 0,
      .lockAcquire 0 .host 0, .lockRelease 0 .host 0, .breakLock 0 .host 0, .caParityAlert 0 0 0] :
      List Instr).all (fun c => answers c { part [] with mss := mssGiB }) = true := by decide +kernel

/-- DeviceAndHostFrame: every command it names answers a next state. -/
theorem wit_deviceAndHostFrame :
    ([.registerWrite 0 .host 0 0#32, .unitEnable 0 .rfe, .unitDisable 0 .rfe, .csCommit 0, .consistencyCheck 0, .unitIdle 0 .rfe,
      .bar0BadAccess 0 false 0, .apertureAccess 0 0 none 0 [], .msixUnmask 0 none false,
      .mgmtTransaction 0 0 0#32 0#32 false false, .qpEnable 0 0 0#32, .sqDoorbell 0 0 0#32, .cqDoorbell 0 0 0#32,
      .sqFetch 0 [] false, .completionPost 0 0, .coalesceTimer 0 0, .hostWrite 0 0 0 [] [] false, .hostRead 0 0 0 [] [] false,
      .flush 0 0 0, .trim 0 0 0, .pin 0 0 0, .unpin 0 0 0, .identify 0 0 [] false, .getLog 0 0 [] [] false, .getFeature 0 0,
      .setFeature 0 0, .setPower 0 0, .abort 0 0, .snapshot 0 0 [] false, .wbufCopyDone 0 [], .pcieReset 0, .perstAssert 0,
      .linkChange 0 0 0 0 false, .resetRelease 0, .bootLoad 0, .erase 0, .program 0, .flashOpDone 0 false, .reboot 0, .advance 0,
      .keyHash 0 0, .revoke 0 0, .vendorDisable 0, .dbgClose 0, .lifecycleRetired 0, .fuseDone 0 false, .kprHoldRise 0,
      .htpSample 0 [], .shutdownWindowEnd 0 false, .readmit 0 0, .lifeTick 0, .ageMonitorUpdate 0 0 0, .vmonSample 0 0 0,
      .powerCommand 0 0#32, .powerTransitionDone 0, .gaugeSnap 0, .gaugeCfgWrite 0 0 0 0#32, .resetReq 0 .rfe, .graftReq 0 .rfe,
      .graftPoint 0 .rfe 0, .graftLoadDone 0 .rfe, .unitFreeze 0 .rfe false, .unitRemoval 0 .rfe 0, .drainEnd 0 .rfe,
      .snapRequest 0, .snapDone 0, .eventRecordWrite 0, .intStatusClear 0 0 0#32, .intForce 0 0 0#32,
      .unitViewWrite 0 .host 0 0#32, .sapwoodWatchdog 0 0, .gpioFnWrite 0 0 0#32, .kprHoldFall 0, .gaugePeriodicSample 0 0,
      .mediaTimeSecond 0, .gpioPulseEnd 0 0] :
      List Instr).all (fun c => answers c (part [])) = true := by decide +kernel

end Sys2Proof.Tests
end

section
/-!
SUPPORT. What the clock's advance at the start of a command leaves as it was: the variant (R3).
-/

namespace Sys2Proof.Machine

/-- What every step of a fold leaves as it was, the fold leaves as it was. -/
theorem foldl_keeps {α σ β : Type} (g : σ → β) (f : σ → α → σ) (h : ∀ s a, g (f s a) = g s) (l : List α) (s : σ) :
    g (l.foldl f s) = g s := by
  induction l generalizing s with
  | nil => rfl
  | cons a l ih => exact (ih (f s a)).trans (h s a)

@[simp] theorem State.raise_variant (s : State) (u : UnitId) (n : Nat) : (s.raise u n).variant = s.variant := by
  obtain ⟨r, i, o, h⟩ := State.raise_shape s u n
  rw [h]

/-- How a Return Ingest or a panel port that is not idle stops: its STATE clears, with an interrupt. -/
theorem State.ite_put_raise_variant (s : State) (c : Prop) [Decidable c] (f : Fld) (u : UnitId) (n : Nat) :
    (if c then s else (s.put f 0).raise u n).variant = s.variant := by
  split
  · rfl
  · rw [State.raise_variant, State.put_variant]

@[simp] theorem State.unitOff_variant (s : State) (u : UnitId) : (s.unitOff u).variant = s.variant := by
  have keeps : ∀ (f : State → Nat → State) (_ : ∀ s k, (f s k).variant = s.variant) (n : Nat) (s : State),
      ((List.range n).foldl f s).variant = s.variant := fun f h n s => foldl_keeps State.variant f h _ s
  unfold State.unitOff
  extract_lets s₁
  have h₁ : s₁.variant = s.variant := State.put_variant ..
  rw [← h₁]
  clear_value s₁
  cases u with
  | ore =>
    refine (keeps _ ?panels _ _).trans ((keeps _ ?ingests _ _).trans (keeps _ ?grids _ _))
    case panels => exact fun s k => s.ite_put_raise_variant ..
    case ingests => exact fun s k => s.ite_put_raise_variant ..
    case grids => exact fun s k => s.put_variant ..
  | apu =>
    refine keeps _ ?ports _ _
    case ports => intro s p; rw [State.put_variant]
  | _ => rfl

@[simp] theorem State.settleLeaving_variant (s : State) : s.settleLeaving.variant = s.variant := by
  unfold State.settleLeaving
  refine (foldl_keeps State.variant _ ?stop _ _).trans ?paths
  case stop =>
    intro s u
    split
    · exact s.unitOff_variant u
    · rfl
  case paths => split <;> rfl

@[simp] theorem State.holdoverSlew_variant (s : State) : s.holdoverSlew.variant = s.variant := by
  unfold State.holdoverSlew
  split
  · dsimp only
    split
    · rfl
    · split <;> rfl
  · rfl

@[simp] theorem State.clock_variant (s : State) (t : Nat) : (s.clock t).variant = s.variant := by
  unfold State.clock
  split
  · rfl
  · exact State.holdoverSlew_variant _

/-- No command begins by changing the variant. -/
@[simp] theorem State.tick_variant (s : State) (t : Nat) : (s.tick t).variant = s.variant := by
  rw [State.tick, State.settleLeaving_variant, State.clock_variant]

end Sys2Proof.Machine
end

section
/-!
CERTIFICATE. The variant as it is shown: DEV_VARIANT, DEV_UNITS_PRESENT and the windows of absent units (R5, R6, R7).
-/

namespace Sys2Proof.Machine

/-! ### The device-common window (R5, R6) -/

/-- No shutdown and no variant hides a register of the device-common window. -/
theorem State.readReg_dev (s : State) (r : Requester) {ofs : Nat} (h : ofs < 0x100000) : s.readReg r ofs = s.devValue r ofs := by
  have hu : ofs / 0x100000 = 0 := Nat.div_eq_of_lt h
  simp [State.readReg, Variant.hasReg, UnitId.ofId, hu]

theorem State.readReg_devVariant (s : State) (r : Requester) : s.readReg r Reg.DEV_VARIANT.ofs = s.variant.code := by
  rw [State.readReg_dev s r (by decide)]
  rfl

theorem State.readReg_devUnitsPresent (s : State) (r : Requester) :
    s.readReg r Reg.DEV_UNITS_PRESENT.ofs = s.variant.unitsPresent := by
  rw [State.readReg_dev s r (by decide)]
  rfl

theorem Variant.unitsPresent_bit_id (v : Variant) (x : UnitId) : bitAt v.unitsPresent x.id = v.has x := by
  cases v <;> cases x <;> rfl

theorem Variant.unitsPresent_lt (v : Variant) : v.unitsPresent < 2 ^ 13 := by
  cases v <;> decide

theorem bitAt_of_lt {v m n : Nat} (h : v < 2 ^ m) (hn : m ≤ n) : bitAt v n = false := by
  have hv : v / 2 ^ n = 0 := Nat.div_eq_of_lt (Nat.lt_of_lt_of_le h (Nat.pow_le_pow_right (by decide) hn))
  simp [bitAt, hv]

/-! ### The window of an absent unit (R7) -/

theorem UnitId.ofId_id (x : UnitId) : UnitId.ofId x.id = some x := by
  cases x <;> rfl

theorem UnitId.one_le_id (x : UnitId) : 1 ≤ x.id := by
  cases x <;> decide

/-- Offsets of a unit's window lie beyond the device-common window. -/
theorem UnitId.window_base_le (x : UnitId) {ofs : Nat} (h : ofs / 0x100000 = x.id) : 0x100000 ≤ ofs := by
  have := x.one_le_id
  omega

theorem Variant.hasReg_absent (v : Variant) (x : UnitId) {ofs : Nat} (h : ofs / 0x100000 = x.id) (ha : v.has x = false) :
    v.hasReg ofs = false := by
  have := x.one_le_id
  unfold Variant.hasReg
  split
  · omega
  · simp [h, UnitId.ofId_id, ha]

theorem State.readReg_absent (s : State) (r : Requester) {ofs : Nat} (h : s.variant.hasReg ofs = false) : s.readReg r ofs = 0 := by
  simp [State.readReg, h]

/-- Outside a shutdown a write to an absent unit is ignored, whatever the offset. -/
theorem State.busWrite_absent (s : State) (r : Requester) (x : UnitId) {ofs : Nat} (w : Word) (h : ofs / 0x100000 = x.id)
    (ha : s.variant.has x = false) (hup : s.flag Reg.HTP_SHUTDOWN_STATUS_SHUTDOWN = false) : s.busWrite r ofs w = s := by
  have hbase : ¬ ofs < 0x100000 := Nat.not_lt.mpr (x.window_base_le h)
  have hreg := s.variant.hasReg_absent x h ha
  simp [State.busWrite, hup, hbase, h, UnitId.ofId_id, hreg]

/-- A register write that the bus leaves without effect only moves the clock on. -/
theorem exec_registerWrite_ignored (s : State) (t : Nat) (r : Requester) (ofs : Nat) (w : Word)
    (h : (s.tick t).busWrite r ofs w = s.tick t) : exec (.registerWrite t r ofs w) s = .next (s.tick t) := by
  simp [exec, execRegisterWrite, h]

/-- Settles O42: the two registers are functions of the variant, an absent unit has no register, and the clock's advance keeps the
variant. -/
theorem variantShown : Obligations.VariantShown := by
  intro s t r ofs w
  rw [s.readReg_devVariant r, s.readReg_devUnitsPresent r]
  refine ⟨?code, ?mask, ?devWindow, s.variant.unitsPresent_bit_id, fun n hn => bitAt_of_lt s.variant.unitsPresent_lt hn,
    fun x ha hofs => ⟨?read, fun hup => ?write⟩⟩
  case code => cases s.variant <;> rfl
  case mask => cases s.variant <;> rfl
  case devWindow => cases s.variant <;> rfl
  case read => exact s.readReg_absent r (s.variant.hasReg_absent x hofs ha)
  case write =>
    have ha' : (s.tick t).variant.has x = false := by rw [State.tick_variant]; exact ha
    exact exec_registerWrite_ignored s t r ofs w ((s.tick t).busWrite_absent r x w hofs ha' hup)

end Sys2Proof.Machine
end

section
/-!
SUPPORT. What an announcement of a summary and an event message leave of the registers (R379, R449, R451), and what an interrupt
(R451, R470), a logged event (R449) and a refusal (R471) leave to be read.
-/

namespace Sys2Proof.Machine

/-! ### Announcements and event messages -/

theorem KeepsRegs.get {u v : State} {l : List Nat} (h : KeepsRegs u v l []) {f : Fld} (hf : f.ofs ∉ l) : v.get f = u.get f := by
  rw [State.get, State.get, h f.ofs hf (fun _ hm => absurd hm List.not_mem_nil)]

/-- The pending bits of the 2,048 vectors are among the registers that a notice may change. -/
theorem msixPba_mem_notices {v : Nat} (hv : v < 2048) (us : List Nat) : (Reg.HIF_MSIX_PBA (v / 32)).ofs ∈ notices us := by
  have hk : v / 32 < 64 := by omega
  simp only [notices, List.mem_append, List.mem_map, List.mem_range]
  exact .inl (.inr ⟨v / 32, hk, rfl⟩)

theorem State.sendVector_keepsRegs (s : State) {v : Nat} (hv : v < 2048) : KeepsRegs s (s.sendVector v) (notices []) [] := by
  unfold State.sendVector
  split
  · exact .of_regs rfl _ _
  · exact (keepsRegs_put s _ 1).mono (by simpa using msixPba_mem_notices hv []) (fun _ h => h)

/-- The vector that DEV_INT_VEC routes a unit to has 11 bits. -/
theorem State.intVector_lt (s : State) (u : Nat) : s.get (Reg.DEV_INT_VEC_VECTOR u) < 2048 := Nat.mod_lt _ (Nat.two_pow_pos 11)

theorem State.announce_keepsRegs (s : State) (u : Nat) : KeepsRegs s (s.announce u) (notices []) [] := by
  unfold State.announce
  extract_lets s₁ s₂
  have h₁ : KeepsRegs s s₁ (notices []) [] := by
    dsimp only [s₁]
    split
    · exact s.sendVector_keepsRegs (s.intVector_lt u)
    · exact .refl s _ _
  have h₂ : s₂.regs = s₁.regs := by
    obtain ⟨o, h⟩ := s₁.coresOut_shape u
    rw [show s₂ = _ from h]
  refine h₁.trans (.of_regs ?_ _ _)
  split
  · exact h₂
  · exact h₂

theorem State.refreshSummary_keepsRegs (s : State) (u : Nat) : KeepsRegs s (s.refreshSummary u) (notices []) [] := by
  unfold State.refreshSummary
  extract_lets was is s₁
  have h₁ : KeepsRegs s s₁ (notices []) [] := (keepsRegs_put s _ _).mono (by simp [notices]) (fun _ h => h)
  split
  · exact h₁.trans (s₁.announce_keepsRegs u)
  · split
    · exact h₁.trans (.of_regs rfl _ _)
    · exact h₁

theorem State.devRaise_keepsRegs (s : State) (n : Nat) : KeepsRegs s (s.devRaise n) (notices []) [] := by
  unfold State.devRaise
  refine .trans (.trans (.of_regs rfl _ _) ((keepsRegs_put _ _ _).mono ?_ (fun _ h => h))) (State.refreshSummary_keepsRegs _ 0)
  simp [notices]

theorem State.message_keepsRegs (s : State) (m : EvtMsg) : KeepsRegs s (s.message m) (notices []) [] := by
  unfold State.message
  split
  · exact .of_regs rfl _ _
  · refine .trans (.trans (.of_regs rfl _ _) ((keepsRegs_put _ _ _).mono ?_ (fun _ h => h))) (State.devRaise_keepsRegs _ 6)
    simp [notices]

/-! ### Refusals -/

theorem unitRefuse_not_mem_notices (u : UnitId) : (Reg.UNIT_REFUSE u.id).ofs ∉ notices [] := by
  cases u <;> decide

theorem State.setRefuse_reason (s : State) (u code ofs : Nat) :
    (s.setRefuse u code ofs).get (Reg.UNIT_REFUSE_REASON u) = code % 2 ^ 16 := by
  rw [State.setRefuse, State.puts_cons, State.puts_cons, State.puts_cons, State.puts_nil]
  rw [State.get_put_other _ _ _ _ (by dsimp only; omega)]
  rw [State.get_put_apart _ _ _ _ (Nat.zero_le 15) (Nat.lt_add_one 31) (.inr (.inl (Nat.lt_add_one 15)))]
  exact State.get_put_self _ _ _ (Nat.lt_add_one 31)

/-- A refusal leaves its reason code in UNIT_REFUSE. -/
theorem State.refuse_reason (s : State) (u : UnitId) (code : Nat) (f : Fld) :
    (s.refuse u code f).get (Reg.UNIT_REFUSE_REASON u.id) = code % 2 ^ 16 := by
  have hmessage : KeepsRegs (s.setRefuse u.id code (f.ofs % 0x100000)) (s.refuse u code f) (notices []) [] :=
    .trans (.of_regs rfl _ _) (State.message_keepsRegs (State.fresh (State.fresh _).2).2 _)
  exact (hmessage.get (f := Reg.UNIT_REFUSE_REASON u.id) (unitRefuse_not_mem_notices u)).trans (s.setRefuse_reason u.id code _)

@[simp] theorem State.refuse_locks (s : State) (u : UnitId) (code : Nat) (f : Fld) : (s.refuse u code f).locks = s.locks := by
  obtain ⟨r, e, i, o, c, h⟩ := s.refuse_shape u code f
  rw [h]

theorem State.refuse_sameDram (s : State) (u : UnitId) (code : Nat) (f : Fld) : SameDram s (s.refuse u code f) := by
  obtain ⟨r, e, i, o, c, h⟩ := s.refuse_shape u code f
  rw [h]
  exact fun _ => rfl

/-! ### Interrupts with an event -/

theorem unitIntStatus_not_mem_notices (u : UnitId) : (Reg.UNIT_INT_STATUS u.id).ofs ∉ notices [] := by
  cases u <;> decide

/-- A bit of a whole register is the one-bit field at its place. -/
theorem State.bitAt_get_word (s : State) (o n : Nat) : bitAt (s.get ⟨o, 31, 0⟩) n = (s.get ⟨o, n, n⟩ == 1) := by
  have hw : (s.reg o).toNat % 2 ^ 32 = (s.reg o).toNat := Nat.mod_eq_of_lt (s.reg o).isLt
  simp only [State.get, bits, bitAt, Nat.pow_zero, Nat.div_one, Nat.add_sub_cancel_left, hw, Nat.sub_zero, Nat.reduceAdd, Nat.pow_one]

/-- The interrupt bit that was raised reads 1. -/
theorem State.raise_bit (s : State) (u : UnitId) {n : Nat} (hn : n < 32) :
    bitAt ((s.raise u n).get (Reg.UNIT_INT_STATUS u.id)) n = true := by
  unfold State.raise
  rw [(State.refreshSummary_keepsRegs _ _).get (unitIntStatus_not_mem_notices u), State.bitAt_get_word, State.get_put_self _ _ _ hn]
  simp

/-- A logged fault leaves its interrupt bit set. -/
theorem State.fault_bit (s : State) (u : UnitId) {n : Nat} (hn : n < 32) (inst cls frame arg0 arg1 : Nat) :
    bitAt ((s.fault u n inst cls frame arg0 arg1).get (Reg.UNIT_INT_STATUS u.id)) n = true := by
  unfold State.fault State.logEvt
  rw [(State.message_keepsRegs _ _).get (unitIntStatus_not_mem_notices u)]
  exact s.raise_bit u hn

/-- A fault sets an interrupt bit and sends one message. -/
theorem State.fault_shape (s : State) (u : UnitId) (n inst cls frame arg0 arg1 : Nat) :
    ∃ r e i o, s.fault u n inst cls frame arg0 arg1 = { s with regs := r, evt := e, intAt := i, outbox := o } := by
  unfold State.fault State.logEvt
  obtain ⟨r, i, o, h⟩ := s.raise_shape u n
  rw [h]
  exact State.message_shape _ _

@[simp] theorem State.fault_locks (s : State) (u : UnitId) (n inst cls frame arg0 arg1 : Nat) :
    (s.fault u n inst cls frame arg0 arg1).locks = s.locks := by
  obtain ⟨r, e, i, o, h⟩ := s.fault_shape u n inst cls frame arg0 arg1
  rw [h]

theorem State.fault_sameDram (s : State) (u : UnitId) (n inst cls frame arg0 arg1 : Nat) :
    SameDram s (s.fault u n inst cls frame arg0 arg1) := by
  obtain ⟨r, e, i, o, h⟩ := s.fault_shape u n inst cls frame arg0 arg1
  rw [h]
  exact fun _ => rfl

end Sys2Proof.Machine
end

section
/-!
SUPPORT. Reads and command writes of a unit that is reached (R7, R381, R430, R440): no presence, shutdown or removal stands between.
-/

namespace Sys2Proof.Machine

theorem State.reaches_iff (s : State) (u : UnitId) : s.reaches u = true ↔
    s.boot.busOpen = true ∧ s.flag Reg.HTP_SHUTDOWN_STATUS_SHUTDOWN = false ∧ s.variant.has u = true ∧ s.removed u = false := by
  simp [State.reaches, and_assoc]

/-- A write to a command register of a unit that it reaches acts on the state as it stands. -/
theorem State.ctl_reached (s : State) (u : UnitId) (f : Fld) (k : State → State) (h : s.reaches u = true) :
    s.ctl u true f k = k s := by
  obtain ⟨hbus, hup, hhas, hthere⟩ := (s.reaches_iff u).mp h
  simp [State.ctl, hbus, hup, hhas, hthere]

/-- A register beyond the common unit block, outside the table windows and without a shadow copy shows its status. -/
theorem State.readReg_reached (s : State) (r : Requester) {x : UnitId} {ofs : Nat} (h : s.reaches x = true) (hx : ofs / 0x100000 = x.id)
    (hw : 0x100 ≤ ofs % 0x100000) (hinst : s.variant.hasInst ofs = true) (htable : tableWindow ofs = false)
    (hcopy : ∀ row, Regs.find ofs = some row → row.access ≠ .rws) : s.readReg r ofs = s.statusValue ofs := by
  obtain ⟨-, hup, hhas, hthere⟩ := (s.reaches_iff x).mp h
  have hreg : s.variant.hasReg ofs = true := by
    unfold Variant.hasReg
    split
    · rfl
    · simp [hx, UnitId.ofId_id, hhas, hinst]
  have hcommon : ¬ ofs % 0x100000 < 0x100 := Nat.not_lt.mpr hw
  cases hrow : Regs.find ofs with
  | none => simp [State.readReg, hup, hreg, hx, UnitId.ofId_id, hcommon, hthere, htable, hrow]
  | some row => simp [State.readReg, hup, hreg, hx, UnitId.ofId_id, hcommon, hthere, htable, hrow, hcopy row hrow]

/-- Every variant has all instances of the SCC's registers. -/
theorem Variant.hasInst_scc (v : Variant) {ofs : Nat} (h : ofs / 0x100000 = 11) : v.hasInst ofs = true := by
  simp [Variant.hasInst, h]

/-- The SCC keeps no table apart from its registers. -/
theorem tableWindow_scc {ofs : Nat} (h : ofs / 0x100000 = 11) : tableWindow ofs = false := by
  simp [tableWindow, h]

/-- The offsets that a register group covers end with its last register. -/
theorem RegRow.lt_end_of_covers {row : RegRow} {o : Nat} (hs : 0 < row.s1) (h : row.covers o = true) :
    o < row.base + row.n1 * row.s1 := by
  simp only [RegRow.covers, Bool.and_eq_true, decide_eq_true_eq] at h
  obtain ⟨⟨⟨hbase, hinst⟩, -⟩, -⟩ := h
  have := (Nat.div_lt_iff_lt_mul hs).mp hinst
  omega

end Sys2Proof.Machine
end

section
/-!
CERTIFICATE. The hardware locks: release, BREAK and SCC_LOCK_PEEK (R372, R373, Table CPL-3).
-/

namespace Sys2Proof.Machine

/-! ### One lock of 256 -/

theorem State.setLock_lock (s : State) (n : Fin 256) (l : LockSt) : (s.setLock n l).locks[n] = l := by
  simp [State.setLock]

theorem State.setLock_lock_ne (s : State) {n m : Fin 256} (l : LockSt) (h : m ≠ n) : (s.setLock n l).locks[m] = s.locks[m] := by
  have hne : n.val ≠ m.val := fun e => h (Fin.ext e.symm)
  simp [State.setLock, Vector.getElem_set_ne _ _ hne]

@[simp] theorem State.setLock_regs (s : State) (n : Fin 256) (l : LockSt) : (s.setLock n l).regs = s.regs := rfl

theorem State.setLock_sameDram (s : State) (n : Fin 256) (l : LockSt) : SameDram s (s.setLock n l) := fun _ => rfl

theorem State.setReg_sameDram (s : State) (o : Nat) (w : Word) : SameDram s (s.setReg o w) := fun _ => rfl

theorem SameDram.trans {u v w : State} (h : SameDram u v) (k : SameDram v w) : SameDram u w := fun a => (k a).trans (h a)

/-! ### SCC_LOCK_PEEK (R372) -/

/-- The groups of the SCC with a shadow copy (the queues' configuration) end below SCC_LOCK_PEEK. -/
theorem sccRows_rws_below_peek : ∀ row ∈ Regs.sccRows, row.access = .rws → 0 < row.s1 ∧ row.base + row.n1 * row.s1 ≤ 0x50400 := by
  decide

theorem lockPeek_unit (n : Fin 256) : (Reg.SCC_LOCK_PEEK n).ofs / 0x100000 = 11 := by
  dsimp only
  omega

theorem lockPeek_window (n : Fin 256) : (Reg.SCC_LOCK_PEEK n).ofs % 0x100000 = 0x50400 + 4 * n.val := by
  dsimp only
  omega

theorem find_lockPeek_not_rws (n : Fin 256) (row : RegRow) (h : Regs.find (Reg.SCC_LOCK_PEEK n).ofs = some row) :
    row.access ≠ .rws := by
  have hrow : Regs.sccRows.find? (·.covers (0x50400 + 4 * n.val)) = some row := by
    rw [← h, Regs.find, lockPeek_unit, lockPeek_window, if_neg (by omega)]
    rfl
  intro hrws
  obtain ⟨hs, hend⟩ := sccRows_rws_below_peek row (List.mem_of_find?_eq_some hrow) hrws
  have hcovers : row.covers (0x50400 + 4 * n.val) = true := by simpa using List.find?_some hrow
  have := RegRow.lt_end_of_covers hs hcovers
  omega

theorem State.statusValue_lockPeek (s : State) (n : Fin 256) : s.statusValue (Reg.SCC_LOCK_PEEK n).ofs = s.peek n := by
  have hfree : (Reg.SCC_LOCK_PEEK n).ofs ≠ Reg.SCC_CP_FREE.ofs := by dsimp only; omega
  have hport : ¬ (0x32000 ≤ 0x50400 + 4 * n.val ∧ 0x50400 + 4 * n.val < 0x32800) := by omega
  have hpeek : 0x50400 ≤ 0x50400 + 4 * n.val ∧ 0x50400 + 4 * n.val < 0x50800 := by omega
  simp only [State.statusValue, lockPeek_unit n, lockPeek_window n, hfree, hport, hpeek]
  simp

/-- A read of SCC_LOCK_PEEK shows the lock's state and owner. -/
theorem State.readReg_lockPeek (s : State) (r : Requester) (n : Fin 256) (h : s.reaches .scc = true) :
    s.readReg r (Reg.SCC_LOCK_PEEK n).ofs = s.peek n := by
  have hwindow : 0x100 ≤ (Reg.SCC_LOCK_PEEK n).ofs % 0x100000 := by rw [lockPeek_window]; omega
  rw [s.readReg_reached r h (lockPeek_unit n) hwindow (s.variant.hasInst_scc (lockPeek_unit n)) (tableWindow_scc (lockPeek_unit n))
    (find_lockPeek_not_rws n), s.statusValue_lockPeek n]

/-! ### A write to SCC_LOCK (R372) -/

theorem State.release_owner (s : State) (n : Fin 256) (r : Nat) (hheld : s.locks[n].st = .held) (howner : s.locks[n].owner = r) :
    s.release n r = s.setLock n { st := .free, owner := 0 } := if_pos ⟨hheld, howner⟩

theorem State.release_other (s : State) (n : Fin 256) (r : Nat) (h : ¬ (s.locks[n].st = .held ∧ s.locks[n].owner = r)) :
    s.release n r = s.refuse .scc 0x0B34 (Reg.SCC_LOCK n) := if_neg h

theorem exec_lockRelease_reached (s : State) (t : Nat) (r : Requester) (n : Fin 256) (h : (s.tick t).reaches .scc = true) :
    exec (.lockRelease t r n) s = .next ((s.tick t).release n r.code) :=
  congrArg Host.Outcome.next ((s.tick t).ctl_reached .scc _ _ h)

/-! ### BREAK (R373) -/

theorem State.breakLock_held (s : State) (n : Fin 256) (writer : Nat) (h : s.locks[n].st = .held) :
    s.breakLock n writer = (s.setLock n { st := .broken, owner := s.locks[n].owner }).fault .scc 20 0 0x09 0 n
      (writer * 2 ^ 16 + s.locks[n].owner) := if_pos h

theorem State.breakLock_not_held (s : State) (n : Fin 256) (writer : Nat) (h : s.locks[n].st ≠ .held) : s.breakLock n writer = s :=
  if_neg h

/-- BREAK acts once SCC_LOCK_CTL holds the word written. -/
theorem exec_breakLock_reached (s : State) (t : Nat) (r : Requester) (n : Fin 256) (h : (s.tick t).reaches .scc = true) :
    exec (.breakLock t r n) s =
      .next (((s.tick t).setReg Reg.SCC_LOCK_CTL.ofs (BitVec.ofNat 32 (2 ^ 31 + n))).breakLock n r.code) :=
  congrArg Host.Outcome.next ((s.tick t).cmd_reached .scc _ _ _ h)

/-- A break stores the one lock, logs its event and raises LOCK_BROKEN. -/
theorem State.breakLock_held_spec (s : State) (n : Fin 256) (writer : Nat) (h : s.locks[n].st = .held) :
    (s.breakLock n writer).locks[n] = { st := .broken, owner := s.locks[n].owner } ∧
    (∀ m : Fin 256, m ≠ n → (s.breakLock n writer).locks[m] = s.locks[m]) ∧
    bitAt ((s.breakLock n writer).get (Reg.UNIT_INT_STATUS UnitId.scc.id)) 20 = true ∧ SameDram s (s.breakLock n writer) := by
  rw [s.breakLock_held n writer h, State.fault_locks]
  exact ⟨s.setLock_lock n _, fun m hm => s.setLock_lock_ne _ hm, State.fault_bit _ .scc (by decide) _ _ _ _ _,
    (s.setLock_sameDram n _).trans (State.fault_sameDram _ _ _ _ _ _ _ _)⟩

/-- Settles O36: a reached command is its lock operation, and each operation is a store of one lock or leaves the locks alone, with a
refusal or an event record whose registers lie apart. -/
theorem lockRelease : Obligations.LockRelease := by
  intro s t r n u l hreach
  have hrelease := exec_lockRelease_reached s t r n hreach
  have hbreak := exec_breakLock_reached s t r n hreach
  refine ⟨?peek, fun hheld howner => ⟨_, hrelease, ?released⟩, fun hother => ⟨_, hrelease, ?refused⟩,
    fun hheld => ⟨_, hbreak, ?broken⟩, fun hnot => ⟨_, hbreak, ?noBreak⟩⟩
  case peek =>
    rw [u.readReg_lockPeek r n hreach]
    change l.st.code * 2 ^ 30 + l.owner = _
    cases l.st <;> rfl
  case released =>
    rw [u.release_owner n _ hheld howner]
    exact ⟨by rw [State.setLock_lock], fun m hm => u.setLock_lock_ne _ hm, u.setLock_regs n _, u.setLock_sameDram n _⟩
  case refused =>
    rw [u.release_other n _ hother]
    exact ⟨u.refuse_locks _ _ _, u.refuse_reason .scc 0x0B34 _, u.refuse_sameDram _ _ _⟩
  case broken =>
    obtain ⟨hself, hothers, hbit, hdram⟩ := State.breakLock_held_spec (u.setReg Reg.SCC_LOCK_CTL.ofs (BitVec.ofNat 32 (2 ^ 31 + n)))
      n r.code (by rw [State.setReg_locks]; exact hheld)
    rw [State.setReg_locks] at hself hothers
    exact ⟨by rw [hself], by rw [hself], hothers, hbit, (u.setReg_sameDram _ _).trans hdram⟩
  case noBreak =>
    rw [State.breakLock_not_held _ n _ (by rw [State.setReg_locks]; exact hnot)]
    exact ⟨u.setReg_locks _ _, u.setReg_sameDram _ _⟩

end Sys2Proof.Machine
end

section
/-!
SUPPORT. Completions of the host interface (R384, R385, R398): a fetched command's completion, and what the completion queues and the
asynchronous events leave of the state.
-/

namespace Sys2Proof.Machine

/-! ### One queue pair of 64 -/

theorem getN_updN_self {α : Type} {n i : Nat} (v : Vector α n) (f : α → α) (d : α) (h : i < n) :
    getN (updN v i f) i d = f (getN v i d) := by
  simp [getN, updN, h]

theorem State.qp_setQp_self (s : State) {q : Nat} (f : QpSt → QpSt) (h : q < 64) : (s.setQp q f).qp q = f (s.qp q) :=
  getN_updN_self _ f _ h

/-! ### A command's completion (R384) -/

/-- A command that executes is a fetched one. -/
theorem State.hostCmd_of_running (s : State) {q cid op : Nat} {c : HostCmd} (h : s.running q cid op = some c) :
    s.hostCmd q cid = some c := by
  unfold State.running at h
  split at h
  · exact absurd h (Option.some_ne_none c).symm
  · exact (Option.filter_eq_some_iff.mp h).1

/-- The completion of a fetched command becomes the last of its pair that is ready to post. -/
theorem State.complete_ready (s : State) {q cid : Nat} {c : HostCmd} (status result : Nat) (hq : q < 64) (h : s.hostCmd q cid = some c) :
    ((s.complete q cid status result).qp q).ready = (s.qp q).ready ++
      [{ cid := cid, sqHead := c.sqHead, status := status, result := result, after := none }] := by
  simp only [State.complete, h, State.completeAfter, State.qp_setQp_self _ _ hq]

theorem State.complete_sameDram (s : State) (q cid status result : Nat) : SameDram s (s.complete q cid status result) := by
  unfold State.complete
  split
  · exact fun _ => rfl
  · exact fun _ => rfl

/-! ### Completion queues and asynchronous events (R385, R398) -/

theorem State.cqVector_shape (s : State) (q : Nat) :
    ∃ r o p, s.cqVector q = { s with regs := r, outbox := o, hif := { s.hif with qps := p } } := by
  unfold State.cqVector
  extract_lets n x vec
  split
  · obtain ⟨r, o, h⟩ := State.sendVector_shape (s.setQp q (fun x => { x with coalesced := 0 })) vec
    exact ⟨r, o, _, h⟩
  · exact ⟨_, _, _, rfl⟩

/-- An entry written to a CQ changes registers, what leaves the part and the queue pairs. -/
theorem State.cqWrite_shape (s : State) (q result sqHead cid status : Nat) :
    ∃ r o p, s.cqWrite q result sqHead cid status = { s with regs := r, outbox := o, hif := { s.hif with qps := p } } := by
  unfold State.cqWrite
  extract_lets tail phase entry s₁ s₂ s₃
  have h₃ : ∃ r, s₃ = { s₂ with regs := r } := by
    dsimp only [s₃]
    split
    · exact ⟨_, rfl⟩
    · exact ⟨_, rfl⟩
  obtain ⟨r₃, h₃⟩ := h₃
  obtain ⟨r, o, p, h⟩ := s₃.cqVector_shape q
  exact ⟨r, o, p, by rw [h, h₃]; rfl⟩

/-- The vector of a CQ has 11 bits. -/
theorem State.cqVector_lt (s : State) (q : Nat) : (if q = 0 then 0 else s.get (Reg.HIF_QP_CFG_VECTOR q)) < 2048 := by
  split
  · decide
  · exact Nat.mod_lt _ (Nat.two_pow_pos 11)

theorem State.cqVector_keepsRegs (s : State) (q : Nat) : KeepsRegs s (s.cqVector q) (notices []) [] := by
  unfold State.cqVector
  extract_lets n x vec
  split
  · exact .trans (.of_regs rfl _ _) (State.sendVector_keepsRegs _ (s.cqVector_lt q))
  · exact .of_regs rfl _ _

theorem State.cqWrite_keepsRegs (s : State) (q result sqHead cid status : Nat) :
    KeepsRegs s (s.cqWrite q result sqHead cid status) (notices [] ++ [(Reg.HIF_CQ_TAIL q).ofs]) [] := by
  unfold State.cqWrite
  extract_lets tail phase entry s₁ s₂ s₃
  have h₃ : KeepsRegs s₂ s₃ (notices [] ++ [(Reg.HIF_CQ_TAIL q).ofs]) [] := by
    dsimp only [s₃]
    split
    · exact (keepsRegs_puts s₂ _).mono (by simp) (fun _ h => h)
    · exact (keepsRegs_put s₂ _ _).mono (by simp) (fun _ h => h)
  exact .trans (.trans (.of_regs rfl _ _) h₃) ((s₃.cqVector_keepsRegs q).mono (fun _ h => List.mem_append_left _ h) (fun _ h => h))

/-- Posting the oldest held event, the step that `State.flushAev` repeats. -/
def State.postAev (s : State) : State :=
  match s.hif.aev with
  | r :: rest =>
    if s.cqRoom 0 then
      ({ s with hif := { s.hif with aev := rest } }).cqWrite 0 r (s.get (Reg.HIF_QP_STATUS_SQ_HEAD 0)) 0xFFFF 0x0F
    else s
  | [] => s

theorem State.flushAev_eq_foldl (s : State) : s.flushAev = s.hif.aev.foldl (fun v _ => v.postAev) s := rfl

/-- A step that posts nothing leaves the state; one that posts writes an entry of the admin CQ. -/
theorem State.postAev_cases (s : State) : s.postAev = s ∨ ∃ (rest : List Nat) (result sqHead : Nat),
    s.postAev = ({ s with hif := { s.hif with aev := rest } }).cqWrite 0 result sqHead 0xFFFF 0x0F := by
  unfold State.postAev
  split
  · split
    · exact .inr ⟨_, _, _, rfl⟩
    · exact .inl rfl
  · exact .inl rfl

theorem State.postAev_shape (s : State) :
    ∃ r o p a, s.postAev = { s with regs := r, outbox := o, hif := { s.hif with qps := p, aev := a } } := by
  obtain h | ⟨rest, result, sqHead, h⟩ := s.postAev_cases
  · exact ⟨_, _, _, _, h⟩
  · obtain ⟨r, o, p, hw⟩ := State.cqWrite_shape { s with hif := { s.hif with aev := rest } } 0 result sqHead 0xFFFF 0x0F
    exact ⟨r, o, p, rest, h.trans hw⟩

theorem State.postAev_keepsRegs (s : State) : KeepsRegs s s.postAev (notices [] ++ [(Reg.HIF_CQ_TAIL 0).ofs]) [] := by
  obtain h | ⟨rest, result, sqHead, h⟩ := s.postAev_cases
  · rw [h]
    exact .refl s _ _
  · rw [h]
    exact .trans (.of_regs rfl _ _) (State.cqWrite_keepsRegs _ 0 result sqHead 0xFFFF 0x0F)

/-- What holds of a state, and of what each posting makes of such a state, holds once the held events are posted. -/
theorem State.flushAev_induction {motive : State → Prop} (s : State) (start : motive s) (post : ∀ v, motive v → motive v.postAev) :
    motive s.flushAev := by
  rw [s.flushAev_eq_foldl]
  exact List.foldlRecOn _ _ start (fun v hv _ _ => post v hv)

/-- The held events that are posted change registers, what leaves the part, the queue pairs and the list of held events. -/
theorem State.flushAev_shape (s : State) :
    ∃ r o p a, s.flushAev = { s with regs := r, outbox := o, hif := { s.hif with qps := p, aev := a } } := by
  refine s.flushAev_induction
    (motive := fun v => ∃ r o p a, v = { s with regs := r, outbox := o, hif := { s.hif with qps := p, aev := a } })
    ⟨_, _, _, _, rfl⟩ ?post
  case post =>
    rintro _ ⟨r, o, p, a, rfl⟩
    obtain ⟨r', o', p', a', h⟩ := State.postAev_shape { s with regs := r, outbox := o, hif := { s.hif with qps := p, aev := a } }
    exact ⟨r', o', p', a', h⟩

theorem State.flushAev_keepsRegs (s : State) : KeepsRegs s s.flushAev (notices [] ++ [(Reg.HIF_CQ_TAIL 0).ofs]) [] :=
  s.flushAev_induction (motive := fun v => KeepsRegs s v _ []) (.refl s _ _) (fun v hv => hv.trans v.postAev_keepsRegs)

/-- Registers that an asynchronous event may change. -/
def aevRegs : List Nat := notices [] ++ [(Reg.HIF_CQ_TAIL 0).ofs] ++ [Reg.HIF_CNT_AEV_DROP.ofs]

theorem State.asyncEvent_shape (s : State) (typ page info : Nat) :
    ∃ r o p a, s.asyncEvent typ page info = { s with regs := r, outbox := o, hif := { s.hif with qps := p, aev := a } } := by
  unfold State.asyncEvent
  split
  · exact ⟨_, _, _, _, rfl⟩
  · split
    · extract_lets x
      split
      · obtain ⟨r, o, p, a, h⟩ := State.flushAev_shape { s with hif := { s.hif with aev := s.hif.aev ++ [x] } }
        exact ⟨r, o, p, a, h⟩
      · exact ⟨_, _, _, _, rfl⟩
    · exact ⟨_, _, _, _, rfl⟩

theorem State.asyncEvent_keepsRegs (s : State) (typ page info : Nat) : KeepsRegs s (s.asyncEvent typ page info) aevRegs [] := by
  unfold State.asyncEvent
  split
  · exact .refl s _ _
  · split
    · extract_lets x
      split
      · exact .trans (.of_regs rfl _ _) ((State.flushAev_keepsRegs _).mono (fun _ h => List.mem_append_left _ h) (fun _ h => h))
      · exact (keepsRegs_put s _ _).mono (by simp [aevRegs]) (fun _ h => h)
    · exact .refl s _ _

theorem hifIntStatus_not_mem_aevRegs : (Reg.UNIT_INT_STATUS UnitId.hif.id).ofs ∉ aevRegs := by decide

end Sys2Proof.Machine
end

section
/-!
CERTIFICATE. FLUSH and the write buffer's copies to the store (R391 to R393).
-/

namespace Sys2Proof.Machine

/-! ### FLUSH (R393) -/

theorem State.hostFlush_running (s : State) {q cid : Nat} {c : HostCmd} (h : s.running q cid 3 = some c) :
    s.hostFlush q cid = if s.hif.wbuf.any (fun e => decide (e.order < c.order)) then s
      else s.complete q cid (if s.hif.failed.any (fun o => decide (o < c.order)) then 0x0C else 0) 0 := by
  rw [State.hostFlush, h]

/-- An earlier WRITE that is not copied yet leaves the FLUSH waiting. -/
theorem State.hostFlush_waits (s : State) {q cid : Nat} {c : HostCmd} (h : s.running q cid 3 = some c)
    (hw : ∃ x ∈ s.hif.wbuf, x.order < c.order) : s.hostFlush q cid = s := by
  rw [s.hostFlush_running h, if_pos (by simpa using hw)]

/-- With every earlier WRITE copied the FLUSH completes, and earlier copies that failed decide its status. -/
theorem State.hostFlush_completes (s : State) {q cid : Nat} {c : HostCmd} (h : s.running q cid 3 = some c)
    (hw : ∀ x ∈ s.hif.wbuf, c.order ≤ x.order) :
    s.hostFlush q cid = s.complete q cid (if ∃ o ∈ s.hif.failed, o < c.order then 0x0C else 0) 0 := by
  rw [s.hostFlush_running h, if_neg (by simpa using hw)]
  simp

/-! ### The copy of the oldest buffered WRITE (R391, R392) -/

theorem State.read_write (s : State) (a : Nat) (b : List Byte) : (s.write a b).read a b.length = b := by
  refine List.ext_getElem (by simp [State.read]) (fun i _ hi => ?_)
  simp [State.read, State.readByte_write_inside s a i b hi]

/-- A copy's data reaches the store and leaves the write buffer, whether or not bursts of it fail. -/
def State.copyOldest (s : State) (e : WbufEntry) (rest : List WbufEntry) : State :=
  (({ s with hif := { s.hif with wbuf := rest } }).wbufShow).write (s.blockAddr e.slba) e.data

@[simp] theorem State.copyOldest_hif (s : State) (e : WbufEntry) (rest : List WbufEntry) :
    (s.copyOldest e rest).hif = { s.hif with wbuf := rest } := rfl

theorem State.copyOldest_read (s : State) (e : WbufEntry) (rest : List WbufEntry) :
    (s.copyOldest e rest).read (s.blockAddr e.slba) e.data.length = e.data := State.read_write _ _ _

theorem State.copyOldest_readByte_outside (s : State) (e : WbufEntry) (rest : List WbufEntry) {p : Nat}
    (h : p < s.blockAddr e.slba ∨ s.blockAddr e.slba + e.data.length ≤ p) : (s.copyOldest e rest).readByte p = s.readByte p :=
  State.readByte_write_outside _ _ p _ h

/-- The bursts of a WRITE whose copy fails are marked poisoned. -/
def State.poisonCopy (s : State) (a : Nat) (bad : List Nat) : State := bad.foldl (fun s b => s.poisonBursts (a + 64 * b) 64) s

@[simp] theorem State.poisonCopy_hif (s : State) (a : Nat) (bad : List Nat) : (s.poisonCopy a bad).hif = s.hif :=
  foldl_keeps State.hif (fun s b => s.poisonBursts (a + 64 * b) 64) (fun _ _ => rfl) bad s

/-- The host interface's own record of a failed copy: the error log entry, the order among those that failed, and DEFERRED_ERROR of the
pair (R392). -/
def State.recordFailedCopy (s : State) (e : WbufEntry) : State :=
  let s := s.logError e.q e.cid 0x0C e.slba e.nblk
  ({ s with hif := { s.hif with failed := e.order :: s.hif.failed } }).setQp e.q (fun x => { x with deferred := true })

@[simp] theorem State.recordFailedCopy_regs (s : State) (e : WbufEntry) : (s.recordFailedCopy e).regs = s.regs := rfl
@[simp] theorem State.recordFailedCopy_wbuf (s : State) (e : WbufEntry) : (s.recordFailedCopy e).hif.wbuf = s.hif.wbuf := rfl
@[simp] theorem State.recordFailedCopy_failed (s : State) (e : WbufEntry) :
    (s.recordFailedCopy e).hif.failed = e.order :: s.hif.failed := rfl

/-- What a failed copy leaves besides its poisoned bursts: the count, the interrupt, its event, the record of it and the asynchronous event
(R392). -/
def State.reportCopyFault (s : State) (e : WbufEntry) : State :=
  ((((s.count Reg.HIF_CNT_WRITE_FAULT 1).raise .hif 3).logFree .hif 0 3 0x0C 0).recordFailedCopy e).asyncEvent 1 1 e.q

theorem State.wbufCopied_good (s : State) {e : WbufEntry} {rest : List WbufEntry} (h : s.hif.wbuf = e :: rest) :
    s.wbufCopied [] = s.copyOldest e rest := by
  simp only [State.wbufCopied, h]
  rfl

/-- A copy with a failing burst of its own stores the data, poisons the bursts that fail and reports the fault. -/
theorem State.wbufCopied_fault (s : State) {e : WbufEntry} {rest : List WbufEntry} {bad : List Nat} (h : s.hif.wbuf = e :: rest)
    (hbad : ∃ b ∈ bad, b < 64 * e.nblk) :
    s.wbufCopied bad = ((s.copyOldest e rest).poisonCopy (s.blockAddr e.slba)
      (bad.filter (fun b => decide (b < 64 * e.nblk)))).reportCopyFault e := by
  have hsome : (bad.filter (fun b => decide (b < 64 * e.nblk))).isEmpty = false := by simpa using hbad
  simp only [State.wbufCopied, h, hsome]
  rfl

theorem State.logFree_keepsRegs (s : State) (u : UnitId) (inst code cls frame : Nat) :
    KeepsRegs s (s.logFree u inst code cls frame) (notices []) [] :=
  KeepsRegs.trans (.of_regs rfl _ _) (State.message_keepsRegs (State.fresh (State.fresh s).2).2 _)

@[simp] theorem State.count_hif (s : State) (f : Fld) (n : Nat) : (s.count f n).hif = s.hif := rfl

@[simp] theorem State.raise_hif (s : State) (u : UnitId) (n : Nat) : (s.raise u n).hif = s.hif := by
  obtain ⟨r, i, o, h⟩ := s.raise_shape u n
  rw [h]

@[simp] theorem State.logFree_hif (s : State) (u : UnitId) (inst code cls frame : Nat) :
    (s.logFree u inst code cls frame).hif = s.hif := by
  obtain ⟨r, e, i, o, c, h⟩ := s.logFree_shape u inst code cls frame
  rw [h]

/-- A reported fault adds the WRITE's order to those that failed and leaves the write buffer. -/
theorem State.reportCopyFault_wbuf_failed (s : State) (e : WbufEntry) :
    (s.reportCopyFault e).hif.wbuf = s.hif.wbuf ∧ (s.reportCopyFault e).hif.failed = e.order :: s.hif.failed := by
  unfold State.reportCopyFault
  generalize hlogged : ((s.count Reg.HIF_CNT_WRITE_FAULT 1).raise .hif 3).logFree .hif 0 3 0x0C 0 = v
  have hhif : v.hif = s.hif := by simp [← hlogged]
  obtain ⟨r, o, p, a, h⟩ := (v.recordFailedCopy e).asyncEvent_shape 1 1 e.q
  rw [h]
  simp [hhif]

/-- A reported fault leaves the interrupt bit WRITE_FAULT of the HIF set. -/
theorem State.reportCopyFault_bit (s : State) (e : WbufEntry) :
    bitAt ((s.reportCopyFault e).get (Reg.UNIT_INT_STATUS UnitId.hif.id)) 3 = true := by
  unfold State.reportCopyFault
  generalize hraised : (s.count Reg.HIF_CNT_WRITE_FAULT 1).raise .hif 3 = v
  have hbit : bitAt (v.get (Reg.UNIT_INT_STATUS UnitId.hif.id)) 3 = true := hraised ▸ State.raise_bit _ .hif (by decide)
  have hlog : KeepsRegs v ((v.logFree .hif 0 3 0x0C 0).recordFailedCopy e) (notices []) [] :=
    (v.logFree_keepsRegs .hif 0 3 0x0C 0).trans (.of_regs rfl _ _)
  rw [(State.asyncEvent_keepsRegs _ 1 1 e.q).get hifIntStatus_not_mem_aevRegs, hlog.get (unitIntStatus_not_mem_notices .hif)]
  exact hbit

theorem exec_flush (t : Nat) (q : Fin 64) (cid : Nat) (s : State) : exec (.flush t q cid) s = .next ((s.tick t).hostFlush q cid) := rfl

theorem exec_wbufCopyDone (t : Nat) (bad : List Nat) (s : State) : exec (.wbufCopyDone t bad) s = .next ((s.tick t).wbufCopied bad) := rfl

/-- Once every earlier WRITE is copied, a FLUSH completes with the status that the failed copies give, and DRAM is as it was. -/
theorem State.hostFlush_spec (s : State) (q : Fin 64) {cid status : Nat} {c : HostCmd} (hrun : s.running q cid 3 = some c)
    (hcopied : ∀ x ∈ s.hif.wbuf, c.order ≤ x.order)
    (hstatus : (if ∃ o ∈ s.hif.failed, o < c.order then 0x0C else 0) = status) :
    ((s.hostFlush q cid).qp q).ready = (s.qp q).ready ++
      [{ cid := cid, sqHead := c.sqHead, status := status, result := 0, after := none }] ∧ SameDram s (s.hostFlush q cid) := by
  rw [s.hostFlush_completes hrun hcopied, hstatus]
  exact ⟨s.complete_ready status 0 q.isLt (s.hostCmd_of_running hrun), s.complete_sameDram q cid status 0⟩

/-- Settles O45: a FLUSH that runs waits or completes its own fetched command, and a copy stores the oldest WRITE, whose order joins those
that failed when a burst of it fails. -/
theorem flushWaitsForCopies : Obligations.FlushWaitsForCopies := by
  intro s t q cid c e rest bad u done
  have hflush : exec (.flush t q cid) s = .next (u.hostFlush q cid) := exec_flush t q cid s
  have hcopy : ∀ bad, exec (.wbufCopyDone t bad) s = .next (u.wbufCopied bad) := fun bad => exec_wbufCopyDone t bad s
  clear_value u
  refine ⟨fun hrun => ⟨fun hwait => ?waits, fun hcopied hgood => ⟨_, hflush, ?good⟩, fun hcopied hbad => ⟨_, hflush, ?writeFault⟩⟩,
    fun hbuf => ⟨⟨_, hcopy [], ?copied⟩, fun hbad => ⟨_, hcopy bad, ?copyFault⟩⟩⟩
  case waits => rw [hflush, u.hostFlush_waits hrun hwait]
  case good =>
    have hnone : ¬ ∃ o ∈ u.hif.failed, o < c.order := fun ⟨o, ho, hlt⟩ => absurd hlt (Nat.not_lt.mpr (hgood o ho))
    exact u.hostFlush_spec q hrun hcopied (if_neg hnone)
  case writeFault => exact u.hostFlush_spec q hrun hcopied (if_pos hbad)
  case copied =>
    rw [u.wbufCopied_good hbuf]
    exact ⟨rfl, rfl, u.copyOldest_read e rest, fun p hp => u.copyOldest_readByte_outside e rest hp⟩
  case copyFault =>
    rw [u.wbufCopied_fault hbuf hbad]
    obtain ⟨hwbuf, hfailed⟩ := State.reportCopyFault_wbuf_failed ((u.copyOldest e rest).poisonCopy (u.blockAddr e.slba)
      (bad.filter (fun b => decide (b < 64 * e.nblk)))) e
    rw [State.poisonCopy_hif, State.copyOldest_hif] at hwbuf hfailed
    exact ⟨hwbuf, hfailed, State.reportCopyFault_bit _ e⟩

end Sys2Proof.Machine
end
